-- ==== Sys2Proof/Word.lean ====
section
/-! DEFINITION. The word types of the hub and their plainest names. -/

namespace Sys2Proof

/-- A byte of a packet or of frame memory. -/
abbrev Byte := BitVec 8

/-- Hub time: a count of microseconds that wraps modulo 2^32 (R167). -/
abbrev HubTime := BitVec 32

/-- A counter that the manual calls "32-bit, wrapping". -/
abbrev Count := BitVec 32

/-- A port number, 0 to 7. -/
abbrev Port := Fin 8

/-- A trigger line, 0 to 3. -/
abbrev LineNo := Fin 4

/-- A test engine, E0 or E1. -/
abbrev EngineNo := Fin 2

/-- A pass-through slot, 0 to 3. -/
abbrev SlotNo := Fin 4

/-- One of the nine egress queues: image queues 0 to 7, then the reply queue (8). -/
abbrev QueueNo := Fin 9

end Sys2Proof
end

