-- ==== Sys2Proof/Syntax.lean ====
section
/-! DEFINITION. The commands: one constructor for each row of spec/opcode_table.json, in the table's order.

A request row is the Management Unit's taking of that request (R169); its operands are the fields of
the request packet, each a number as the packet carries it (R177), so that a value outside its range is an
operand too. An event row carries the unit it happens to and what was received or measured. -/

namespace Sys2Proof

/-- A trunk packet: the header fields of Table 11-1 and the payload. The length field is the
payload's length (R178). -/
structure Packet where
  kind : Byte
  port : Byte
  tag : BitVec 16
  flags : BitVec 16
  payload : List Byte
  deriving DecidableEq, Repr

/-- The header fields a request's operands name: its tag and its target byte (R178). -/
structure ReqHeader where
  tag : Nat
  target : Nat
  deriving DecidableEq, Repr

/-- A lens axis (Table 5-1), in the manual's order. -/
inductive AxisId where
  | focus
  | zoom
  | iris
  deriving DecidableEq, Repr

/-- The four values that LENS_PROFILE_LOAD carries for one axis (R85), as sent. -/
structure ProfileParams where
  present : Nat
  max : Nat
  rate : Nat
  tolerance : Nat
  deriving DecidableEq, Repr

/-- The six sweep parameters of Table 4-3, as sent. -/
structure SweepParamsRaw where
  pair : Nat
  k : Nat
  repeats : Nat
  interval : Nat
  width : Nat
  scale : Nat
  deriving DecidableEq, Repr

/-- The fields of a view record as VIEW_LOAD sends them (R140, Table 8-1). -/
structure ViewParams where
  valid : Nat
  x0 : Nat
  y0 : Nat
  w : Nat
  h : Nat
  stepH : Nat
  stepV : Nat
  filterH : Nat
  filterV : Nat
  depth : Nat
  interval : Nat
  group : Nat
  deriving DecidableEq, Repr

/-- The two forms of EGRESS_SET (R163). -/
inductive EgressParams where
  | hub (lowShare replyGroup replyBurst : Nat)
  | port (burst : Nat)
  deriving DecidableEq, Repr

/-- The commands of the hub, one constructor for each row of the opcode table. -/
inductive Instr where
  /-- COLD_RESET (R2): power-on or the RESET input. -/
  | coldReset
  /-- TRUNK_UP (R156). -/
  | trunkUp
  /-- TRUNK_LOSS (R164). -/
  | trunkLoss
  /-- REQUEST_PACKET_RECEIVED (R168): a whole packet from the trunk. -/
  | requestPacketReceived (pkt : Packet)
  /-- BAD_REQUEST (R169): the head of the request queue fails check 1 or 2. -/
  | badRequest
  /-- PACKET_SEND_END (R159). -/
  | packetSendEnd
  /-- IMAGE_QUEUE_TAKES_PACKET (R157). -/
  | imageQueueTakesPacket (p : Port)
  /-- ANSWERED_SLOT_REPLY_OFFER (R171). -/
  | answeredSlotReplyOffer
  /-- IDENTIFY (R175). -/
  | identify (r : ReqHeader)
  /-- TIME_READ (R175). -/
  | timeRead (r : ReqHeader)
  /-- PART_RESET (R176). -/
  | partReset (r : ReqHeader)
  /-- READ_EVENTS (R173). -/
  | readEvents (r : ReqHeader)
  /-- NOTICE_SET (R174): the set of kinds, a 16-bit mask. -/
  | noticeSet (r : ReqHeader) (kinds : Nat)
  /-- ISOLATE (R6). -/
  | isolate (r : ReqHeader) (action : Nat)
  /-- PORT_READ (R13). -/
  | portRead (r : ReqHeader)
  /-- LINK_SET (R26). -/
  | linkSet (r : ReqHeader) (degrade drop : Nat)
  /-- LINK_TEST (R32). -/
  | linkTest (r : ReqHeader) (count : Nat)
  /-- DROP_HISTORY_READ (R36). -/
  | dropHistoryRead (r : ReqHeader)
  /-- ATTR_READ (R170). -/
  | attrRead (r : ReqHeader) (address count : Nat)
  /-- ATTR_WRITE (R170). -/
  | attrWrite (r : ReqHeader) (address : Nat) (words : List Nat)
  /-- PASS_THROUGH_TIMEOUT (R171): the slot's deadline. -/
  | passThroughTimeout (slot : SlotNo)
  /-- BUDGET_SET (R40), in mW. -/
  | budgetSet (r : ReqHeader) (budget : Nat)
  /-- PORT_POWER_SET (R43). -/
  | portPowerSet (r : ReqHeader) (grant limit priority allowance : Nat)
  /-- POWER_ON (R44). -/
  | powerOn (r : ReqHeader)
  /-- POWER_OFF (R54). -/
  | powerOff (r : ReqHeader)
  /-- DETECTION_END (R45): the measured load, in milliohm. -/
  | detectionEnd (p : Port) (load : Nat)
  /-- RAMP_OUTPUT_REACHED (R46): the output voltage, in mV. -/
  | rampOutputReached (p : Port) (output : Nat)
  /-- RAMP_FAIL (R46): the output voltage at the phase end, in mV. -/
  | rampFail (p : Port) (output : Nat)
  /-- OVERCURRENT_RISE (R47): the current, in mA. -/
  | overcurrentRise (p : Port) (current : Nat)
  /-- OVERCURRENT_FALL (R47): the current, in mA. -/
  | overcurrentFall (p : Port) (current : Nat)
  /-- TRIP (R47, R48): the current, in mA, 2 ms after the excursion began. -/
  | trip (p : Port) (current : Nat)
  /-- HARD_SHORT (R47, R48): the current, in mA. -/
  | hardShort (p : Port) (current : Nat)
  /-- COOLDOWN_END (R51). -/
  | cooldownEnd (p : Port)
  /-- SUPPLY_SAMPLE (R57): the measurement, in mV. -/
  | supplySample (millivolt : Nat)
  /-- TRAINING_ATTEMPT_END (R17, R19). -/
  | trainingAttemptEnd (p : Port)
  /-- LOCK_REPLY (R18). -/
  | lockReply (p : Port)
  /-- LOSS_OF_LOCK (R21). -/
  | lossOfLock (p : Port)
  /-- ERROR_WINDOW_END (R24, R25). -/
  | errorWindowEnd (p : Port)
  /-- BAD_UPSTREAM_PACKET (R16): the bytes received. -/
  | badUpstreamPacket (p : Port) (bytes : List Byte)
  /-- FRAME_START (R33). -/
  | frameStart (p : Port) (number width height id : Nat)
  /-- LINE (R34): the pixels as the 16-bit words of the packet. -/
  | line (p : Port) (number : Nat) (pixels : List Nat)
  /-- FRAME_END (R35). -/
  | frameEnd (p : Port) (linesSent status : Nat)
  /-- FILL_DEADLINE (R129). -/
  | fillDeadline (p : Port)
  /-- ACK (R29): the sequence byte. -/
  | ack (p : Port) (sequence : Nat)
  /-- ACK_WAIT_END (R30). -/
  | ackWaitEnd (p : Port)
  /-- DOWNSTREAM_MESSAGE_SENT (R28, R31). -/
  | downstreamMessageSent (p : Port)
  /-- ATTR_REPLY (R35, R171). -/
  | attrReply (p : Port) (attr status : Nat) (words : List Nat)
  /-- LENS_REPORT (R94, R95): axis and kind as the bytes of the packet. -/
  | lensReport (p : Port) (axis position kind : Nat)
  /-- LENS_DEADLINE (R96). -/
  | lensDeadline (p : Port) (axis : AxisId)
  /-- LENS_PROFILE_LOAD (R85). -/
  | lensProfileLoad (r : ReqHeader) (focus zoom iris : ProfileParams)
  /-- LENS_HOME (R89). -/
  | lensHome (r : ReqHeader) (axis : Nat)
  /-- LENS_MOVE (R90, R91). -/
  | lensMove (r : ReqHeader) (axis target : Nat)
  /-- LENS_STOP (R92). -/
  | lensStop (r : ReqHeader) (axis : Nat)
  /-- FOCUS_TABLE_LOAD (R100): points as (distance, focus position). -/
  | focusTableLoad (r : ReqHeader) (stop zoom : Nat) (points : List (Nat × Nat))
  /-- LENS_FOCUS_DISTANCE (R103). -/
  | lensFocusDistance (r : ReqHeader) (distance : Nat)
  /-- LENS_READ (R104). -/
  | lensRead (r : ReqHeader)
  /-- ENCODER_STEP (R105): the new levels of inputs A and B. -/
  | encoderStep (a b : Bool)
  /-- TRIGGER_TIMEOUT (R118). -/
  | triggerTimeout (p : Port)
  /-- TRIGGER_LINE_RISE (R107). -/
  | triggerLineRise (l : LineNo)
  /-- TRIGGER_LINE_FALL (R107). -/
  | triggerLineFall (l : LineNo)
  /-- FILTER_TIME_END (R107). -/
  | filterTimeEnd (l : LineNo)
  /-- ENCODER_SET (R106): the value as its 32 bits, two's complement. -/
  | encoderSet (r : ReqHeader) (value : Nat)
  /-- TRIGGER_LINE_SET (R108). -/
  | triggerLineSet (r : ReqHeader) (line filter : Nat)
  /-- TRIGGER_SET (R110). -/
  | triggerSet (r : ReqHeader) (source pitch phase direction policy timeout : Nat)
  /-- TRIGGER_SOFT (R113): the port mask. -/
  | triggerSoft (r : ReqHeader) (mask : Nat)
  /-- TRIGGER_READ (R121). -/
  | triggerRead (r : ReqHeader)
  /-- CABLE_TYPE_SET (R62). -/
  | cableTypeSet (r : ReqHeader) (type speed polarity threshold : Nat)
  /-- PORT_CABLE_SET (R63). -/
  | portCableSet (r : ReqHeader) (type length tolerance offset : Nat)
  /-- AUTO_SWEEP_SET (R64). -/
  | autoSweepSet (r : ReqHeader) (flags : Nat) (sweep : SweepParamsRaw)
  /-- SWEEP_REQUEST (R66). -/
  | sweepRequest (r : ReqHeader) (sweep : SweepParamsRaw) (powerDownFirst : Nat)
  /-- SETTLING_END (R69). -/
  | settlingEnd (e : EngineNo)
  /-- SHOT (R70): the pair's voltage in the shot's slot as (tick, level), at each change of level,
  on the scale where 255 is the amplitude of the outgoing pulse. -/
  | shot (e : EngineNo) (trace : List (Nat × Int))
  /-- REPEAT_INTERVAL_END (R69). -/
  | repeatIntervalEnd (e : EngineNo)
  /-- SWEEP_CANCEL (R79). -/
  | sweepCancel (r : ReqHeader)
  /-- FAULT_CLEAR (R80). -/
  | faultClear (r : ReqHeader)
  /-- FAULT_READ (R83). -/
  | faultRead (r : ReqHeader)
  /-- RING_SET (R123). -/
  | ringSet (r : ReqHeader) (start length timeout : Nat)
  /-- FRAME_HOLD (R134). -/
  | frameHold (r : ReqHeader) (number : Nat)
  /-- FRAME_RELEASE (R135). -/
  | frameRelease (r : ReqHeader) (number : Nat)
  /-- FRAME_LIST (R136). -/
  | frameList (r : ReqHeader)
  /-- VIEW_LOAD (R140). -/
  | viewLoad (r : ReqHeader) (view : Nat) (params : ViewParams)
  /-- VIEW_BIND (R141). -/
  | viewBind (r : ReqHeader) (view : Nat)
  /-- VIEW_UNBIND (R142). -/
  | viewUnbind (r : ReqHeader)
  /-- COEF_SELECT (R144). -/
  | coefSelect (r : ReqHeader) (table : Nat)
  /-- COEF_WRITE (R145): the coefficients as bytes, two's complement. -/
  | coefWrite (r : ReqHeader) (values : List Nat)
  /-- FRAME_RESEND (R152). -/
  | frameResend (r : ReqHeader) (number view : Nat)
  /-- PIPE_RESET (R153). -/
  | pipeReset (r : ReqHeader)
  /-- EGRESS_SET (R163). -/
  | egressSet (r : ReqHeader) (settings : EgressParams)
  deriving DecidableEq, Repr

end Sys2Proof
end

