-- ==== Sys2Proof/WellFormed.lean ====
section
/-! DEFINITION. Which commands can reach the hub: every operand fits the width in which the trunk or the
data pair carries it (R177, R178, R179), and what is measured lies in the range the manual gives. -/

namespace Sys2Proof

/-- A one-byte field. -/
def fits8 (n : Nat) : Bool := n < 256

/-- A two-byte field. -/
def fits16 (n : Nat) : Bool := n < 65536

/-- A four-byte field. -/
def fits32 (n : Nat) : Bool := n < 4294967296

/-- A list whose count travels in one byte (R177). -/
def fitsList {α : Type} (l : List α) : Bool := l.length < 256

/-- The header fields of a request (Table 11-1). -/
def ReqHeader.wf (r : ReqHeader) : Bool := fits16 r.tag && fits8 r.target

/-- A trunk packet's length field holds 16 bits (Table 11-1). -/
def Packet.wf (p : Packet) : Bool := p.payload.length < 65536

/-- The four profile values of one axis (R85). -/
def ProfileParams.wf (a : ProfileParams) : Bool :=
  fits8 a.present && fits16 a.max && fits16 a.rate && fits8 a.tolerance

/-- The sweep parameters (Table 4-3): all in one byte but the interval, up to 1,000. -/
def SweepParamsRaw.wf (q : SweepParamsRaw) : Bool :=
  fits8 q.pair && fits8 q.k && fits8 q.repeats && fits16 q.interval && fits8 q.width && fits8 q.scale

/-- The view fields (Table 8-1). -/
def ViewParams.wf (v : ViewParams) : Bool :=
  fits8 v.valid && fits16 v.x0 && fits16 v.y0 && fits16 v.w && fits16 v.h && fits16 v.stepH &&
    fits16 v.stepV && fits8 v.filterH && fits8 v.filterV && fits8 v.depth && fits32 v.interval && fits8 v.group

/-- The parameters of either form of EGRESS_SET (R163). -/
def EgressParams.wf : EgressParams → Bool
  | .hub k g b => fits8 k && fits8 g && fits8 b
  | .port b => fits8 b

/-- The form of EGRESS_SET fits the target: the hub's for >FF, the port's for 0 to 7, either for a target that the
request does not take (R163, R177). -/
def EgressParams.fitsTarget : EgressParams → Nat → Bool
  | .hub .., target => decide (8 ≤ target)
  | .port _, target => decide (target ≠ 255)

/-- A shot's trace: ticks in rising order, levels on the scale of R70. -/
def traceWf : List (Nat × Int) → Bool
  | [] => true
  | [(_, v)] => decide (-255 ≤ v) && decide (v ≤ 255)
  | (t, v) :: (t', v') :: rest =>
    decide (-255 ≤ v) && decide (v ≤ 255) && decide (t < t') && traceWf ((t', v') :: rest)

/-- A command that the world outside can give the hub. -/
def Instr.wf : Instr → Bool
  | .coldReset => true
  | .trunkUp => true
  | .trunkLoss => true
  | .requestPacketReceived pkt => pkt.wf
  | .badRequest => true
  | .packetSendEnd => true
  | .imageQueueTakesPacket _ => true
  | .answeredSlotReplyOffer => true
  | .identify r => r.wf
  | .timeRead r => r.wf
  | .partReset r => r.wf
  | .readEvents r => r.wf
  | .noticeSet r kinds => r.wf && fits16 kinds
  | .isolate r action => r.wf && fits8 action
  | .portRead r => r.wf
  | .linkSet r e d => r.wf && fits8 e && fits8 d
  | .linkTest r n => r.wf && fits8 n
  | .dropHistoryRead r => r.wf
  | .attrRead r address count => r.wf && fits16 address && fits8 count
  | .attrWrite r address words => r.wf && fits16 address && fitsList words && words.all fits16
  | .passThroughTimeout _ => true
  | .budgetSet r budget => r.wf && fits32 budget
  | .portPowerSet r g l pr a => r.wf && fits16 g && fits16 l && fits8 pr && fits16 a
  | .powerOn r => r.wf
  | .powerOff r => r.wf
  | .detectionEnd _ _ => true
  | .rampOutputReached _ _ => true
  | .rampFail _ _ => true
  | .overcurrentRise _ _ => true
  | .overcurrentFall _ _ => true
  | .trip _ _ => true
  | .hardShort _ _ => true
  | .cooldownEnd _ => true
  | .supplySample mv => mv ≤ 40000
  | .trainingAttemptEnd _ => true
  | .lockReply _ => true
  | .lossOfLock _ => true
  | .errorWindowEnd _ => true
  | .badUpstreamPacket _ _ => true
  | .frameStart _ n w h id => fits16 n && fits16 w && fits16 h && fits8 id
  | .line _ n pixels => fits16 n && fits16 pixels.length && pixels.all fits16
  | .frameEnd _ lines status => fits16 lines && fits8 status
  | .fillDeadline _ => true
  | .ack _ sequence => fits8 sequence
  | .ackWaitEnd _ => true
  | .downstreamMessageSent _ => true
  | .attrReply _ attr status words =>
    fits8 attr && fits8 status && decide (words.length ≤ 16) && words.all fits16
  | .lensReport _ axis position kind => fits8 axis && fits16 position && fits8 kind
  | .lensDeadline _ _ => true
  | .lensProfileLoad r f z ir => r.wf && f.wf && z.wf && ir.wf
  | .lensHome r axis => r.wf && fits8 axis
  | .lensMove r axis target => r.wf && fits8 axis && fits16 target
  | .lensStop r axis => r.wf && fits8 axis
  | .focusTableLoad r stop zoom points =>
    r.wf && fits8 stop && fits16 zoom && fitsList points && points.all fun q => fits16 q.1 && fits16 q.2
  | .lensFocusDistance r d => r.wf && fits16 d
  | .lensRead r => r.wf
  | .encoderStep _ _ => true
  | .triggerTimeout _ => true
  | .triggerLineRise _ => true
  | .triggerLineFall _ => true
  | .filterTimeEnd _ => true
  | .encoderSet r value => r.wf && fits32 value
  | .triggerLineSet r l f => r.wf && fits8 l && fits8 f
  | .triggerSet r source pitch phase direction policy timeout =>
    r.wf && fits8 source && fits32 pitch && fits32 phase && fits8 direction && fits8 policy && fits16 timeout
  | .triggerSoft r mask => r.wf && fits8 mask
  | .triggerRead r => r.wf
  | .cableTypeSet r type speed polarity threshold =>
    r.wf && fits8 type && fits16 speed && fits8 polarity && fits8 threshold
  | .portCableSet r type length tolerance offset =>
    r.wf && fits8 type && fits32 length && fits16 tolerance && fits16 offset
  | .autoSweepSet r flags q => r.wf && fits8 flags && q.wf
  | .sweepRequest r q pdf => r.wf && q.wf && fits8 pdf
  | .settlingEnd _ => true
  | .shot _ trace => traceWf trace
  | .repeatIntervalEnd _ => true
  | .sweepCancel r => r.wf
  | .faultClear r => r.wf
  | .faultRead r => r.wf
  | .ringSet r start length timeout => r.wf && fits16 start && fits16 length && fits16 timeout
  | .frameHold r n => r.wf && fits16 n
  | .frameRelease r n => r.wf && fits16 n
  | .frameList r => r.wf
  | .viewLoad r view v => r.wf && fits8 view && v.wf
  | .viewBind r view => r.wf && fits8 view
  | .viewUnbind r => r.wf
  | .coefSelect r table => r.wf && fits8 table
  | .coefWrite r values => r.wf && fitsList values && values.all fits8
  | .frameResend r n view => r.wf && fits16 n && fits8 view
  | .pipeReset r => r.wf
  | .egressSet r q => r.wf && q.wf && q.fitsTarget r.target

end Sys2Proof
end

