-- ==== Sys2Proof/Config.lean ====
section
/-! DEFINITION. The values the manual leaves open. Each is a constant with no body, so that nothing can be
proved that rests on one of them. -/

namespace Sys2Proof.Config

/-- The n-th value that a FRAME_OPEN carries in one of its fields w_e, h_e, out_w, out_h when the view's
crop lies wholly outside the frame (R147): the manual gives no value. FREE VALUE, log entry 15; safe. -/
opaque emptyCropField : Nat → BitVec 16

/-- The n-th value that a BAD_REQUEST reply carries for a byte of its request's code that the request does not
hold (R169, R178): the manual gives no value. FREE VALUE, log entry 16; safe. -/
opaque missingCodeByte : Nat → BitVec 8

end Sys2Proof.Config
end

