-- ==== Sys2Proof/Machine/State.lean ====
section
/-! DEFINITION. The state of the hub: every item of every unit's state table, as plain data, and the state
after reset. Fields marked MODEL are the model's own bookkeeping (log entry 19). -/

namespace Sys2Proof.Machine

/-! ## Names -/

/-- Power states of a port (Table 1-5). -/
inductive PowerState where
  | off | detecting | ramping | on | cooldown | locked
  deriving DecidableEq, Repr

/-- Off causes (Table 1-5). -/
inductive OffCause where
  | none | requested | isolate | shed | undervolt | detectShort | detectOpen | rampFail | trip
  | hardShort | sweep | noBudget
  deriving DecidableEq, Repr

/-- States of the supply monitor (Table 3-2). -/
inductive SupplyState where
  | normal | low | sag
  deriving DecidableEq, Repr

/-- Link states (Table 2-1). -/
inductive LinkState where
  | down | training | up | degraded
  deriving DecidableEq, Repr

/-- Down notes (Table 2-1). -/
inductive DownNote where
  | none | trainFail | powerLost
  deriving DecidableEq, Repr

/-- Causes of a drop (Table 2-2). -/
inductive DropCause where
  | lossOfLock | powerLost
  deriving DecidableEq, Repr

/-- Sweep status of a port (Table 4-2). -/
inductive SweepStatus where
  | idle | queued | running
  deriving DecidableEq, Repr

/-- The pairs a sweep is asked to test (Table 4-3). -/
inductive PairSel where
  | data | power | both
  deriving DecidableEq, Repr

/-- One pair of a port's cable. -/
inductive Pair where
  | data | power
  deriving DecidableEq, Repr

/-- Who asked for a sweep (Table 4-3). -/
inductive SweepOrigin where
  | requested | autoDetect | autoHardShort | autoLock | autoLink | autoDrops
  deriving DecidableEq, Repr

/-- The polarity of an echo (R70). -/
inductive Polarity where
  | pos | neg
  deriving DecidableEq, Repr

/-- The class of a repeat (Table 4-6). -/
inductive RepeatClass where
  | atEnd | endMismatch | beyond | breakOpen | breakShort | none
  deriving DecidableEq, Repr

/-- The kind of a break (Table 4-7). -/
inductive BreakKind where
  | openBreak | shortBreak
  deriving DecidableEq, Repr

/-- The phase of a running engine (Table 4-4). -/
inductive EnginePhase where
  | settling | shooting | waiting
  deriving DecidableEq, Repr

/-- Motions of a lens axis (Table 5-1). -/
inductive Motion where
  | idle | homing | moving | stopping
  deriving DecidableEq, Repr

/-- Last outcomes of a lens axis (Table 5-1). -/
inductive LensOutcome where
  | none | finished | slip | stall | timeout | link
  deriving DecidableEq, Repr

/-- Trigger sources (Table 6-1). -/
inductive TriggerSource where
  | none | encoder | line (l : LineNo)
  deriving DecidableEq, Repr

/-- Allowed directions of an encoder trigger (Table 6-1). -/
inductive TriggerDirection where
  | fwd | rev | both
  deriving DecidableEq, Repr

/-- Policies during lens motion (Table 6-1). -/
inductive TriggerPolicy where
  | flag | defer
  deriving DecidableEq, Repr

/-- The intake of a port's frame memory (Table 7-1). -/
inductive Intake where
  | idle | filling | discarding | late
  deriving DecidableEq, Repr

/-- States of a frame record (Table 7-2). -/
inductive FrameState where
  | filling | complete | sending | sent
  deriving DecidableEq, Repr

/-- A resampling filter (Table 8-1). -/
inductive Filter where
  | table (t : Fin 4)
  | nearest
  deriving DecidableEq, Repr

/-- Output depths (Table 8-1). -/
inductive Depth where
  | pix12 | pix8Round | pix8Dither
  deriving DecidableEq, Repr

/-- Egress groups (Table 8-1, Table 9-1). -/
inductive Group where
  | high | low
  deriving DecidableEq, Repr

/-- Phases of a View Pipeline (Table 8-5). -/
inductive PipePhase where
  | idle | running | waiting
  deriving DecidableEq, Repr

/-- The taking state (Table 10-1). -/
inductive Taking where
  | ready | held | resetting
  deriving DecidableEq, Repr

/-- Status codes, in the order of Table 10-2. -/
inductive Status where
  | ok | clamped | busy | badRequest | badTarget | range | limit | isolated | noBudget | locked
  | powered | sweeping | queueFull | inUse | noFrame | noView | noTable | noPosition | bandwidth
  | linkDown | noAck | timeout | cameraError
  deriving DecidableEq, Repr

/-! ## Power Controller -/

/-- Power Controller state of one port (Table 3-1). -/
structure PortPower where
  state : PowerState := .off
  cause : OffCause := .none
  grant : Nat := 5000
  limit : Nat := 300
  priority : Nat := 0
  allowance : Nat := 0
  trips : List HubTime := []
  allowanceHeld : Bool := false
  phaseEnd : HubTime := 0
  overSince : Option HubTime := none
  cooldownEnd : HubTime := 0
  postponed : Bool := false
  deriving DecidableEq, Repr

/-- Power Controller state of the cell (Table 3-2). The granted total is derived. The supply sample at
reset is DESIGN CHOICE, log entry 6, unsafe. -/
structure CellPower where
  budget : Nat := 0
  supplySample : Nat := 24000
  monitor : SupplyState := .normal
  lowSince : HubTime := 0
  nextShed : HubTime := 0
  deriving DecidableEq, Repr

/-! ## Link Controller -/

/-- A drop record (Table 2-2). -/
structure DropRecord where
  time : HubTime
  degraded : Bool
  cause : DropCause
  windowErrors : Nat
  frame : Option Nat
  encoder : BitVec 32
  deriving DecidableEq, Repr

/-- A command of the camera command queue with its parameters and originator (R27). -/
inductive Command where
  | attrRead (slot : SlotNo) (attr : BitVec 8) (address count : Nat)
  | attrWrite (slot : SlotNo) (attr : BitVec 8) (address : Nat) (words : List Nat)
  | lensMove (axis : AxisId) (target : Nat)
  | lensHome (axis : AxisId)
  | lensStop (axis : AxisId)
  deriving DecidableEq, Repr

/-- The frame context of the Link Controller (Table 2-1). -/
structure FrameContext where
  number : Nat
  width : Nat
  height : Nat
  received : List Nat
  deriving DecidableEq, Repr

/-- MODEL. What the downstream channel is doing (R17, R28, R31): nothing, the training pattern, with the bytes that are
repeated back to back (log entry 31), or one whole message, with the bytes on the pair. -/
inductive Downstream where
  | idle
  | training (bytes : List Byte)
  | command (bytes : List Byte)
  | trigger (bytes : List Byte)
  deriving DecidableEq, Repr

/-- Link Controller state of one port (Table 2-1). -/
structure LinkCtl where
  state : LinkState := .down
  note : DownNote := .none
  attempt : Nat := 1
  /-- MODEL: start of the present training attempt (R17). -/
  attemptStart : HubTime := 0
  windowErrors : Nat := 0
  windowStart : HubTime := 0
  degradeAt : Nat := 8
  dropAt : Nat := 3
  history : List DropRecord := []
  drops : Count := 0
  queue : List Command := []
  sequence : Bool := false
  sendCount : Nat := 0
  nextAttr : BitVec 8 := 0
  testCount : Nat := 0
  pendingTrigger : Option (BitVec 8) := none
  context : Option FrameContext := none
  crcErrors : Count := 0
  ignoredLines : Count := 0
  ignoredPackets : Count := 0
  resends : Count := 0
  noAcks : Count := 0
  strayAcks : Count := 0
  /-- MODEL: the downstream channel (R28, R31). -/
  channel : Downstream := .idle
  /-- MODEL: when the acknowledgement wait began, or none (R28). -/
  ackWait : Option HubTime := none
  /-- MODEL: the wait ended while a trigger was being sent (R31). -/
  waitEnded : Bool := false
  deriving DecidableEq, Repr

/-! ## Cable Test Unit -/

/-- A cable type (Table 4-1). An end polarity of none is NONE. -/
structure CableType where
  speed : Nat := 200
  polarity : Option Polarity := some .pos
  threshold : Nat := 32
  deriving DecidableEq, Repr

/-- Sweep parameters (Table 4-3). -/
structure SweepParams where
  pair : PairSel := .both
  k : Nat := 4
  repeats : Nat := 4
  interval : Nat := 100
  width : Nat := 3
  scale : Nat := 1
  deriving DecidableEq, Repr

/-- An entry of the sweep queue (R65). -/
structure SweepEntry where
  port : Port
  params : SweepParams
  origin : SweepOrigin
  deriving DecidableEq, Repr

/-- The detail of a repeat (R74): winning polarity, winning hits, and avg_q4 and d where valid. -/
structure RepeatDetail where
  polarity : Polarity
  hits : Nat
  echo : Option (Nat × Nat)
  deriving DecidableEq, Repr

/-- Minimum, maximum and last distance of the BREAK repeats (R74). -/
structure BreakSpan where
  min : Nat
  max : Nat
  last : Nat
  deriving DecidableEq, Repr

/-- The results of one pair (Table 4-4). -/
structure PairResult where
  repeatsRun : Nat := 0
  breaks : Nat := 0
  span : Option BreakSpan := none
  openSeen : Bool := false
  shortSeen : Bool := false
  latest : BreakKind := .openBreak
  lastClass : RepeatClass := .none
  detail : RepeatDetail := ⟨.neg, 0, none⟩
  deriving DecidableEq, Repr

/-- The sweep context of a running engine (Table 4-4). -/
structure SweepContext where
  port : Port
  origin : SweepOrigin
  params : SweepParams
  speed : Nat
  polarity : Option Polarity
  threshold : Nat
  length : Nat
  tolerance : Nat
  offset : Nat
  phase : EnginePhase
  /-- MODEL: start of the settling, of the shot in progress, or of the interval (R69). -/
  phaseStart : HubTime
  pair : Pair
  repeatNo : Nat
  shotNo : Nat
  posHits : Nat
  negHits : Nat
  posSum : Nat
  negSum : Nat
  dataResult : PairResult
  powerResult : PairResult
  /-- MODEL: stop at the end of the shot in progress (R79). -/
  cancelling : Bool
  deriving DecidableEq, Repr

/-- The summary of one pair (Table 4-6). -/
structure PairSummary where
  repeatsRun : Nat
  breaks : Nat
  span : Option BreakSpan
  lastClass : RepeatClass
  detail : RepeatDetail
  deriving DecidableEq, Repr

/-- The last-sweep summary (Table 4-6). A pair that was not swept is none. -/
structure SweepSummary where
  origin : SweepOrigin
  completed : HubTime
  engine : EngineNo
  data : Option PairSummary
  power : Option PairSummary
  deriving DecidableEq, Repr

/-- A fault record (Table 4-7). -/
structure FaultRecord where
  number : BitVec 16
  port : Port
  pair : Pair
  kind : BreakKind
  mixed : Bool
  isOpen : Bool
  minMm : Nat
  maxMm : Nat
  lastMm : Nat
  hits : Nat
  repeats : Nat
  origin : SweepOrigin
  created : HubTime
  updated : HubTime
  deriving DecidableEq, Repr

/-- Cable Test Unit state of one port (Table 4-2). -/
structure PortCable where
  type : Fin 4 := 0
  length : Nat := 10000
  tolerance : Nat := 500
  offset : Nat := 0
  onDetectFail : Bool := false
  onHardShort : Bool := false
  onLock : Bool := false
  onLinkFail : Bool := false
  onDrops : Bool := false
  auto : SweepParams := {}
  sweepStatus : SweepStatus := .idle
  faultIsolation : Bool := false
  summary : Option SweepSummary := none
  discards : Count := 0
  deriving DecidableEq, Repr

/-- Cable Test Unit state of the cell (Table 4-1). -/
structure CableUnit where
  types : Vector CableType 4 := Vector.replicate 4 {}
  queue : List SweepEntry := []
  engines : Vector (Option SweepContext) 2 := Vector.replicate 2 none
  faults : List FaultRecord := []
  nextRecord : BitVec 16 := 0
  deriving DecidableEq, Repr

/-! ## Lens Controller -/

/-- Lens Controller state of one axis (Table 5-1). A position of none is UNKNOWN. -/
structure Axis where
  present : Bool := false
  max : Nat := 1000
  rate : Nat := 1000
  tolerance : Nat := 0
  position : Option Nat := none
  motion : Motion := .idle
  fromHoming : Bool := false
  target : Nat := 0
  start : Nat := 0
  startTime : HubTime := 0
  deadline : HubTime := 0
  pending : Nat := 0
  outcome : LensOutcome := .none
  deriving DecidableEq, Repr

/-- A loaded focus stop (Table 5-2): points as (distance, focus position). -/
structure FocusStop where
  zoom : Nat
  points : List (Nat × Nat)
  deriving DecidableEq, Repr

/-- Lens Controller state of one port (Tables 5-1 and 5-2). -/
structure PortLens where
  focus : Axis := {}
  zoom : Axis := {}
  iris : Axis := {}
  stops : Vector (Option FocusStop) 4 := Vector.replicate 4 none
  lateReports : Count := 0
  ignoredReports : Count := 0
  deriving DecidableEq, Repr

/-! ## Trigger Unit -/

/-- The encoder (R105) with the levels of its two inputs. -/
structure Encoder where
  counter : BitVec 32 := 0
  errors : Count := 0
  /-- The input pins A and B (section 0.8). -/
  a : Bool := false
  b : Bool := false
  deriving DecidableEq, Repr

/-- A trigger line (R107). FILTERING is some (start, filter time in use). -/
structure TriggerLine where
  /-- The input pin (section 0.8). -/
  input : Bool := false
  filter : Nat := 10
  level : Bool := false
  filtering : Option (HubTime × Nat) := none
  accepted : Count := 0
  glitches : Count := 0
  deriving DecidableEq, Repr

/-- The trigger record of a fired trigger (Table 6-1). -/
structure FiredAt where
  encoder : BitVec 32
  time : HubTime
  deriving DecidableEq, Repr

/-- The trigger in hand (Table 6-1): the trigger state with the record it makes meaningful. -/
inductive Hand where
  | none
  | deferred (fired : FiredAt)
  | outstanding (fired : FiredAt) (id : BitVec 8) (lensMoving : Bool) (sent deadline : HubTime)
  deriving DecidableEq, Repr

/-- Trigger Unit state of one port (Table 6-1). -/
structure PortTrigger where
  source : TriggerSource := .none
  pitch : Nat := 1000
  phase : Nat := 0
  direction : TriggerDirection := .fwd
  policy : TriggerPolicy := .flag
  timeout : Nat := 100
  lastFired : Option (BitVec 32) := none
  hand : Hand := .none
  nextId : BitVec 8 := 1
  requested : Count := 0
  issued : Count := 0
  matched : Count := 0
  timedOut : Count := 0
  aborted : Count := 0
  lostLink : Count := 0
  lostOver : Count := 0
  deriving DecidableEq, Repr

/-! ## Frame Memory Controller -/

/-- A frame record (Table 7-2). Flags are the word of Table 11-4. -/
structure FrameRecord where
  /-- MODEL: the record's identity, by which a work item names it (Table 8-5). -/
  serial : Nat
  number : Nat
  triggerId : Nat
  trigger : Option FiredAt
  arrival : HubTime
  fillDeadline : HubTime
  width : Nat
  height : Nat
  offset : Nat
  size : Nat
  state : FrameState
  held : Bool
  retained : Bool
  view : Option (Fin 16)
  flags : BitVec 32
  concealed : Nat
  cameraEnd : Option (Nat × Nat)
  resends : List (Fin 16)
  written : List Nat
  deriving DecidableEq, Repr

/-- Frame Memory Controller state of one port (Table 7-1). -/
structure PortFrames where
  ringStart : Nat := 0
  ringLength : Nat := 0
  cursor : Nat := 0
  timeout : Nat := 500
  lastOutput : Option HubTime := none
  intake : Intake := .idle
  table : List FrameRecord := []
  /-- MODEL: the serial of the next record. -/
  nextSerial : Nat := 0
  admitted : Count := 0
  skipped : Count := 0
  noRing : Count := 0
  tooLarge : Count := 0
  noRecord : Count := 0
  noSpace : Count := 0
  linkAbort : Count := 0
  late : Count := 0
  deriving DecidableEq, Repr

/-- Frame memory: the bytes that differ from 0, addresses strictly rising (log entry 8). -/
abbrev Memory := List Host.Cell

/-! ## View Table and View Pipelines -/

/-- A view record (Table 8-1). -/
structure View where
  valid : Bool := false
  x0 : Nat := 0
  y0 : Nat := 0
  w : Nat := 1
  h : Nat := 1
  stepH : Nat := 1024
  stepV : Nat := 1024
  filterH : Filter := .nearest
  filterV : Filter := .nearest
  depth : Depth := .pix12
  interval : Nat := 1000
  group : Group := .low
  deriving DecidableEq, Repr

/-- A port's binding (R141). -/
structure Binding where
  view : Option (Fin 16) := none
  load : Nat := 0
  deriving DecidableEq, Repr

/-- A coefficient table: 32 signed bytes, indexed phase * 4 + tap (R143). -/
abbrev CoefTable := Vector (BitVec 8) 32

/-- The cold-reset contents of a coefficient table (Table 8-4): at phase p, tap 1 is 64 - 8p and tap 2
is 8p. -/
def CoefTable.linear : CoefTable :=
  Vector.ofFn fun i : Fin 32 =>
    match i.val % 4 with
    | 1 => BitVec.ofNat 8 (64 - 8 * (i.val / 4))
    | 2 => BitVec.ofNat 8 (8 * (i.val / 4))
    | _ => 0

/-- View Table state (R137, R141, R143). The admission total is derived: the sum of the loads. -/
structure ViewTable where
  views : Vector View 16 := Vector.replicate 16 {}
  bindings : Vector Binding 8 := Vector.replicate 8 {}
  coefs : Vector CoefTable 4 := Vector.replicate 4 CoefTable.linear
  selected : Fin 4 := 0
  cursor : Nat := 0
  discards : Count := 0
  deriving DecidableEq, Repr

/-- An item of a work list (Table 8-5): LIVE, or RESEND with its view; it names a frame record. -/
structure WorkItem where
  serial : Nat
  resend : Option (Fin 16)
  deriving DecidableEq, Repr

/-- The output plan of the item in process (Table 8-5). -/
structure OutputPlan where
  view : Fin 16
  x0 : Nat
  y0 : Nat
  cropW : Nat
  cropH : Nat
  outW : Nat
  outH : Nat
  /-- The crop lies wholly outside the frame (R147). -/
  empty : Bool
  /-- MODEL: the FRAME_OPEN has been taken. -/
  opened : Bool
  nextLine : Nat
  deriving DecidableEq, Repr

/-- A View Pipeline (Table 8-5). The item in process is the head while not IDLE. -/
structure Pipeline where
  phase : PipePhase := .idle
  work : List WorkItem := []
  plan : Option OutputPlan := none
  /-- MODEL: the serials of the records whose FRAME_CLOSE the image queue has taken at the present hub time, oldest first
  (R164, log entry 36). -/
  closed : List Nat := []
  deriving DecidableEq, Repr

/-! ## Trunk Interface -/

/-- The grant in progress (Table 9-1). -/
structure Grant where
  queue : QueueNo
  burst : Nat
  sent : Nat
  deriving DecidableEq, Repr

/-- Trunk Interface state (Table 9-1). -/
structure Trunk where
  up : Bool := false
  images : Vector (List Packet) 8 := Vector.replicate 8 []
  bursts : Vector Nat 8 := Vector.replicate 8 4
  replies : List Packet := []
  replyGroup : Group := .high
  replyBurst : Nat := 4
  lowShare : Nat := 4
  highRun : Nat := 0
  lastHigh : Option QueueNo := none
  lastLow : Option QueueNo := none
  grant : Option Grant := none
  sent : Vector Count 9 := Vector.replicate 9 0
  losses : Count := 0
  discarded : Count := 0
  /-- The packet whose send is under way on the upstream lane, and its queue (R159). -/
  lane : Option (QueueNo × Packet) := none
  deriving DecidableEq, Repr

/-! ## Management Unit -/

/-- The kind of a pass-through request. -/
inductive PassKind where
  | read | write
  deriving DecidableEq, Repr

/-- A pass-through slot (Table 10-1). -/
inductive Slot where
  | free
  | waiting (tag : BitVec 16) (port : Port) (kind : PassKind) (attr : BitVec 8) (deadline : HubTime)
  | answered (reply : Packet)
  deriving DecidableEq, Repr

/-- Management Unit state (Table 10-1); hub time is Hub.time. Flag words are those of Table 11-4; notice
enables hold port kinds in bits 0-11 and part kinds in bits 12-15 (R177). -/
structure Mgmt where
  requests : List Packet := []
  taking : Taking := .ready
  overflow : Count := 0
  slots : Vector Slot 4 := Vector.replicate 4 .free
  /-- MODEL: the ANSWERED slots in the order they were answered (R171). -/
  answered : List SlotNo := []
  lateReplies : Count := 0
  portFlags : Vector (BitVec 16) 8 := Vector.replicate 8 0
  partFlags : BitVec 16 := 0
  enables : BitVec 16 := 0
  unsent : Count := 0
  /-- MODEL: a place of the reply queue is kept for the reply being formed (log entry 9). -/
  replyOwed : Bool := false
  deriving DecidableEq, Repr

/-! ## The whole hub -/

/-- Everything but frame memory and the model's command queue. -/
structure Hub where
  time : HubTime := 0
  requestedIso : Vector Bool 8 := Vector.replicate 8 false
  power : Vector PortPower 8 := Vector.replicate 8 {}
  cell : CellPower := {}
  link : Vector LinkCtl 8 := Vector.replicate 8 {}
  cable : Vector PortCable 8 := Vector.replicate 8 {}
  cables : CableUnit := {}
  lens : Vector PortLens 8 := Vector.replicate 8 {}
  encoder : Encoder := {}
  lines : Vector TriggerLine 4 := Vector.replicate 4 {}
  trig : Vector PortTrigger 8 := Vector.replicate 8 {}
  frames : Vector PortFrames 8 := Vector.replicate 8 {}
  view : ViewTable := {}
  pipe : Vector Pipeline 8 := Vector.replicate 8 {}
  trunk : Trunk := {}
  mgmt : Mgmt := {}
  /-- MODEL: index of the next free value (Config). -/
  freeCount : Nat := 0
  deriving DecidableEq, Repr

/-- The machine: the commands that wait, frame memory, and the hub. -/
structure State where
  pending : List Instr := []
  dram : Memory := []
  hub : Hub := {}
  deriving DecidableEq, Repr

/-- The machine right after reset: every item at the cold-reset value of its table, no command waiting. -/
def State.reset : State := {}

/-- Reasons a command could stop with a fault. There is none: no command of the hub stops the machine
(what goes wrong is reported by statuses, flags and counts). -/
inductive Fault where
  deriving DecidableEq, Repr

/-- Reasons a command could be refused. -/
inductive Refusal where
  /-- The command has no meaning in the model yet; raised by Dispatch alone, by no arm at present; safe. -/
  | notModelled (mnemonic : String)
  deriving DecidableEq, Repr

end Sys2Proof.Machine
end

