-- ==== Sys2Proof/Machine/Ops.lean ====
section
/-! DEFINITION. The named operations over the state: indexed items, hub time, frame memory, and one update of
one port's part of one unit. -/

namespace Sys2Proof.Machine

/-! ## Indexed items -/

/-- The i-th of n like items. -/
def vget {α : Type} {n : Nat} (v : Vector α n) (i : Fin n) : α := v[i.val]

/-- The items with the i-th replaced. -/
def vset {α : Type} {n : Nat} (v : Vector α n) (i : Fin n) (x : α) : Vector α n := v.set i.val x

/-- The items with the i-th changed by f. -/
def vmod {α : Type} {n : Nat} (v : Vector α n) (i : Fin n) (f : α → α) : Vector α n :=
  vset v i (f (vget v i))

/-- All ports, in rising order. -/
def allPorts : List Port := [0, 1, 2, 3, 4, 5, 6, 7]

/-- Read a number as an index below n, where it is one. -/
def asFin (n k : Nat) : Option (Fin n) := if h : k < n then some ⟨k, h⟩ else none

/-! ## Hub time (R167) -/

/-- The microseconds from start to now, modulo 2^32. -/
def elapsed (now start : HubTime) : Nat := (now - start).toNat

/-- A duration has passed since start. -/
def passed (now start : HubTime) (duration : Nat) : Bool := decide (duration ≤ elapsed now start)

/-- A time some microseconds after another. -/
def after (t : HubTime) (micros : Nat) : HubTime := t + BitVec.ofNat 32 micros

/-- A deadline set a known duration before it is reached. -/
def reached (now deadline : HubTime) (duration : Nat) : Bool :=
  passed now (deadline - BitVec.ofNat 32 duration) duration

/-- A deadline reached by one who holds the time it was set from and the deadline. -/
def reachedFrom (now start deadline : HubTime) : Bool := passed now start (elapsed deadline start)

/-! ## Frame memory (section 0.3.3, log entry 8) -/

/-- What an address that is not listed reads as. DESIGN CHOICE, log entry 8, unsafe. -/
def Memory.unlisted : Byte := 0

/-- The number of bytes of frame memory: 256 MiB. -/
def memoryBytes : Nat := 268435456

/-- The byte at an address. -/
def Memory.read : Memory → Nat → Byte
  | [], _ => Memory.unlisted
  | (b, v) :: rest, a => if b = a then v else Memory.read rest a

/-- One byte written, keeping the canonical form. -/
def Memory.write : Memory → Nat → Byte → Memory
  | [], a, v => if v = Memory.unlisted then [] else [(a, v)]
  | (b, w) :: rest, a, v =>
    if a < b then (if v = Memory.unlisted then (b, w) :: rest else (a, v) :: (b, w) :: rest)
    else if a = b then (if v = Memory.unlisted then rest else (a, v) :: rest)
    else (b, w) :: Memory.write rest a v

/-- Every address is at least lo and rises, lies in frame memory, and lists no unlisted value. -/
def Memory.wfFrom : Nat → Memory → Bool
  | _, [] => true
  | lo, (a, v) :: rest =>
    decide (lo ≤ a) && decide (a < memoryBytes) && decide (v ≠ Memory.unlisted) && Memory.wfFrom (a + 1) rest

/-- The canonical form of frame memory. -/
def Memory.wf (m : Memory) : Bool := Memory.wfFrom 0 m

/-- The 28-bit address of a byte (log entry 8). -/
def memoryAddress (a : Nat) : Nat := a % memoryBytes

/-- A run of bytes written from an address on. -/
def Memory.writeBytes : Memory → Nat → List Byte → Memory
  | m, _, [] => m
  | m, a, v :: rest => Memory.writeBytes (Memory.write m (memoryAddress a) v) (a + 1) rest

/-- A run of n bytes read from an address on. -/
def Memory.readBytes (m : Memory) (a : Nat) : Nat → List Byte
  | 0 => []
  | n + 1 => Memory.read m (memoryAddress a) :: Memory.readBytes m (a + 1) n

/-! ## One port's part of one unit -/

/-- Change the power state items of a port. -/
def Hub.modPower (h : Hub) (p : Port) (f : PortPower → PortPower) : Hub := { h with power := vmod h.power p f }

/-- Change the link items of a port. -/
def Hub.modLink (h : Hub) (p : Port) (f : LinkCtl → LinkCtl) : Hub := { h with link := vmod h.link p f }

/-- Change the cable items of a port. -/
def Hub.modCable (h : Hub) (p : Port) (f : PortCable → PortCable) : Hub := { h with cable := vmod h.cable p f }

/-- Change the lens items of a port. -/
def Hub.modLens (h : Hub) (p : Port) (f : PortLens → PortLens) : Hub := { h with lens := vmod h.lens p f }

/-- Change the trigger items of a port. -/
def Hub.modTrig (h : Hub) (p : Port) (f : PortTrigger → PortTrigger) : Hub := { h with trig := vmod h.trig p f }

/-- Change the frame items of a port. -/
def Hub.modFrames (h : Hub) (p : Port) (f : PortFrames → PortFrames) : Hub :=
  { h with frames := vmod h.frames p f }

/-- Change the pipeline of a port. -/
def Hub.modPipe (h : Hub) (p : Port) (f : Pipeline → Pipeline) : Hub := { h with pipe := vmod h.pipe p f }

/-- Hub time goes on by one microsecond (R167). What comes from here on comes at another time than the FRAME_CLOSEs taken
before (R164, log entry 36). -/
def Hub.tick (h : Hub) : Hub :=
  { h with time := h.time + 1, pipe := h.pipe.map fun q => { q with closed := [] } }

/-- Change a trigger line. -/
def Hub.modLine (h : Hub) (l : LineNo) (f : TriggerLine → TriggerLine) : Hub := { h with lines := vmod h.lines l f }

/-- Change the Trunk Interface. -/
def Hub.modTrunk (h : Hub) (f : Trunk → Trunk) : Hub := { h with trunk := f h.trunk }

/-- Change the Management Unit. -/
def Hub.modMgmt (h : Hub) (f : Mgmt → Mgmt) : Hub := { h with mgmt := f h.mgmt }

/-- Change the cell-wide power items. -/
def Hub.modCell (h : Hub) (f : CellPower → CellPower) : Hub := { h with cell := f h.cell }

/-- Change the cell-wide cable items. -/
def Hub.modCables (h : Hub) (f : CableUnit → CableUnit) : Hub := { h with cables := f h.cables }

/-- Change the View Table. -/
def Hub.modView (h : Hub) (f : ViewTable → ViewTable) : Hub := { h with view := f h.view }

/-- The power items of a port. -/
def Hub.pw (h : Hub) (p : Port) : PortPower := vget h.power p

/-- The link items of a port. -/
def Hub.lk (h : Hub) (p : Port) : LinkCtl := vget h.link p

/-- The cable items of a port. -/
def Hub.cb (h : Hub) (p : Port) : PortCable := vget h.cable p

/-- The lens items of a port. -/
def Hub.ln (h : Hub) (p : Port) : PortLens := vget h.lens p

/-- The trigger items of a port. -/
def Hub.tg (h : Hub) (p : Port) : PortTrigger := vget h.trig p

/-- The frame items of a port. -/
def Hub.fr (h : Hub) (p : Port) : PortFrames := vget h.frames p

/-- The pipeline of a port. -/
def Hub.pl (h : Hub) (p : Port) : Pipeline := vget h.pipe p

/-- An axis of a port's lens. -/
def PortLens.axis (l : PortLens) : AxisId → Axis
  | .focus => l.focus
  | .zoom => l.zoom
  | .iris => l.iris

/-- A port's lens with one axis changed. -/
def PortLens.modAxis (l : PortLens) (a : AxisId) (f : Axis → Axis) : PortLens :=
  match a with
  | .focus => { l with focus := f l.focus }
  | .zoom => { l with zoom := f l.zoom }
  | .iris => { l with iris := f l.iris }

/-- Change an axis. -/
def Hub.modAxis (h : Hub) (p : Port) (a : AxisId) (f : Axis → Axis) : Hub := h.modLens p fun l => l.modAxis a f

/-- An axis of a port. -/
def Hub.ax (h : Hub) (p : Port) (a : AxisId) : Axis := (h.ln p).axis a

/-! ## Derived items -/

/-- The link is UP or DEGRADED. -/
def LinkCtl.established (l : LinkCtl) : Bool := l.state = .up || l.state = .degraded

/-- The port is in DETECTING, RAMPING or ON. -/
def PortPower.powered (q : PortPower) : Bool := q.state = .detecting || q.state = .ramping || q.state = .on

/-- Effective isolation: the OR of the two parts (R7). -/
def Hub.effectiveIso (h : Hub) (p : Port) : Bool := vget h.requestedIso p || (h.cb p).faultIsolation

/-- What one port adds to the granted total (R38). -/
def PortPower.drawn (q : PortPower) : Nat :=
  (if q.powered then q.grant else 0) + (if q.allowanceHeld then q.allowance else 0)

/-- The granted total (R38): derived whenever it is read. -/
def Hub.grantedTotal (h : Hub) : Nat := (allPorts.map fun p => (h.pw p).drawn).sum

/-- An axis is in motion (R84). -/
def Axis.moving (a : Axis) : Bool := a.motion ≠ .idle

/-- Any axis of the port is in motion (R86). -/
def PortLens.anyMotion (l : PortLens) : Bool := l.focus.moving || l.zoom.moving || l.iris.moving

/-- The admission total: the sum of the loads of all eight bindings (R141). -/
def Hub.admissionTotal (h : Hub) : Nat := (allPorts.map fun p => (vget h.view.bindings p).load).sum

/-- A ring's length in bytes (R122). -/
def PortFrames.ringBytes (f : PortFrames) : Nat := f.ringLength * 65536

/-- The size of a trunk packet: the header of 8 bytes and the payload (R178). -/
def packetSize (p : Packet) : Nat := 8 + p.payload.length

/-- The bytes an image queue holds (Table 9-1). -/
def occupancy (q : List Packet) : Nat := (q.map packetSize).sum

end Sys2Proof.Machine
end

