-- ==== Sys2Proof/Machine/Operands.lean ====
section
/-! DEFINITION. How values stand in packets (R177): widths, enumerated values, masks, optional values and lists,
and the reading of a request's values into their ranges. -/

namespace Sys2Proof.Machine

/-! ## Numbers, most significant byte first -/

/-- A 1-byte field. -/
def u8 (n : Nat) : List Byte := [BitVec.ofNat 8 n]

/-- A 2-byte field. -/
def u16 (n : Nat) : List Byte := [BitVec.ofNat 8 (n / 256), BitVec.ofNat 8 n]

/-- A 4-byte field. -/
def u32 (n : Nat) : List Byte :=
  [BitVec.ofNat 8 (n / 16777216), BitVec.ofNat 8 (n / 65536), BitVec.ofNat 8 (n / 256), BitVec.ofNat 8 n]

/-- A 4-byte field of a hub time, a wrapping count or an encoder value. -/
def w32 (x : BitVec 32) : List Byte := u32 x.toNat

/-- Yes, set and enabled are 1; no, clear and disabled are 0. -/
def yesNo (b : Bool) : List Byte := u8 (if b then 1 else 0)

/-- A value that may be absent: a presence byte, then the value or zeros in its full width. -/
def optional {α : Type} (width : Nat) (f : α → List Byte) : Option α → List Byte
  | none => u8 0 ++ List.replicate width 0
  | some x => u8 1 ++ f x

/-- A list of varying length: a count of 1 byte, then the items. -/
def counted {α : Type} (f : α → List Byte) (l : List α) : List Byte := u8 l.length ++ l.flatMap f

/-! ## Enumerated values, numbered from 0 in the manual's order -/

/-- Table 1-5. -/
def powerCode (x : PowerState) : List Byte := u8 x.ctorIdx
/-- Table 1-5. -/
def causeCode (x : OffCause) : List Byte := u8 x.ctorIdx
/-- Table 3-2. -/
def supplyCode (x : SupplyState) : List Byte := u8 x.ctorIdx
/-- Table 2-1. -/
def linkCode (x : LinkState) : List Byte := u8 x.ctorIdx
/-- Table 2-1. -/
def noteCode (x : DownNote) : List Byte := u8 x.ctorIdx
/-- Table 11-7: LOSS_OF_LOCK 0, POWER_LOST 1. -/
def dropCauseCode (x : DropCause) : List Byte := u8 x.ctorIdx
/-- Table 4-2. -/
def sweepStatusCode (x : SweepStatus) : List Byte := u8 x.ctorIdx
/-- R177: DATA 0, POWER 1, BOTH 2. -/
def pairSelCode (x : PairSel) : List Byte := u8 x.ctorIdx
/-- R177: DATA 0, POWER 1. -/
def pairCode (x : Pair) : List Byte := u8 x.ctorIdx
/-- Table 4-3. -/
def originCode (x : SweepOrigin) : List Byte := u8 x.ctorIdx
/-- R70: POS 0, NEG 1. -/
def polarityCode (x : Polarity) : List Byte := u8 x.ctorIdx
/-- Table 4-1: POS 0, NEG 1, NONE 2. -/
def endPolarityCode : Option Polarity → List Byte
  | some x => polarityCode x
  | none => u8 2
/-- Table 4-6. -/
def classCode (x : RepeatClass) : List Byte := u8 x.ctorIdx
/-- Table 4-7: OPEN 0, SHORT 1. -/
def kindCode (x : BreakKind) : List Byte := u8 x.ctorIdx
/-- Table 4-4. -/
def enginePhaseCode (x : EnginePhase) : List Byte := u8 x.ctorIdx
/-- Table 5-1. -/
def motionCode (x : Motion) : List Byte := u8 x.ctorIdx
/-- Table 5-1. -/
def outcomeCode (x : LensOutcome) : List Byte := u8 x.ctorIdx
/-- R177: FOCUS 0, ZOOM 1, IRIS 2. -/
def axisCode (x : AxisId) : List Byte := u8 x.ctorIdx
/-- Table 6-1: NONE 0, ENCODER 1, LINE 0 to LINE 3 are 2 to 5. -/
def sourceCode : TriggerSource → List Byte
  | .none => u8 0
  | .encoder => u8 1
  | .line l => u8 (2 + l.val)
/-- Table 6-1. -/
def directionCode (x : TriggerDirection) : List Byte := u8 x.ctorIdx
/-- Table 6-1. -/
def policyCode (x : TriggerPolicy) : List Byte := u8 x.ctorIdx
/-- Table 6-1: NONE 0, DEFERRED 1, OUTSTANDING 2. -/
def handCode (x : Hand) : List Byte := u8 x.ctorIdx
/-- Table 7-1. -/
def intakeCode (x : Intake) : List Byte := u8 x.ctorIdx
/-- Table 7-2. -/
def frameStateCode (x : FrameState) : List Byte := u8 x.ctorIdx
/-- R177: a coefficient table is 0 to 3, NEAREST 4. -/
def filterCode : Filter → List Byte
  | .table t => u8 t.val
  | .nearest => u8 4
/-- Section 11.2: PIX12 0, PIX8_ROUND 1, PIX8_DITHER 2. -/
def depthCode (x : Depth) : List Byte := u8 x.ctorIdx
/-- Table 8-1: HIGH 0, LOW 1. -/
def groupCode (x : Group) : List Byte := u8 x.ctorIdx
/-- R177: status codes follow Table 10-2. -/
def statusCode (x : Status) : List Byte := u8 x.ctorIdx

/-! ## Reading enumerated values of a request: none where the value is beyond the list -/

/-- 0 or 1 as no or yes. -/
def readYesNo (n : Nat) : Option Bool := if n = 0 then some false else if n = 1 then some true else none
/-- DATA, POWER, BOTH. -/
def readPairSel (n : Nat) : Option PairSel := [PairSel.data, .power, .both][n]?
/-- POS, NEG, NONE. -/
def readEndPolarity (n : Nat) : Option (Option Polarity) := [some Polarity.pos, some .neg, none][n]?
/-- FOCUS, ZOOM, IRIS. -/
def readAxis (n : Nat) : Option AxisId := [AxisId.focus, .zoom, .iris][n]?
/-- NONE, ENCODER, LINE 0 to LINE 3. -/
def readSource (n : Nat) : Option TriggerSource :=
  [TriggerSource.none, .encoder, .line 0, .line 1, .line 2, .line 3][n]?
/-- FWD, REV, BOTH. -/
def readDirection (n : Nat) : Option TriggerDirection := [TriggerDirection.fwd, .rev, .both][n]?
/-- FLAG, DEFER. -/
def readPolicy (n : Nat) : Option TriggerPolicy := [TriggerPolicy.flag, .defer][n]?
/-- A coefficient table or NEAREST. -/
def readFilter (n : Nat) : Option Filter :=
  [Filter.table 0, .table 1, .table 2, .table 3, .nearest][n]?
/-- PIX12, PIX8_ROUND, PIX8_DITHER. -/
def readDepth (n : Nat) : Option Depth := [Depth.pix12, .pix8Round, .pix8Dither][n]?
/-- HIGH, LOW. -/
def readGroup (n : Nat) : Option Group := [Group.high, .low][n]?

/-- A number lies in a range that includes both ends. -/
def within (lo hi n : Nat) : Bool := decide (lo ≤ n) && decide (n ≤ hi)

/-- The sweep parameters of Table 4-3, where every one is in its range. -/
def readSweepParams (q : SweepParamsRaw) : Option SweepParams :=
  match readPairSel q.pair with
  | none => none
  | some pair =>
    if within 0 6 q.k && within 1 16 q.repeats && within 10 1000 q.interval && within 0 15 q.width &&
        within 0 3 q.scale then
      some { pair := pair, k := q.k, repeats := q.repeats, interval := q.interval, width := q.width, scale := q.scale }
    else none

/-- The six sweep parameters as a reply carries them (Table 4-3). -/
def sweepParamsBytes (q : SweepParams) : List Byte :=
  pairSelCode q.pair ++ u8 q.k ++ u8 q.repeats ++ u16 q.interval ++ u8 q.width ++ u8 q.scale

/-- The auto-sweep flags as a mask, in the order of Table 4-2. -/
def autoFlagsMask (c : PortCable) : Nat :=
  (if c.onDetectFail then 1 else 0) + (if c.onHardShort then 2 else 0) + (if c.onLock then 4 else 0) +
    (if c.onLinkFail then 8 else 0) + (if c.onDrops then 16 else 0)

/-! ## The parameters of requests as a packet carries them (R177) -/

/-- A profile of one axis (R85). -/
def profileBytes (a : ProfileParams) : List Byte := u8 a.present ++ u16 a.max ++ u16 a.rate ++ u8 a.tolerance

/-- The six sweep parameters of a request (R64, R66). -/
def sweepRawBytes (q : SweepParamsRaw) : List Byte :=
  u8 q.pair ++ u8 q.k ++ u8 q.repeats ++ u16 q.interval ++ u8 q.width ++ u8 q.scale

/-- A point of a focus stop (R177): a distance of 2 bytes, a focus position of 2 bytes. -/
def pointBytes (q : Nat × Nat) : List Byte := u16 q.1 ++ u16 q.2

/-- The fields of VIEW_LOAD after the view number (R140). -/
def viewParamsBytes (v : ViewParams) : List Byte :=
  u8 v.valid ++ u16 v.x0 ++ u16 v.y0 ++ u16 v.w ++ u16 v.h ++ u16 v.stepH ++ u16 v.stepV ++ u8 v.filterH ++
    u8 v.filterV ++ u8 v.depth ++ u32 v.interval ++ u8 v.group

/-- The parameters of EGRESS_SET (R163). -/
def egressParamsBytes : EgressParams → List Byte
  | .hub k g b => u8 k ++ u8 g ++ u8 b
  | .port b => u8 b

end Sys2Proof.Machine
end

