-- ==== Sys2Proof/Machine/Wire.lean ====
section
/-! DEFINITION. The packets of the trunk and of the data pair (Chapter 11): their bytes, the request codes with
the lengths that fit them, and the CRC-16. -/

namespace Sys2Proof.Machine

/-! ## Trunk packets (R178) -/

/-- Kind of a request packet (Table 11-1). -/
def kindRequest : Byte := 0x01
/-- Kind of a reply packet. -/
def kindReply : Byte := 0x02
/-- Kind of a notice packet. -/
def kindNotice : Byte := 0x03
/-- Kind of a FRAME_OPEN packet. -/
def kindFrameOpen : Byte := 0x10
/-- Kind of an IMAGE_LINE packet. -/
def kindImageLine : Byte := 0x11
/-- Kind of a FRAME_CLOSE packet. -/
def kindFrameClose : Byte := 0x12

/-- The target byte of the hub, >FF. -/
def hubTarget : Byte := 0xFF

/-- The number that two bytes spell, most significant first. -/
def be2 (a b : Byte) : Nat := a.toNat * 256 + b.toNat

/-- The bytes of a trunk packet: the header of Table 11-1, then the payload. -/
def packetBytes (p : Packet) : List Byte :=
  [p.kind, p.port] ++ u16 p.payload.length ++ u16 p.tag.toNat ++ u16 p.flags.toNat ++ p.payload

/-- The trunk packet that a run of bytes spells, where its length field fits. -/
def readPacket : List Byte → Option Packet
  | k :: p :: l1 :: l0 :: t1 :: t0 :: f1 :: f0 :: payload =>
    if be2 l1 l0 = payload.length then
      some { kind := k, port := p, tag := BitVec.ofNat 16 (be2 t1 t0), flags := BitVec.ofNat 16 (be2 f1 f0)
             payload := payload }
    else none
  | _ => none

/-! ## Requests (Tables 10-5 and 11-2) -/

/-- The request codes (Table 11-2). -/
inductive ReqCode where
  | identify | timeRead | partReset | readEvents | noticeSet
  | isolate | portRead
  | linkSet | linkTest | dropHistoryRead | attrRead | attrWrite
  | budgetSet | portPowerSet | powerOn | powerOff
  | cableTypeSet | portCableSet | autoSweepSet | sweepRequest | sweepCancel | faultClear | faultRead
  | lensProfileLoad | lensHome | lensMove | lensStop | focusTableLoad | lensFocusDistance | lensRead
  | encoderSet | triggerLineSet | triggerSet | triggerSoft | triggerRead
  | ringSet | frameHold | frameRelease | frameList
  | viewLoad | viewBind | viewUnbind | coefSelect | coefWrite | frameResend | pipeReset
  | egressSet
  deriving DecidableEq, Repr

/-- The targets a request takes (Table 10-5). -/
inductive TargetKind where
  | hub | port | either
  deriving DecidableEq, Repr

/-- How long a request's parameters are (R177): a fixed width; a width for each target form; or a list whose
count stands after some bytes. -/
inductive LengthRule where
  | fixed (bytes : Nat)
  | byTarget (hubBytes portBytes : Nat)
  | list (before item : Nat)
  deriving DecidableEq, Repr

/-- Table 11-2: the code of each request. -/
def codeNumber : ReqCode → Nat
  | .identify => 0x01 | .timeRead => 0x02 | .partReset => 0x03 | .readEvents => 0x04 | .noticeSet => 0x05
  | .isolate => 0x10 | .portRead => 0x11
  | .linkSet => 0x20 | .linkTest => 0x21 | .dropHistoryRead => 0x22 | .attrRead => 0x23 | .attrWrite => 0x24
  | .budgetSet => 0x30 | .portPowerSet => 0x31 | .powerOn => 0x32 | .powerOff => 0x33
  | .cableTypeSet => 0x40 | .portCableSet => 0x41 | .autoSweepSet => 0x42 | .sweepRequest => 0x43
  | .sweepCancel => 0x44 | .faultClear => 0x45 | .faultRead => 0x46
  | .lensProfileLoad => 0x50 | .lensHome => 0x51 | .lensMove => 0x52 | .lensStop => 0x53
  | .focusTableLoad => 0x54 | .lensFocusDistance => 0x55 | .lensRead => 0x56
  | .encoderSet => 0x60 | .triggerLineSet => 0x61 | .triggerSet => 0x62 | .triggerSoft => 0x63
  | .triggerRead => 0x64
  | .ringSet => 0x70 | .frameHold => 0x71 | .frameRelease => 0x72 | .frameList => 0x73
  | .viewLoad => 0x80 | .viewBind => 0x81 | .viewUnbind => 0x82 | .coefSelect => 0x83 | .coefWrite => 0x84
  | .frameResend => 0x85 | .pipeReset => 0x86
  | .egressSet => 0x90

/-- Every request. -/
def allCodes : List ReqCode :=
  [.identify, .timeRead, .partReset, .readEvents, .noticeSet, .isolate, .portRead, .linkSet, .linkTest,
   .dropHistoryRead, .attrRead, .attrWrite, .budgetSet, .portPowerSet, .powerOn, .powerOff, .cableTypeSet,
   .portCableSet, .autoSweepSet, .sweepRequest, .sweepCancel, .faultClear, .faultRead, .lensProfileLoad,
   .lensHome, .lensMove, .lensStop, .focusTableLoad, .lensFocusDistance, .lensRead, .encoderSet,
   .triggerLineSet, .triggerSet, .triggerSoft, .triggerRead, .ringSet, .frameHold, .frameRelease, .frameList,
   .viewLoad, .viewBind, .viewUnbind, .coefSelect, .coefWrite, .frameResend, .pipeReset, .egressSet]

/-- The request a code names. -/
def readCode (n : Nat) : Option ReqCode := allCodes.find? fun c => codeNumber c = n

/-- Table 10-5: the targets of each request. -/
def targetKind : ReqCode → TargetKind
  | .identify | .timeRead | .partReset | .noticeSet | .budgetSet | .cableTypeSet | .encoderSet
  | .triggerLineSet | .triggerSoft | .viewLoad | .coefSelect | .coefWrite => .hub
  | .readEvents | .faultRead | .triggerRead | .egressSet => .either
  | .isolate | .portRead | .linkSet | .linkTest | .dropHistoryRead | .attrRead | .attrWrite | .portPowerSet
  | .powerOn | .powerOff | .portCableSet | .autoSweepSet | .sweepRequest | .sweepCancel | .faultClear
  | .lensProfileLoad | .lensHome | .lensMove | .lensStop | .focusTableLoad | .lensFocusDistance | .lensRead
  | .triggerSet | .ringSet | .frameHold | .frameRelease | .frameList | .viewBind | .viewUnbind | .frameResend
  | .pipeReset => .port

/-- The width of each request's parameters, by R177 from the rule of the request. -/
def lengthRule : ReqCode → LengthRule
  | .identify | .timeRead | .partReset | .portRead | .dropHistoryRead | .powerOn | .powerOff | .sweepCancel
  | .faultClear | .lensRead | .frameList | .viewUnbind | .pipeReset => .fixed 0
  | .readEvents | .faultRead | .triggerRead => .byTarget 0 0
  | .isolate | .linkTest | .lensHome | .lensStop | .triggerSoft | .viewBind | .coefSelect => .fixed 1
  | .noticeSet | .linkSet | .lensFocusDistance | .triggerLineSet | .frameHold | .frameRelease => .fixed 2
  | .attrRead | .lensMove | .frameResend => .fixed 3
  | .budgetSet | .encoderSet => .fixed 4
  | .cableTypeSet => .fixed 5
  | .ringSet => .fixed 6
  | .portPowerSet => .fixed 7
  | .autoSweepSet | .sweepRequest => .fixed 8
  | .portCableSet => .fixed 9
  | .triggerSet => .fixed 13
  | .lensProfileLoad => .fixed 18
  | .viewLoad => .fixed 22
  | .egressSet => .byTarget 3 1
  | .attrWrite => .list 2 2
  | .focusTableLoad => .list 3 4
  | .coefWrite => .list 0 1

/-- The port a target byte names. -/
def targetPort (t : Byte) : Option Port := asFin 8 t.toNat

/-- The parameters' length fits the request (R177, check 2 of R169). -/
def lengthFits (c : ReqCode) (target : Byte) (params : List Byte) : Bool :=
  match lengthRule c with
  | .fixed n => params.length = n
  | .byTarget hubN portN =>
    if target = hubTarget then params.length = hubN
    else if (targetPort target).isSome then params.length = portN
    else params.length = hubN || params.length = portN
  | .list before item =>
    match params[before]? with
    | none => false
    | some n => params.length = before + 1 + item * n.toNat

/-- The target is of a kind the request takes (check 3 of R169). -/
def targetFits (c : ReqCode) (target : Byte) : Bool :=
  match targetKind c with
  | .hub => target = hubTarget
  | .port => (targetPort target).isSome
  | .either => target = hubTarget || (targetPort target).isSome

/-- Checks 1 and 2 of R169: the request that a packet is, unless it is a BAD_REQUEST. -/
def requestOf (pkt : Packet) : Option ReqCode :=
  if pkt.kind = kindRequest then
    match pkt.payload with
    | a :: b :: params =>
      match readCode (be2 a b) with
      | none => none
      | some c => if lengthFits c pkt.port params then some c else none
    | _ => none
  else none

/-- A packet spells a request with its parameters; its flags are ignored (R178). -/
def spells (pkt : Packet) (c : ReqCode) (r : ReqHeader) (params : List Byte) : Bool :=
  requestOf pkt = some c && pkt.tag.toNat = r.tag && pkt.port.toNat = r.target &&
    pkt.payload = u16 (codeNumber c) ++ params

/-- A request packet as the host sends it (R178). -/
def requestPacket (c : ReqCode) (r : ReqHeader) (params : List Byte) : Packet :=
  { kind := kindRequest, port := BitVec.ofNat 8 r.target, tag := BitVec.ofNat 16 r.tag, flags := 0
    payload := u16 (codeNumber c) ++ params }

/-! ## Replies and notices -/

/-- What an owner answers: a status and the results its rule names (R169). -/
structure Reply where
  status : Status
  results : List Byte
  deriving DecidableEq, Repr

/-- A refusal that carries no results. -/
def refuse (s : Status) : Reply := { status := s, results := [] }

/-- A reply packet (R178): the request's code, the status, a reserved byte, the results. -/
def replyPacket (target : Byte) (tag : BitVec 16) (code : List Byte) (r : Reply) : Packet :=
  { kind := kindReply, port := target, tag := tag, flags := 0
    payload := code ++ statusCode r.status ++ u8 0 ++ r.results }

/-- The reply whose leaving resets the hub: PART_RESET answered OK (R176). -/
def isResetReply (pkt : Packet) : Bool :=
  pkt.kind = kindReply && pkt.payload.take 3 = u16 (codeNumber .partReset) ++ statusCode .ok

/-! ## The data pair (R179) -/

/-- One bit of the CRC-16 register, generator >1021. -/
def crcShift (c : BitVec 16) : BitVec 16 := if c.msb then (c <<< 1) ^^^ 0x1021#16 else c <<< 1

/-- One byte into the CRC-16 register, most significant bit first. -/
def crcByte (c : BitVec 16) (b : Byte) : BitVec 16 :=
  let c := c ^^^ (b.setWidth 16 <<< 8)
  crcShift (crcShift (crcShift (crcShift (crcShift (crcShift (crcShift (crcShift c)))))))

/-- The CRC-16 of a run of bytes, from >FFFF. -/
def crc16 (bytes : List Byte) : BitVec 16 := bytes.foldl crcByte 0xFFFF#16

/-- A packet body with its CRC-16. -/
def withCrc (body : List Byte) : List Byte := body ++ u16 (crc16 body).toNat

/-- A deliberately bad send (LINK_TEST): the CRC-16 with its low byte inverted. -/
def withBadCrc (body : List Byte) : List Byte := body ++ u16 (crc16 body ^^^ 0x00FF#16).toNat

/-- An upstream packet (Table 11-5). -/
inductive UpPacket where
  | frameStart (number width height id : Nat)
  | line (number : Nat) (pixels : List Nat)
  | frameEnd (linesSent status : Nat)
  | ack (sequence : Nat)
  | attrReply (attr status : Nat) (words : List Nat)
  | lensReport (axis position kind : Nat)
  | lockReply
  deriving DecidableEq, Repr

/-- The type byte and fields of an upstream packet (Table 11-5). -/
def UpPacket.body : UpPacket → List Byte
  | .frameStart n w h id => u8 0x01 ++ u16 n ++ u16 w ++ u16 h ++ u8 id
  | .line n pixels => u8 0x02 ++ u16 n ++ u16 pixels.length ++ pixels.flatMap u16
  | .frameEnd lines status => u8 0x03 ++ u16 lines ++ u8 status
  | .ack sequence => u8 0x04 ++ u8 sequence
  | .attrReply attr status words => u8 0x05 ++ u8 attr ++ u8 status ++ u8 words.length ++ words.flatMap u16
  | .lensReport axis position kind => u8 0x06 ++ u8 axis ++ u16 position ++ u8 kind
  | .lockReply => u8 0x07

/-- An upstream packet as it stands on the pair. -/
def UpPacket.bytes (q : UpPacket) : List Byte := withCrc q.body

/-- A run of bytes as 2-byte words. -/
def readWords : List Byte → Option (List Nat)
  | [] => some []
  | [_] => none
  | a :: b :: rest => (readWords rest).map fun ws => be2 a b :: ws

/-- The fields of a packet of each type, where the length fits the type (R179). -/
def readUpFields (type : Nat) (fields : List Byte) : Option UpPacket :=
  match type, fields with
  | 0x01, [n1, n0, w1, w0, h1, h0, id] => some (.frameStart (be2 n1 n0) (be2 w1 w0) (be2 h1 h0) id.toNat)
  | 0x02, n1 :: n0 :: c1 :: c0 :: rest =>
    match readWords rest with
    | some pixels => if pixels.length = be2 c1 c0 then some (.line (be2 n1 n0) pixels) else none
    | none => none
  | 0x03, [l1, l0, status] => some (.frameEnd (be2 l1 l0) status.toNat)
  | 0x04, [sequence] => some (.ack sequence.toNat)
  | 0x05, attr :: status :: c :: rest =>
    match readWords rest with
    | some words =>
      if words.length = c.toNat ∧ c.toNat ≤ 16 then some (.attrReply attr.toNat status.toNat words) else none
    | none => none
  | 0x06, [axis, p1, p0, kind] => some (.lensReport axis.toNat (be2 p1 p0) kind.toNat)
  | 0x07, [] => some .lockReply
  | _, _ => none

/-- The upstream packet that a run of bytes is: none where the CRC-16 fails, the type is unknown or the length
does not fit (R16, R179). -/
def readUp (bytes : List Byte) : Option UpPacket :=
  if bytes.length < 3 then none
  else
    let body := bytes.take (bytes.length - 2)
    if bytes.drop (bytes.length - 2) = u16 (crc16 body).toNat then
      match body with
      | type :: fields => readUpFields type.toNat fields
      | [] => none
    else none

/-- The control byte: the sequence bit in bit 0, the resend mark in bit 1. -/
def controlByte (sequence resend : Bool) : List Byte :=
  u8 ((if sequence then 1 else 0) + (if resend then 2 else 0))

/-- The type byte and fields of a command message (Table 11-5). -/
def Command.body (c : Command) (sequence resend : Bool) : List Byte :=
  match c with
  | .attrRead _ attr address count =>
    u8 0x81 ++ controlByte sequence resend ++ [attr] ++ u16 address ++ u8 count
  | .attrWrite _ attr address words =>
    u8 0x82 ++ controlByte sequence resend ++ [attr] ++ u16 address ++ counted u16 words
  | .lensMove axis target => u8 0x83 ++ controlByte sequence resend ++ axisCode axis ++ u16 target
  | .lensHome axis => u8 0x84 ++ controlByte sequence resend ++ axisCode axis
  | .lensStop axis => u8 0x85 ++ controlByte sequence resend ++ axisCode axis

/-- A TRIGGER message as it stands on the pair (Table 11-5). -/
def triggerBytes (id : BitVec 8) : List Byte := withCrc (u8 0x86 ++ [id])

/-- The training pattern (Table 11-5): its type byte, six bytes and CRC-16, sent back to back while training. -/
def trainingBytes : List Byte := withCrc (u8 0x80 ++ [0x55, 0xAA, 0x55, 0xAA, 0x0F, 0xF0])

/-! ## Frame flags (Table 11-4) -/

/-- A frame flag by its bit. -/
def frameFlag (bit : Nat) : BitVec 32 := BitVec.ofNat 32 (2 ^ bit)
/-- UNMATCHED, bit 0. -/
def flagUnmatched : BitVec 32 := frameFlag 0
/-- LENS_MOVING, bit 1. -/
def flagLensMoving : BitVec 32 := frameFlag 1
/-- DEGRADED_LINK, bit 2. -/
def flagDegradedLink : BitVec 32 := frameFlag 2
/-- SKIPPED, bit 3. -/
def flagSkipped : BitVec 32 := frameFlag 3
/-- NO_VIEW, bit 4. -/
def flagNoView : BitVec 32 := frameFlag 4
/-- TRUNCATED, bit 5. -/
def flagTruncated : BitVec 32 := frameFlag 5
/-- CONCEALED, bit 6. -/
def flagConcealed : BitVec 32 := frameFlag 6
/-- CROP_EMPTY, bit 7. -/
def flagCropEmpty : BitVec 32 := frameFlag 7
/-- ABORTED, bit 8. -/
def flagAborted : BitVec 32 := frameFlag 8
/-- TRUNK_LOST, bit 9. -/
def flagTrunkLost : BitVec 32 := frameFlag 9
/-- RESEND, bit 10. -/
def flagResend : BitVec 32 := frameFlag 10

/-- A flag stands in a word. -/
def hasFlag (word flag : BitVec 32) : Bool := (word &&& flag) ≠ 0

end Sys2Proof.Machine
end

