-- ==== Sys2Proof/Machine/Flags.lean ====
section
/-! DEFINITION. The offer of a packet to the reply queue (R158), the replies that answered slots keep (R171), and
latched event flags with their notices (R172, R174), which stand behind those replies. -/

namespace Sys2Proof.Machine

/-! ## The reply queue (R158) -/

/-- How an offer to the reply queue ended: taken, discarded because the trunk is DOWN (the reply is gone),
or refused as full. -/
inductive Offer where
  | taken | gone | full
  deriving DecidableEq, Repr

/-- The reply queue can take a packet: fewer than 32, one place being kept while a taking forms its reply
(log entry 9). -/
def Hub.replyRoom (h : Hub) : Bool :=
  h.trunk.replies.length + (if h.mgmt.replyOwed then 1 else 0) < 32

/-- A packet offered to the reply queue (R158). -/
def Hub.offerReply (h : Hub) (pkt : Packet) : Hub × Offer :=
  if h.trunk.up then
    if h.replyRoom then (h.modTrunk fun t => { t with replies := t.replies ++ [pkt] }, .taken)
    else (h, .full)
  else (h.modTrunk fun t => { t with discarded := t.discarded + 1 }, .gone)

/-! ## Replies kept by answered slots (R171) -/

/-- Change one slot. -/
def Hub.setSlot (h : Hub) (i : SlotNo) (x : Slot) : Hub := h.modMgmt fun m => { m with slots := vset m.slots i x }

/-- The first answered slot offers its kept reply (R171): once a place has become free, or at once while the
trunk is DOWN, where the reply is discarded. -/
def Hub.offerAnswered (h : Hub) : Hub :=
  match h.mgmt.answered with
  | [] => h
  | i :: rest =>
    match vget h.mgmt.slots i with
    | .answered reply =>
      let offered := h.offerReply reply
      if offered.2 = .full then h else (offered.1.setSlot i .free).modMgmt fun m => { m with answered := rest }
    | _ => h.modMgmt fun m => { m with answered := rest }

/-- Every answered slot offers its kept reply, in the order of the answers, as far as there is room (R171). It stands
ahead of every other offer to the reply queue but a taking's own reply, before which no slot is ANSWERED with room
(log entry 12). -/
def Hub.offerDue (h : Hub) : Hub := h.mgmt.answered.foldl (fun h _ => h.offerAnswered) h

/-! ## Flag words (Table 11-4) -/

/-- Port flag POWER. -/
def fPower : BitVec 16 := 0x0001
/-- Port flag TRIP. -/
def fTrip : BitVec 16 := 0x0002
/-- Port flag LOCK. -/
def fLock : BitVec 16 := 0x0004
/-- Port flag LINK. -/
def fLink : BitVec 16 := 0x0008
/-- Port flag DEGRADE. -/
def fDegrade : BitVec 16 := 0x0010
/-- Port flag SWEEP. -/
def fSweep : BitVec 16 := 0x0020
/-- Port flag FAULT. -/
def fFault : BitVec 16 := 0x0040
/-- Port flag LENS_DONE. -/
def fLensDone : BitVec 16 := 0x0080
/-- Port flag LENS_FAULT. -/
def fLensFault : BitVec 16 := 0x0100
/-- Port flag FRAME_DROP. -/
def fFrameDrop : BitVec 16 := 0x0200
/-- Port flag TRIG_LOST. -/
def fTrigLost : BitVec 16 := 0x0400
/-- Port flag PASS_LATE. -/
def fPassLate : BitVec 16 := 0x0800
/-- Part flag UNDERVOLT. -/
def fUndervolt : BitVec 16 := 0x0001
/-- Part flag SHED. -/
def fShed : BitVec 16 := 0x0002
/-- Part flag REQ_OVERFLOW. -/
def fReqOverflow : BitVec 16 := 0x0004
/-- Part flag TRUNK. -/
def fTrunk : BitVec 16 := 0x0008

/-! ## Notices and the raising of flags -/

/-- A NOTICE (R174, section 11.2): the hub time, the part flags, the flag words of ports 0 to 7. -/
def Hub.noticePacket (h : Hub) : Packet :=
  { kind := kindNotice, port := hubTarget, tag := 0, flags := 0
    payload := w32 h.time ++ u16 h.mgmt.partFlags.toNat ++
      allPorts.flatMap fun p => u16 (vget h.mgmt.portFlags p).toNat }

/-- One notice offered (R174), behind the kept replies of answered slots (R171): a full reply queue leaves it
unsent. -/
def Hub.offerNotice (h : Hub) : Hub :=
  let offered := h.offerDue.offerReply h.noticePacket
  if offered.2 = .full then offered.1.modMgmt fun m => { m with unsent := m.unsent + 1 } else offered.1

/-- The kinds, as bits of the enables, of the flags an event sets that were clear (R174). -/
def Hub.rising (h : Hub) (p : Port) (port part : BitVec 16) : BitVec 16 :=
  (port &&& ~~~vget h.mgmt.portFlags p) ||| ((part &&& ~~~h.mgmt.partFlags) <<< 12)

/-- Flags set without their notice, which the event offers at its end (R172). -/
def Hub.setFlags (h : Hub) (p : Port) (port part : BitVec 16) : Hub :=
  h.modMgmt fun m => { m with portFlags := vmod m.portFlags p (· ||| port), partFlags := m.partFlags ||| part }

/-- One notice for the kinds that rose in an event, where one of them is enabled (R174). -/
def Hub.noticeFor (h : Hub) (rose : BitVec 16) : Hub :=
  if rose &&& h.mgmt.enables = 0 then h else h.offerNotice

/-- The flags of one event set (R172), with one notice where an enabled kind rises (R174). -/
def Hub.raise (h : Hub) (p : Port) (port part : BitVec 16) : Hub :=
  (h.setFlags p port part).noticeFor (h.rising p port part)

/-- Port flags of one event. -/
def Hub.flag (h : Hub) (p : Port) (fs : BitVec 16) : Hub := h.raise p fs 0

/-- Part flags of one event. -/
def Hub.flagPart (h : Hub) (fs : BitVec 16) : Hub := h.raise 0 0 fs

end Sys2Proof.Machine
end

