-- ==== Sys2Proof/Machine/Slots.lean ====
section
/-! DEFINITION. Pass-through slots (R170, R171): answering a slot and offering its reply. -/

namespace Sys2Proof.Machine

/-- All slots, in rising order. -/
def allSlots : List SlotNo := [0, 1, 2, 3]

/-- The code of a pass-through request. -/
def passCode : PassKind → ReqCode
  | .read => .attrRead
  | .write => .attrWrite

/-- A slot's reply offered (R171), behind the replies already kept: a taken or discarded reply frees the slot; a full
queue leaves it ANSWERED, last in the order of answers. -/
def Hub.offerSlotReply (h : Hub) (i : SlotNo) (reply : Packet) : Hub :=
  let offered := h.offerDue.offerReply reply
  if offered.2 = .full then
    (offered.1.setSlot i (.answered reply)).modMgmt fun m => { m with answered := m.answered ++ [i] }
  else offered.1.setSlot i .free

/-- A WAITING slot answered (R171); any other slot is left as it is. -/
def Hub.answerSlot (h : Hub) (i : SlotNo) (status : Status) (results : List Byte) : Hub :=
  match vget h.mgmt.slots i with
  | .waiting tag p kind _ _ =>
    h.offerSlotReply i
      (replyPacket (BitVec.ofNat 8 p.val) tag (u16 (codeNumber (passCode kind))) ⟨status, results⟩)
  | _ => h

/-- The slot waits on this port with this attribute number (R171). -/
def Slot.waitsFor (x : Slot) (p : Port) (attr : BitVec 8) : Bool :=
  match x with
  | .waiting _ q _ a _ => q = p && a = attr
  | _ => false

/-- The slot waits on this port. -/
def Slot.waitsOn (x : Slot) (p : Port) : Bool :=
  match x with
  | .waiting _ q _ _ _ => q = p
  | _ => false

/-- A completion of a slot's command answers the slot while it still waits for that command (R171). -/
def Hub.completeSlot (h : Hub) (i : SlotNo) (p : Port) (attr : BitVec 8) (status : Status) : Hub :=
  if (vget h.mgmt.slots i).waitsFor p attr then h.answerSlot i status [] else h

/-- A link drop answers every slot still waiting on the port (R171). The manual gives no order among them: they are
answered, and their replies offered or kept, in rising slot number (DESIGN CHOICE, log entry 12). -/
def Hub.dropSlots (h : Hub) (p : Port) : Hub :=
  allSlots.foldl (fun h i => if (vget h.mgmt.slots i).waitsOn p then h.answerSlot i .linkDown [] else h) h

/-- The lowest-numbered FREE slot (R170). -/
def Hub.freeSlot (h : Hub) : Option SlotNo := allSlots.find? fun i => vget h.mgmt.slots i = .free

/-- An ATTR_REPLY (R171): it answers the slot that waits on the port with its number, or is late. Where two slots wait
with one number, which a wrapped count can give, it answers the lower slot alone (DESIGN CHOICE, log entry 35). -/
def Hub.attrReply (h : Hub) (p : Port) (attr : BitVec 8) (status : Nat) (words : List Nat) : Hub :=
  match allSlots.find? fun i => (vget h.mgmt.slots i).waitsFor p attr with
  | none => (h.modMgmt fun m => { m with lateReplies := m.lateReplies + 1 }).flag p fPassLate
  | some i =>
    if status ≠ 0 then h.answerSlot i .cameraError (u8 status)
    else
      match vget h.mgmt.slots i with
      | .waiting _ _ .read _ _ => h.answerSlot i .ok (counted u16 words)
      | _ => h.answerSlot i .ok []

end Sys2Proof.Machine
end

