-- ==== Sys2Proof/Machine/Channel.lean ====
section
/-! DEFINITION. The downstream channel of a port (R27, R28, R31): one whole message at a time, triggers first. -/

namespace Sys2Proof.Machine

/-- The head command sent, as a first send or a resend (R28, R30); LINK_TEST spoils its CRC-16 while the test
count lasts (R32). -/
def LinkCtl.sendHead (l : LinkCtl) (resend : Bool) : LinkCtl :=
  match l.queue with
  | [] => l
  | c :: _ =>
    let body := c.body l.sequence resend
    { l with
      channel := .command (if 0 < l.testCount then withBadCrc body else withCrc body)
      testCount := l.testCount - 1
      sendCount := l.sendCount + 1
      ackWait := none
      waitEnded := false }

/-- A message boundary with the channel free (R28, R31): a pending trigger goes first; then, with no command in
flight, the head command is sent as a new command. -/
def LinkCtl.pump (l : LinkCtl) : LinkCtl :=
  if l.channel = .idle && l.established then
    match l.pendingTrigger with
    | some id => { l with channel := .trigger (triggerBytes id), pendingTrigger := none }
    | none => if l.sendCount = 0 then l.sendHead false else l
  else l

/-- A TRIGGER message offered (R31): sent at once if nothing is being sent, else held for the boundary. -/
def LinkCtl.offerTrigger (l : LinkCtl) (id : BitVec 8) : LinkCtl :=
  ({ l with pendingTrigger := some id }).pump

/-- What refuses a command offered to the camera command queue (R27): the link, then the room. -/
def Hub.commandRefusal (h : Hub) (p : Port) : Option Status :=
  if ¬ (h.lk p).established then some .linkDown
  else if 8 ≤ (h.lk p).queue.length then some .queueFull
  else none

/-- A command accepted at the tail of the queue (R27, R28). An attribute command takes the port's next attribute
number. -/
def Hub.queueCommand (h : Hub) (p : Port) (isAttr : Bool) (mk : BitVec 8 → Command) : Hub :=
  h.modLink p fun l =>
    ({ l with
        queue := l.queue ++ [mk l.nextAttr]
        nextAttr := if isAttr then l.nextAttr + 1 else l.nextAttr }).pump

end Sys2Proof.Machine
end

