-- ==== Sys2Proof/Machine/Triggers.lean ====
section
/-! DEFINITION. The Trigger Unit's operations: firing, sending, release, resolution and loss of triggers
(R111 to R119). -/

namespace Sys2Proof.Machine

/-- What became of a trigger that fired (R113). -/
inductive FireOutcome where
  | sent (id : BitVec 8)
  | deferred
  | lostLink
  | lostOver
  deriving DecidableEq, Repr

/-- The resolution of a FRAME_START id (Table 6-3). -/
inductive Resolution where
  | matched (fired : FiredAt) (lensMoving : Bool)
  | unmatched
  | untriggered
  deriving DecidableEq, Repr

/-- The id after an id: from 255 to 1 (R115). -/
def nextTriggerId (id : BitVec 8) : BitVec 8 := if id = 255 then 1 else id + 1

/-- A trigger sent (R115). -/
def Hub.sendTrigger (h : Hub) (p : Port) (fired : FiredAt) (lensMoving : Bool) : Hub :=
  let t := h.tg p
  let h := h.modTrig p fun t =>
    { t with
      nextId := nextTriggerId t.nextId
      hand := .outstanding fired t.nextId lensMoving h.time (after h.time (t.timeout * 1000))
      issued := t.issued + 1 }
  h.modLink p fun l => l.offerTrigger t.nextId

/-- A trigger that fires on a port (R114). -/
def Hub.fire (h : Hub) (p : Port) : Hub × FireOutcome :=
  let fired : FiredAt := { encoder := h.encoder.counter, time := h.time }
  let moving := (h.ln p).anyMotion
  let h := h.modTrig p fun t => { t with requested := t.requested + 1 }
  if ¬ (h.lk p).established then
    ((h.modTrig p fun t => { t with lostLink := t.lostLink + 1 }).flag p fTrigLost, .lostLink)
  else if (h.tg p).hand ≠ .none then
    ((h.modTrig p fun t => { t with lostOver := t.lostOver + 1 }).flag p fTrigLost, .lostOver)
  else if moving && (h.tg p).policy = .defer then
    (h.modTrig p fun t => { t with hand := .deferred fired }, .deferred)
  else (h.sendTrigger p fired moving, .sent (h.tg p).nextId)

/-- The report that a port's last lens axis has become IDLE, at the Trigger Unit (R116). -/
def Hub.releaseDeferred (h : Hub) (p : Port) : Hub :=
  match (h.tg p).hand with
  | .deferred fired =>
    if (h.lk p).established then h.sendTrigger p fired false
    else (h.modTrig p fun t => { t with hand := .none, lostLink := t.lostLink + 1 }).flag p fTrigLost
  | _ => h

/-- A FRAME_START id resolved (R117). -/
def Hub.resolveId (h : Hub) (p : Port) (id : Nat) : Hub × Resolution :=
  if id = 0 then (h, .untriggered)
  else
    match (h.tg p).hand with
    | .outstanding fired outId lensMoving _ _ =>
      if outId.toNat = id then
        (h.modTrig p fun t => { t with hand := .none, matched := t.matched + 1 }, .matched fired lensMoving)
      else (h, .unmatched)
    | _ => (h, .unmatched)

/-- A link drop at the Trigger Unit (R119). -/
def Hub.dropTrigger (h : Hub) (p : Port) : Hub :=
  match (h.tg p).hand with
  | .deferred _ => (h.modTrig p fun t => { t with hand := .none, lostLink := t.lostLink + 1 }).flag p fTrigLost
  | .outstanding .. => h.modTrig p fun t => { t with hand := .none, aborted := t.aborted + 1 }
  | .none => h

/-- p is a trigger point of the table (test 1 of R111), on the exact integers. -/
def PortTrigger.isPoint (t : PortTrigger) (p : BitVec 32) : Bool := (p.toInt - (t.phase : Int)) % (t.pitch : Int) = 0

/-- The direction of a step is allowed (test 2 of R111). -/
def PortTrigger.allows (t : PortTrigger) (forward : Bool) : Bool :=
  match t.direction with
  | .both => true
  | .fwd => forward
  | .rev => !forward

/-- A step of the encoder offered to one port (R111). -/
def Hub.offerStep (h : Hub) (forward : Bool) (p : Port) : Hub :=
  let t := h.tg p
  let c := h.encoder.counter
  if t.source = .encoder && t.isPoint c && t.allows forward && t.lastFired ≠ some c then
    ((h.modTrig p fun t => { t with lastFired := some c }).fire p).1
  else h

/-- The place of a pair of levels in the forward cycle of the quadrature: A leads B (R105, log entry 13). -/
def quadrature (a b : Bool) : Nat :=
  match a, b with
  | false, false => 0
  | true, false => 1
  | true, true => 2
  | false, true => 3

/-- A level change on the encoder inputs (R105). A step is offered to the ports in rising number (DESIGN CHOICE, log
entry 33). -/
def Hub.encoderStep (h : Hub) (a b : Bool) : Hub :=
  let turn := (quadrature a b + 4 - quadrature h.encoder.a h.encoder.b) % 4
  let h := { h with encoder := { h.encoder with a := a, b := b } }
  if turn = 0 then h
  else if turn = 2 then { h with encoder := { h.encoder with errors := h.encoder.errors + 1 } }
  else
    let forward := turn = 1
    let c := if forward then h.encoder.counter + 1 else h.encoder.counter - 1
    let h := { h with encoder := { h.encoder with counter := c } }
    allPorts.foldl (fun h p => h.offerStep forward p) h

/-- A trigger line fires (R112), on its ports in rising number (DESIGN CHOICE, log entry 33). -/
def Hub.fireLine (h : Hub) (l : LineNo) : Hub :=
  allPorts.foldl (fun h p => if (h.tg p).source = .line l then (h.fire p).1 else h) h

end Sys2Proof.Machine
end

