-- ==== Sys2Proof/Machine/Lens.lean ====
section
/-! DEFINITION. The Lens Controller's operations: the allowance (R42, R86, R87), motions, completions, reports,
deadlines and drops (R89 to R98), and the focus tables' arithmetic (R101, R102). -/

namespace Sys2Proof.Machine

/-- How a command completes to its originator (R22, R29, R30). -/
inductive Completion where
  | delivered | noAck | linkDown
  deriving DecidableEq, Repr

/-- All axes, in the manual's order. -/
def allAxes : List AxisId := [.focus, .zoom, .iris]

/-- The Power Controller grants a port's lens allowance (R42); otherwise it answers NO_BUDGET. -/
def Hub.allowanceFits (h : Hub) (p : Port) : Bool :=
  decide ((h.pw p).state = .on) && decide (h.grantedTotal + (h.pw p).allowance ≤ h.cell.budget)

/-- The lens allowance granted (R42). -/
def Hub.holdAllowance (h : Hub) (p : Port) : Hub := h.modPower p fun q => { q with allowanceHeld := true }

/-- A port's last axis may have become IDLE (R86): with none in motion the allowance is released and the
Trigger Unit is told. -/
def Hub.reportIdle (h : Hub) (p : Port) : Hub :=
  if (h.ln p).anyMotion then h
  else (h.modPower p fun q => { q with allowanceHeld := false }).releaseDeferred p

/-- The two common steps of a lens command (R87): the allowance where no axis is in motion, then the queue. The
hub after them, and the status that refuses the request, or none where it is accepted. A queue that refuses gives
back an allowance taken here and has the last axis reported IDLE. -/
def Hub.lensCommand (h : Hub) (p : Port) (c : Command) : Hub × Option Status :=
  if (h.ln p).anyMotion then
    match h.commandRefusal p with
    | none => (h.queueCommand p false fun _ => c, none)
    | some e => (h, some e)
  else if h.allowanceFits p then
    match h.commandRefusal p with
    | none => ((h.holdAllowance p).queueCommand p false fun _ => c, none)
    | some e => ((h.holdAllowance p).reportIdle p, some e)
  else (h, some .noBudget)

/-- ceil(a / b). -/
def ceilDiv (a b : Nat) : Nat := (a + b - 1) / b

/-- The time allowed for a travel, in ms: its time at the axis's rate plus 200, at most 2,000,000
(R87, R89 to R91). -/
def travelMs (steps rate : Nat) : Nat := Nat.min (ceilDiv (steps * 1000) rate + 200) 2000000

/-- The deadline some ms after a time. -/
def deadlineAfter (t : HubTime) (ms : Nat) : HubTime := after t (ms * 1000)

/-- |a - b|. -/
def distance (a b : Nat) : Nat := (a - b) + (b - a)

/-- An axis after an accepted LENS_HOME (R87, R89). -/
def Axis.home (a : Axis) (now : HubTime) : Axis :=
  { a with
    pending := a.pending + 1
    startTime := now
    position := none
    motion := .homing
    deadline := deadlineAfter now (travelMs a.max a.rate) }

/-- An axis after an accepted LENS_MOVE from IDLE at a known position (R87, R90). -/
def Axis.moveFrom (a : Axis) (now : HubTime) (position target : Nat) : Axis :=
  { a with
    pending := a.pending + 1
    startTime := now
    motion := .moving
    start := position
    target := target
    deadline := deadlineAfter now (travelMs (distance target position) a.rate) }

/-- Where the motor of a MOVING axis is estimated to be (R91). -/
def Axis.estimate (a : Axis) (now : HubTime) : Nat :=
  let run := (elapsed now a.startTime / 1000) * a.rate / 1000
  if a.start < a.target then Nat.min (a.start + run) a.target else Nat.max (a.start - run) a.target

/-- An axis after an accepted retarget (R87, R91). -/
def Axis.retarget (a : Axis) (now : HubTime) (target : Nat) : Axis :=
  let e := a.estimate now
  { a with
    pending := a.pending + 1
    start := e
    startTime := now
    target := target
    position := some e
    deadline := deadlineAfter now (travelMs (distance target e) a.rate) }

/-- An axis after an accepted LENS_STOP (R87, R92). -/
def Axis.stop (a : Axis) (now : HubTime) : Axis :=
  { a with
    pending := a.pending + 1
    startTime := now
    fromHoming := decide (a.motion = .homing)
    motion := .stopping
    deadline := deadlineAfter now 200 }

/-- An axis whose motion ended without a position (R93, R96, R97, R98). -/
def Axis.lost (a : Axis) (o : LensOutcome) : Axis := { a with position := none, motion := .idle, outcome := o }

/-- A lens command completes to its axis (R93). -/
def Hub.completeLens (h : Hub) (p : Port) (x : AxisId) (how : Completion) : Hub :=
  let h := h.modAxis p x fun a => { a with pending := a.pending - 1 }
  let a := h.ax p x
  if how = .noAck && a.pending = 0 && a.moving then
    ((h.modAxis p x fun a => a.lost .link).flag p fLensFault).reportIdle p
  else h

/-- The row of Table 5-3 that a report meets: position, flag and last outcome; none where the report is
mismatched. A position above max becomes UNKNOWN, and a LENS_DONE then a LENS_FAULT with SLIP (R94). -/
def Axis.reportRow (a : Axis) (position kind : Nat) : Option (Option Nat × BitVec 16 × LensOutcome) :=
  let at' := if position ≤ a.max then some position else none
  let doneAt : Option Nat × BitVec 16 × LensOutcome :=
    if position ≤ a.max then (at', fLensDone, .finished) else (none, fLensFault, .slip)
  match a.motion, kind with
  | .homing, 2 => some (some 0, fLensDone, .finished)
  | .homing, 1 => some (none, fLensFault, .stall)
  | .moving, 0 =>
    if distance position a.target ≤ a.tolerance then some doneAt else some (at', fLensFault, .slip)
  | .moving, 1 => some (at', fLensFault, .stall)
  | .stopping, 0 => if a.fromHoming then some (none, fLensDone, .finished) else some doneAt
  | .stopping, 1 => if a.fromHoming then some (none, fLensFault, .stall) else some (at', fLensFault, .stall)
  | .stopping, 2 => if a.fromHoming then some (some 0, fLensDone, .finished) else none
  | _, _ => none

/-- A report that is ignored, counted (R95). -/
def Hub.ignoreReport (h : Hub) (p : Port) (late : Bool) : Hub :=
  h.modLens p fun l =>
    if late then { l with lateReports := l.lateReports + 1 } else { l with ignoredReports := l.ignoredReports + 1 }

/-- A LENS_REPORT (R94, R95). A kind outside Table 11-5 is ignored whatever the axis does, also where the axis is
present and IDLE and the report is late as well: it is counted once, as ignored (DESIGN CHOICE, log entry 28). -/
def Hub.lensReport (h : Hub) (p : Port) (axis position kind : Nat) : Hub :=
  match readAxis axis with
  | none => h.ignoreReport p false
  | some x =>
    let a := h.ax p x
    if 2 < kind then h.ignoreReport p false
    else if ¬ a.present then h.ignoreReport p false
    else if ¬ a.moving then h.ignoreReport p true
    else if 0 < a.pending then h.ignoreReport p false
    else
      match a.reportRow position kind with
      | none => h.ignoreReport p false
      | some (pos, fs, o) =>
        ((h.modAxis p x fun a => { a with position := pos, motion := .idle, outcome := o }).flag p fs).reportIdle p

/-- A link drop at the Lens Controller (R97). -/
def Hub.dropLens (h : Hub) (p : Port) : Hub :=
  if (h.ln p).anyMotion then
    let fell (a : Axis) : Axis := if a.moving then { a.lost .link with pending := 0 } else a
    ((h.modLens p fun l => { l with focus := fell l.focus, zoom := fell l.zoom, iris := fell l.iris }).flag p
      fLensFault).reportIdle p
  else h

/-- The port's power state leaves ON, at the Lens Controller (R98). -/
def Hub.lensPowerLost (h : Hub) (p : Port) : Hub :=
  let fell (a : Axis) : Axis :=
    { a.lost (if a.moving then .link else a.outcome) with pending := 0 }
  let h' := h.modLens p fun l => { l with focus := fell l.focus, zoom := fell l.zoom, iris := fell l.iris }
  if (h.ln p).anyMotion then (h'.flag p fLensFault).reportIdle p else h'

/-! ## Focus tables -/

/-- The reference zoom position (R101). -/
def PortLens.zoomReference (l : PortLens) : Option Nat :=
  if ¬ l.zoom.present then some 0
  else
    match l.zoom.motion with
    | .moving => some l.zoom.target
    | .idle => l.zoom.position
    | _ => none

/-- The loaded stop, in rising index, whose zoom position differs least from a reference (R101): the best so
far is kept on a tie. -/
def nearestStop (ref : Nat) : List (Nat × Option FocusStop) → Option (Nat × FocusStop) → Option (Nat × FocusStop)
  | [], best => best
  | (_, none) :: rest, best => nearestStop ref rest best
  | (n, some st) :: rest, none => nearestStop ref rest (some (n, st))
  | (n, some st) :: rest, some (m, b) =>
    if distance st.zoom ref < distance b.zoom ref then nearestStop ref rest (some (n, st))
    else nearestStop ref rest (some (m, b))

/-- The stop chosen for a reference zoom position (R101). -/
def PortLens.chooseStop (l : PortLens) (ref : Nat) : Option (Nat × FocusStop) :=
  nearestStop ref [(0, vget l.stops 0), (1, vget l.stops 1), (2, vget l.stops 2), (3, vget l.stops 3)] none

/-- The straight line between two points, the quotient truncated toward zero (R102). -/
def interpolate (d d0 f0 d1 f1 : Nat) : Int :=
  (f0 : Int) + Int.tdiv (((d : Int) - d0) * ((f1 : Int) - f0)) ((d1 : Int) - d0)

/-- The focus for a distance on a stop's points (R102), before the clamp. -/
def focusOn (d : Nat) : List (Nat × Nat) → Int
  | [] => 0
  | [(_, f)] => f
  | (d0, f0) :: (d1, f1) :: rest =>
    if d ≤ d0 then f0
    else if d < d1 then interpolate d d0 f0 d1 f1
    else focusOn d ((d1, f1) :: rest)

/-- The focus clamped to 0 to max (R102). -/
def clampFocus (f : Int) (max : Nat) : Nat := Nat.min f.toNat max

end Sys2Proof.Machine
end

