-- ==== Sys2Proof/Machine/Frames.lean ====
section
/-! DEFINITION. The Frame Memory Controller's operations: the frame table, placement and admission, lines,
concealment, release and link loss (R122 to R133). -/

namespace Sys2Proof.Machine

/-! ## The frame table (R124) -/

/-- Change the record of a serial. -/
def PortFrames.modRecord (f : PortFrames) (serial : Nat) (g : FrameRecord → FrameRecord) : PortFrames :=
  { f with table := f.table.map fun r => if r.serial = serial then g r else r }

/-- The record of a serial. -/
def PortFrames.record (f : PortFrames) (serial : Nat) : Option FrameRecord := f.table.find? fun r => r.serial = serial

/-- The record in state FILLING. -/
def PortFrames.filling (f : PortFrames) : Option FrameRecord := f.table.find? fun r => r.state = .filling

/-- The present record of a frame number that arrived last (R124). -/
def PortFrames.named (f : PortFrames) (number : Nat) : Option FrameRecord :=
  f.table.reverse.find? fun r => r.number = number

/-- The records held (R134). -/
def PortFrames.heldCount (f : PortFrames) : Nat := (f.table.filter (·.held)).length

/-- Change a record of a port. -/
def Hub.modRecord (h : Hub) (p : Port) (serial : Nat) (g : FrameRecord → FrameRecord) : Hub :=
  h.modFrames p fun f => f.modRecord serial g

/-- A record meets the conditions of release (R133). -/
def FrameRecord.releasable (r : FrameRecord) : Bool :=
  r.state = .sent && !r.held && r.resends.isEmpty && !r.retained

/-- A record checked for release (R133): released, it leaves the table. -/
def PortFrames.checkRelease (f : PortFrames) (serial : Nat) : PortFrames :=
  { f with table := f.table.filter fun r => !(r.serial = serial && r.releasable) }

/-! ## Admission (R125 to R127) -/

/-- A frame's size (R125): its pixels at two bytes, in whole blocks of 4,096. -/
def frameSize (w h : Nat) : Nat := ceilDiv (w * h * 2) 4096 * 4096

/-- Where a frame of a size is placed (R126): at the cursor, or at 0 where it would pass the ring's end. -/
def PortFrames.placement (f : PortFrames) (size : Nat) : Nat :=
  if f.ringBytes < f.cursor + size then 0 else f.cursor

/-- The placement overlaps a present record (R126). -/
def PortFrames.overlaps (f : PortFrames) (offset size : Nat) : Bool :=
  f.table.any fun r => decide (offset < r.offset + r.size) && decide (r.offset < offset + size)

/-- Step 1 of R125: every record that is retained, not held and has no pending resend is released. -/
def PortFrames.releaseRetained (f : PortFrames) : PortFrames :=
  { f with table := f.table.filter fun r => !(r.retained && !r.held && r.resends.isEmpty) }

/-- The reasons of a drop at admission (R125). -/
inductive DropReason where
  | noRing | tooLarge | noRecord | noSpace
  deriving DecidableEq, Repr

/-- The first reason that applies (R125, step 3). -/
def PortFrames.dropReason (f : PortFrames) (w h : Nat) : Option DropReason :=
  let size := frameSize w h
  if f.ringLength = 0 then some .noRing
  else if decide (4096 < w) || decide (4096 < h) || decide (f.ringBytes < size) then some .tooLarge
  else if 8 ≤ f.table.length then some .noRecord
  else if f.overlaps (f.placement size) size then some .noSpace
  else none

/-- The drop count of a reason increased (R125, step 4). -/
def PortFrames.countDrop (f : PortFrames) : DropReason → PortFrames
  | .noRing => { f with noRing := f.noRing + 1 }
  | .tooLarge => { f with tooLarge := f.tooLarge + 1 }
  | .noRecord => { f with noRecord := f.noRecord + 1 }
  | .noSpace => { f with noSpace := f.noSpace + 1 }

/-- The frame is rate-limited under an interval (R127). -/
def PortFrames.rateLimited (f : PortFrames) (now : HubTime) (interval : Nat) : Bool :=
  match f.lastOutput with
  | none => false
  | some t => decide (elapsed now t < interval)

/-- The trigger part of a new record's flags (R127). -/
def triggerFlags : Resolution → BitVec 32
  | .matched _ lensMoving => if lensMoving then flagLensMoving else 0
  | .unmatched => flagUnmatched
  | .untriggered => 0

/-- A FRAME_START taken by the Frame Memory Controller (R125 to R127). -/
def Hub.admitFrame (h : Hub) (p : Port) (number w ht id : Nat) (res : Resolution) : Hub :=
  let f := (h.fr p).releaseRetained
  match f.dropReason w ht with
  | some reason =>
    (h.modFrames p fun _ => { f.countDrop reason with intake := .discarding }).flag p fFrameDrop
  | none =>
    let size := frameSize w ht
    let offset := f.placement size
    let live := (vget h.view.bindings p).view
    let limited :=
      match live with
      | none => false
      | some v => f.rateLimited h.time (vget h.view.views v).interval
    let flags :=
      triggerFlags res ||| (if (h.lk p).state = .degraded then flagDegradedLink else 0) |||
        (if live.isNone then flagNoView else 0) ||| (if limited then flagSkipped else 0)
    let rec' : FrameRecord :=
      { serial := f.nextSerial, number := number, triggerId := id
        trigger := match res with | .matched fired _ => some fired | _ => none
        arrival := h.time, fillDeadline := after h.time (f.timeout * 1000)
        width := w, height := ht, offset := offset, size := size
        state := .filling, held := false, retained := false, view := live, flags := flags
        concealed := 0, cameraEnd := none, resends := [], written := [] }
    h.modFrames p fun _ =>
      { f with
        table := f.table ++ [rec']
        nextSerial := f.nextSerial + 1
        admitted := f.admitted + 1
        skipped := if limited then f.skipped + 1 else f.skipped
        lastOutput := if live.isSome && !limited then some h.time else f.lastOutput
        cursor := if offset + size = f.ringBytes then 0 else offset + size
        intake := .filling }

/-! ## Lines and concealment (R128, R129) -/

/-- The address of a record's first byte in frame memory. -/
def PortFrames.base (f : PortFrames) (r : FrameRecord) : Nat := f.ringStart * 65536 + r.offset

/-- A line's pixels as frame memory holds them: 12 bits in two bytes (R128, R179, log entry 8). -/
def lineBytes (pixels : List Nat) : List Byte := pixels.flatMap fun v => u16 (v % 4096)

/-- The pixel at an address of frame memory. -/
def readPixel (m : Memory) (a : Nat) : Nat :=
  be2 (Memory.read m (memoryAddress a)) (Memory.read m (memoryAddress (a + 1)))

/-- Lines from r on concealed in line order (R129): line 0 with zeros, any other with the line before it. -/
def concealFrom (m : Memory) (base bytes : Nat) (written : List Nat) : Nat → Nat → Memory
  | _, 0 => m
  | r, n + 1 =>
    let m' :=
      if r ∈ written then m
      else if r = 0 then Memory.writeBytes m base (List.replicate bytes 0)
      else Memory.writeBytes m (base + r * bytes) (Memory.readBytes m (base + (r - 1) * bytes) bytes)
    concealFrom m' base bytes written (r + 1) n

/-- Frame memory after a record's missing lines are concealed (R129). -/
def PortFrames.conceal (f : PortFrames) (r : FrameRecord) (m : Memory) : Memory :=
  concealFrom m (f.base r) (r.width * 2) r.written 0 r.height

/-- The number of lines concealed (R129). -/
def FrameRecord.missing (r : FrameRecord) : Nat := ((List.range r.height).filter fun n => n ∉ r.written).length

/-- A record at its completion (R129, R130): COMPLETE, or SENT and retained where it carries SKIPPED or
NO_VIEW. -/
def FrameRecord.completed (r : FrameRecord) (cameraEnd : Option (Nat × Nat)) (truncated : Bool) : FrameRecord :=
  let flags := r.flags ||| (if truncated then flagTruncated else 0) ||| (if 0 < r.missing then flagConcealed else 0)
  let kept := hasFlag flags flagSkipped || hasFlag flags flagNoView
  { r with
    flags := flags
    concealed := r.missing
    cameraEnd := cameraEnd
    state := if kept then .sent else .complete
    retained := kept || r.retained }

/-- The link enters DEGRADED (R128): the FILLING record takes DEGRADED_LINK. -/
def Hub.degradeFilling (h : Hub) (p : Port) : Hub :=
  h.modFrames p fun f =>
    { f with
      table := f.table.map fun r => if r.state = .filling then { r with flags := r.flags ||| flagDegradedLink } else r }

/-- A link drop at the Frame Memory Controller (R131). -/
def Hub.dropFrame (h : Hub) (p : Port) : Hub :=
  match (h.fr p).filling with
  | none => h.modFrames p fun f => { f with intake := .idle }
  | some r =>
    (h.modFrames p fun f =>
      { f with
        table := f.table.filter fun x => x.serial ≠ r.serial
        linkAbort := f.linkAbort + 1
        intake := .idle }).flag p fFrameDrop

end Sys2Proof.Machine
end

