-- ==== Sys2Proof/Machine/Resample.lean ====
section
/-! DEFINITION. The arithmetic of views: output sizes and loads (R138, R141), resampling and depth reduction
(R148 to R150). -/

namespace Sys2Proof.Machine

/-- Output pixels of n input pixels at a step (R138). -/
def outSize (n step : Nat) : Nat := (n - 1) * 1024 / step + 1

/-- The output width of a view (R138). -/
def View.outW (v : View) : Nat := outSize v.w v.stepH

/-- The output height of a view (R138). -/
def View.outH (v : View) : Nat := outSize v.h v.stepV

/-- Bytes of a pixel at a depth (Table 8-1). -/
def bytesPerPixel : Depth → Nat
  | .pix12 => 2
  | _ => 1

/-- The load of a view in bytes per second (R141). -/
def View.load (v : View) : Nat :=
  ceilDiv ((v.outW * bytesPerPixel v.depth + 32) * v.outH * 1000000) v.interval

/-- A value clamped to 0-4,095 (R148). -/
def clamp12 (x : Int) : Nat := Nat.min x.toNat 4095

/-- An index replicated at the edges 0 and n - 1 (R148). -/
def edge (i : Int) (n : Nat) : Nat := Nat.min i.toNat (n - 1)

/-- The coefficient of a table at a phase and tap, signed (R143). -/
def coefficient (t : CoefTable) (phase tap : Nat) : Int := (t.toList.getD (phase * 4 + tap) 0).toInt

/-- One output value of a pass (R148, R149): output place k at a step, over n inputs x. -/
def resample (tables : Vector CoefTable 4) (f : Filter) (step n k : Nat) (x : Nat → Nat) : Nat :=
  let pos := k * step
  match f with
  | .nearest => x (Nat.min ((pos + 512) / 1024) (n - 1))
  | .table t =>
    let j := pos / 1024
    let phase := pos % 1024 / 128
    let term (tap : Nat) : Int := coefficient (vget tables t) phase tap * (x (edge ((j : Int) + tap - 1) n) : Int)
    clamp12 ((term 0 + term 1 + term 2 + term 3 + 32) / 64)

/-- The dither offset of an output pixel (Table 8-6). -/
def ditherOffset (line pixel : Nat) : Nat :=
  if line % 2 = 0 then (if pixel % 2 = 0 then 0 else 8) else (if pixel % 2 = 0 then 12 else 4)

/-- A value reduced to a depth (R150). -/
def reduceDepth (d : Depth) (line pixel v : Nat) : Nat :=
  match d with
  | .pix12 => v
  | .pix8Round => Nat.min 255 ((v + 8) / 16)
  | .pix8Dither => Nat.min 255 ((v + ditherOffset line pixel) / 16)

/-- A pixel as a packet carries it (section 11.2). -/
def pixelBytes (d : Depth) (v : Nat) : List Byte :=
  match d with
  | .pix12 => u16 v
  | _ => u8 v

/-- The intermediate row of an output line (R148): one value for each column of the effective crop. -/
def verticalPass (tables : Vector CoefTable 4) (v : View) (cropW cropH line : Nat) (pixel : Nat → Nat → Nat) : List Nat :=
  (List.range cropW).map fun c => resample tables v.filterV v.stepV cropH line (fun r => pixel c r)

/-- An output line after both passes and depth reduction (R148 to R150). -/
def outputLine (tables : Vector CoefTable 4) (v : View) (cropW cropH outW line : Nat) (pixel : Nat → Nat → Nat) : List Nat :=
  let row := verticalPass tables v cropW cropH line pixel
  (List.range outW).map fun k => reduceDepth v.depth line k (resample tables v.filterH v.stepH cropW k fun c => row.getD c 0)

end Sys2Proof.Machine
end

