-- ==== Sys2Proof/Machine/Pipeline.lean ====
section
/-! DEFINITION. The View Pipelines (R146 to R154): taking an item, its packets, its end. A pipeline offers one
packet at a time to its image queue (R151, R157, log entry 11). -/

namespace Sys2Proof.Machine

/-- The room of an image queue, in bytes (R157). -/
def imageQueueBytes : Nat := 65536

/-- A packet fits a port's image queue (R157). -/
def Hub.imageFits (h : Hub) (p : Port) (pkt : Packet) : Bool :=
  decide (occupancy (vget h.trunk.images p) + packetSize pkt ≤ imageQueueBytes)

/-- A packet taken whole at the tail of a port's image queue (R157). -/
def Hub.placeImage (h : Hub) (p : Port) (pkt : Packet) : Hub :=
  h.modTrunk fun t => { t with images := vmod t.images p (· ++ [pkt]) }

/-- A record checked for release, in the hub (R133). -/
def Hub.checkRelease (h : Hub) (p : Port) (serial : Nat) : Hub := h.modFrames p fun f => f.checkRelease serial

/-- An item's end at its record (R132): SENT, a resend item also removing the first pending resend, with a flag
where the output was ended (R153, R154). -/
def FrameRecord.outputEnded (r : FrameRecord) (item : WorkItem) (flag : BitVec 32) : FrameRecord :=
  { r with
    state := .sent
    resends := if item.resend.isSome then r.resends.drop 1 else r.resends
    flags := r.flags ||| flag }

/-- The head item ends (R151, R154): its record is SENT, the item leaves the work list, the record is checked
for release, and the pipeline is IDLE. -/
def Hub.endItem (h : Hub) (p : Port) (flag : BitVec 32) : Hub :=
  match (h.pl p).work with
  | [] => h.modPipe p fun q => { q with phase := .idle, plan := none }
  | item :: rest =>
    ((h.modRecord p item.serial fun r => r.outputEnded item flag).modPipe p fun q =>
      { q with phase := .idle, work := rest, plan := none }).checkRelease p item.serial

/-- The view an item is processed through (R147). -/
def itemView (item : WorkItem) (r : FrameRecord) : Fin 16 := item.resend.getD (r.view.getD 0)

/-- The output plan of an item (R147). A crop wholly outside the frame has no size: the manual states no value
for the fields of its FRAME_OPEN, which are free (log entry 15). -/
def Hub.planFor (h : Hub) (view : Fin 16) (r : FrameRecord) : OutputPlan :=
  let v := vget h.view.views view
  if r.width ≤ v.x0 ∨ r.height ≤ v.y0 then
    { view := view, x0 := v.x0, y0 := v.y0, empty := true, opened := false, nextLine := 0
      cropW := (Config.emptyCropField (4 * h.freeCount)).toNat
      cropH := (Config.emptyCropField (4 * h.freeCount + 1)).toNat
      outW := (Config.emptyCropField (4 * h.freeCount + 2)).toNat
      outH := (Config.emptyCropField (4 * h.freeCount + 3)).toNat }
  else
    let w := Nat.min v.w (r.width - v.x0)
    let ht := Nat.min v.h (r.height - v.y0)
    { view := view, x0 := v.x0, y0 := v.y0, empty := false, opened := false, nextLine := 0
      cropW := w, cropH := ht, outW := outSize w v.stepH, outH := outSize ht v.stepV }

/-- An IDLE pipeline takes its head item (R147). -/
def Hub.beginItem (h : Hub) (p : Port) (item : WorkItem) (r : FrameRecord) : Hub :=
  let plan := h.planFor (itemView item r) r
  let h := h.modRecord p item.serial fun r =>
    { r with state := .sending, flags := r.flags ||| (if plan.empty then flagCropEmpty else 0) }
  let h := h.modPipe p fun q => { q with phase := .running, plan := some plan }
  if plan.empty then { h with freeCount := h.freeCount + 1 } else h

/-- The packets of an item (R151). -/
inductive Emission where
  | frameOpen
  | imageLine (n : Nat)
  | frameClose
  deriving DecidableEq, Repr

/-- The output lines of a plan: none where the crop is empty (R147). -/
def OutputPlan.lines (q : OutputPlan) : Nat := if q.empty then 0 else q.outH

/-- The packet a plan comes to next (R151). -/
def OutputPlan.next (q : OutputPlan) : Emission :=
  if ¬ q.opened then .frameOpen else if q.nextLine < q.lines then .imageLine q.nextLine else .frameClose

/-- The frame flags an item's packets carry: RESEND on those of a resend item (R151). -/
def emittedFlags (item : WorkItem) (r : FrameRecord) : BitVec 32 :=
  r.flags ||| (if item.resend.isSome then flagResend else 0)

/-- An image packet's header (Table 11-1). -/
def imagePacket (kind : Byte) (p : Port) (item : WorkItem) (payload : List Byte) : Packet :=
  { kind := kind, port := BitVec.ofNat 8 p.val, tag := 0, flags := if item.resend.isSome then 1 else 0
    payload := payload }

/-- FRAME_OPEN (Table 11-3). -/
def openPayload (v : View) (plan : OutputPlan) (item : WorkItem) (r : FrameRecord) : List Byte :=
  u16 r.number ++ u8 r.triggerId ++
    optional 8 (fun t : FiredAt => w32 t.encoder ++ w32 t.time) r.trigger ++
    w32 r.arrival ++ u16 r.width ++ u16 r.height ++ u16 r.concealed ++ w32 (emittedFlags item r) ++
    u8 plan.view.val ++ depthCode v.depth ++ u16 plan.x0 ++ u16 plan.y0 ++ u16 plan.cropW ++ u16 plan.cropH ++
    u16 plan.outW ++ u16 plan.outH

/-- IMAGE_LINE (Table 11-3), queued at a hub time. -/
def linePayload (v : View) (plan : OutputPlan) (item : WorkItem) (r : FrameRecord) (n : Nat) (queued : HubTime)
    (pixels : List Nat) : List Byte :=
  u16 r.number ++ u16 n ++ u16 plan.outW ++ u16 plan.outH ++ depthCode v.depth ++ u8 plan.view.val ++ u16 0 ++
    w32 (emittedFlags item r) ++ w32 r.arrival ++ w32 queued ++ pixels.flatMap (pixelBytes v.depth)

/-- FRAME_CLOSE (Table 11-3). -/
def closePayload (plan : OutputPlan) (item : WorkItem) (r : FrameRecord) : List Byte :=
  u16 r.number ++ w32 (emittedFlags item r) ++ u16 r.concealed ++ u16 plan.lines

/-- The pixel of a frame at a column and line of the plan's crop, from frame memory (section 8.4.1). -/
def PortFrames.cropPixel (f : PortFrames) (r : FrameRecord) (plan : OutputPlan) (m : Memory) (c n : Nat) : Nat :=
  readPixel m (f.base r + ((plan.y0 + n) * r.width + (plan.x0 + c)) * 2)

/-- The packet a pipeline offers (R151). -/
def Hub.emission (h : Hub) (m : Memory) (p : Port) (plan : OutputPlan) (item : WorkItem) (r : FrameRecord) : Packet :=
  let v := vget h.view.views plan.view
  match plan.next with
  | .frameOpen => imagePacket kindFrameOpen p item (openPayload v plan item r)
  | .imageLine n =>
    imagePacket kindImageLine p item
      (linePayload v plan item r n h.time
        (outputLine h.view.coefs v plan.cropW plan.cropH plan.outW n ((h.fr p).cropPixel r plan m)))
  | .frameClose => imagePacket kindFrameClose p item (closePayload plan item r)

/-- Change the plan of a pipeline that is RUNNING again (R151). -/
def Hub.planTaken (h : Hub) (p : Port) (f : OutputPlan → OutputPlan) : Hub :=
  h.modPipe p fun q => { q with phase := .running, plan := q.plan.map f }

/-- The image queue takes the FRAME_CLOSE of a record: what a loss of the trunk at the same time finds (R164, log
entry 36). -/
def Hub.closeTaken (h : Hub) (p : Port) (serial : Nat) : Hub :=
  h.modPipe p fun q => { q with closed := q.closed ++ [serial] }

/-- A pipeline's own progress in one event. IDLE, it takes the head item and offers its FRAME_OPEN (R147), or ends
it at once while the trunk is DOWN (R154), with TRUNK_LOST alone: its view is not read, and CROP_EMPTY is not set
(DESIGN CHOICE, log entry 30). With an item in process, it offers its packet (R151): a packet that
does not fit leaves it WAITING; a FRAME_OPEN of an empty crop is followed at once by its FRAME_CLOSE; a FRAME_CLOSE
that is taken ends the item and the next head is taken at once. The fuel bounds the items that can end. -/
def Hub.pipeRun (m : Memory) (p : Port) : Nat → Hub → Hub
  | 0, h => h
  | n + 1, h =>
    match (h.pl p).work with
    | [] => h
    | item :: _ =>
      match (h.fr p).record item.serial with
      | none => Hub.pipeRun m p n (h.endItem p 0)
      | some r =>
        if (h.pl p).phase = .idle then
          if h.trunk.up then Hub.pipeRun m p n (h.beginItem p item r)
          else Hub.pipeRun m p n (h.endItem p flagTrunkLost)
        else
          match (h.pl p).plan with
          | none => h
          | some plan =>
            let pkt := h.emission m p plan item r
            if h.imageFits p pkt then
              let taken := h.placeImage p pkt
              match plan.next with
              | .frameOpen =>
                let opened := taken.planTaken p fun q => { q with opened := true }
                if plan.empty then Hub.pipeRun m p n opened else opened
              | .imageLine k => taken.planTaken p fun q => { q with nextLine := k + 1 }
              | .frameClose => Hub.pipeRun m p n ((taken.closeTaken p item.serial).endItem p 0)
            else h.modPipe p fun q => { q with phase := .waiting }

/-- Fuel that lets every item of a work list begin, open and close. -/
def Hub.pipeFuel (h : Hub) (p : Port) : Nat := 3 * (h.pl p).work.length + 1

/-- The pipeline acts: with an item in process it offers its packet, else it takes the next item. -/
def Hub.pipeAct (h : Hub) (m : Memory) (p : Port) : Hub := Hub.pipeRun m p (h.pipeFuel p) h

/-- An IDLE pipeline takes its head item, if any (R147); one with an item in process is left alone. -/
def Hub.pipeWake (h : Hub) (m : Memory) (p : Port) : Hub :=
  if (h.pl p).phase = .idle then h.pipeAct m p else h

/-- The FRAME_CLOSE packets of a port that have not left: those in its image queue and the one being sent. -/
def Hub.heldCloses (h : Hub) (p : Port) : Nat :=
  let sending := match h.trunk.lane with
    | some (q, pkt) => if q.val = p.val then [pkt] else []
    | none => []
  ((vget h.trunk.images p ++ sending).filter fun pkt => pkt.kind = kindFrameClose).length

/-- The records whose FRAME_CLOSE the image queue took at the present hub time and still holds, or whose send it has
begun. Packets leave in the order they were taken (R159), so these are the last of the port's FRAME_CLOSEs. -/
def Hub.closesAtLoss (h : Hub) (p : Port) : List Nat :=
  (h.pl p).closed.drop ((h.pl p).closed.length - h.heldCloses p)

/-- A loss of the trunk that comes at the same time as FRAME_CLOSEs that the image queue took first: their frames end SENT
with TRUNK_LOST too (R164; which packets come at the same time as the loss, log entry 36). -/
def Hub.closesLost (h : Hub) (p : Port) : Hub :=
  (h.modFrames p fun f =>
    { f with
      table := f.table.map fun r =>
        if r.serial ∈ h.closesAtLoss p then { r with flags := r.flags ||| flagTrunkLost } else r }).modPipe p fun q =>
    { q with closed := [] }

/-- The trunk's loss at one pipeline (R154): the item in process ends with TRUNK_LOST, and the work list drains. -/
def Hub.pipeTrunkLost (h : Hub) (m : Memory) (p : Port) : Hub :=
  let h' := if (h.pl p).phase = .idle then h else h.endItem p flagTrunkLost
  h'.pipeWake m p

end Sys2Proof.Machine
end

