-- ==== Sys2Proof/Machine/Egress.lean ====
section
/-! DEFINITION. The Trunk Interface: the Egress Arbiter, the upstream lane, loss and return of the trunk
(R155 to R165), the taking state (R169), and the end of every event. -/

namespace Sys2Proof.Machine

/-- The reply queue's place among the nine queues (R155). -/
def replyQueue : QueueNo := 8

/-- All nine queues in ring order (R155). -/
def allQueues : List QueueNo := [0, 1, 2, 3, 4, 5, 6, 7, 8]

/-- The packets a queue holds. -/
def Hub.queuePackets (h : Hub) (q : QueueNo) : List Packet :=
  match asFin 8 q.val with
  | some p => vget h.trunk.images p
  | none => h.trunk.replies

/-- A queue waits when it holds at least one packet (R160). -/
def Hub.waits (h : Hub) (q : QueueNo) : Bool := !(h.queuePackets q).isEmpty

/-- A queue's group as a decision reads it (R160). -/
def Hub.groupOf (h : Hub) (q : QueueNo) : Group :=
  match asFin 8 q.val with
  | none => h.trunk.replyGroup
  | some p =>
    match (vget h.view.bindings p).view with
    | some v => (vget h.view.views v).group
    | none => .low

/-- A queue's burst (R162). -/
def Hub.burstOf (h : Hub) (q : QueueNo) : Nat :=
  match asFin 8 q.val with
  | some p => vget h.trunk.bursts p
  | none => h.trunk.replyBurst

/-- The queues in ring order after the last granted one (R161). -/
def ringOrder : Option QueueNo → List QueueNo
  | none => allQueues
  | some q => allQueues.rotateLeft (q.val + 1)

/-- The first waiting queue of a group after the group's last granted queue (R161). -/
def Hub.pickQueue (h : Hub) (g : Group) : Option QueueNo :=
  (ringOrder (match g with | .high => h.trunk.lastHigh | .low => h.trunk.lastLow)).find? fun q =>
    h.waits q && h.groupOf q = g

/-- A queue of the group waits (R160). -/
def Hub.groupWaits (h : Hub) (g : Group) : Bool := allQueues.any fun q => h.waits q && h.groupOf q = g

/-- The group a decision chooses and the high run after it (R160). -/
def chooseGroup (highWaits lowWaits : Bool) (run share : Nat) : Group × Nat :=
  if highWaits then
    if lowWaits then (if run < share then (.high, run + 1) else (.low, 0)) else (.high, 0)
  else (.low, 0)

/-- A grant made (R160 to R162). -/
def Hub.grantDecision (h : Hub) : Hub :=
  let chosen := chooseGroup (h.groupWaits .high) (h.groupWaits .low) h.trunk.highRun h.trunk.lowShare
  match h.pickQueue chosen.1 with
  | none => h
  | some q =>
    h.modTrunk fun t =>
      { t with
        highRun := chosen.2
        lastHigh := if chosen.1 = .high then some q else t.lastHigh
        lastLow := if chosen.1 = .low then some q else t.lastLow
        grant := some { queue := q, burst := h.burstOf q, sent := 0 } }

/-- The head packet of a queue taken out (R159). -/
def Trunk.dropHead (t : Trunk) (q : QueueNo) : Trunk :=
  match asFin 8 q.val with
  | some p => { t with images := vmod t.images p List.tail }
  | none => { t with replies := t.replies.tail }

/-- The send of the granted queue's head packet begins (R159); a pipeline packet that waits for the room it frees
is taken in the event (R157). -/
def Hub.beginSend (h : Hub) (m : Memory) : Hub :=
  match h.trunk.grant with
  | none => h
  | some g =>
    match h.queuePackets g.queue with
    | [] => h
    | pkt :: _ =>
      let h := h.modTrunk fun t =>
        { t.dropHead g.queue with
          lane := some (g.queue, pkt)
          grant := some { g with sent := g.sent + 1 }
          sent := vmod t.sent g.queue (· + 1) }
      match asFin 8 g.queue.val with
      | some p => if (h.pl p).phase = .waiting then h.pipeAct m p else h
      | none => h

/-- The arbiter decides when the trunk is UP, no grant is in progress, the lane is free and a queue waits
(R160), and the send begins. -/
def Hub.arbitrate (h : Hub) (m : Memory) : Hub :=
  if h.trunk.up && h.trunk.grant.isNone && h.trunk.lane.isNone && allQueues.any h.waits then
    h.grantDecision.beginSend m
  else h

/-- The taking state after an event (R169, R176). -/
def Hub.updateTaking (h : Hub) : Hub :=
  h.modMgmt fun m =>
    { m with
      taking :=
        if m.taking = .resetting then .resetting
        else if h.trunk.up && decide (32 ≤ h.trunk.replies.length) then .held else .ready }

/-- The end of every event: the arbiter decides if it can (log entry 10), and the taking state follows (R169). -/
def Hub.settle (h : Hub) (m : Memory) : Hub := (h.arbitrate m).updateTaking

/-- An event that changes the hub alone, with the end of the event. -/
def State.event (s : State) (f : Hub → Hub) : State := { s with hub := (f s.hub).settle s.dram }

/-- A cold reset (R2 and every chapter): every item at its cold-reset value; the input pins keep their levels, from
which the line levels are taken (R107, log entry 7), and frame memory is not cleared (R122). -/
def Hub.coldReset (h : Hub) : Hub :=
  { encoder := { a := h.encoder.a, b := h.encoder.b }
    lines := h.lines.map fun l => { input := l.input, level := l.input }
    freeCount := h.freeCount }

/-- A reply reported as having left or as gone (R176): while RESETTING, that of PART_RESET resets the hub. -/
def Hub.replyGone (h : Hub) (pkt : Packet) : Hub :=
  if h.mgmt.taking = .resetting && isResetReply pkt then h.coldReset else h

/-- The send under way ends (R159, R162, R176): the grant continues with the next packet, or ends. -/
def Hub.sendEnd (h : Hub) (m : Memory) : Hub :=
  match h.trunk.lane with
  | none => h
  | some (q, pkt) =>
    let h := h.modTrunk fun t => { t with lane := none }
    if h.mgmt.taking = .resetting && decide (q = replyQueue) && isResetReply pkt then h.coldReset
    else
      match h.trunk.grant with
      | none => h
      | some g =>
        if g.burst ≤ g.sent || !h.waits g.queue then h.modTrunk fun t => { t with grant := none }
        else h.beginSend m

/-- The packets held in the nine queues. -/
def Trunk.heldPackets (t : Trunk) : Nat := (allPorts.map fun p => (vget t.images p).length).sum + t.replies.length

/-- Steps 1 to 3 of the loss of the trunk (R164). -/
def Trunk.lose (t : Trunk) : Trunk :=
  { t with
    up := false
    losses := t.losses + 1
    lane := none
    grant := none
    highRun := 0
    discarded := t.discarded + BitVec.ofNat 32 t.heldPackets
    images := Vector.replicate 8 []
    replies := [] }

/-- The reply packets that a loss of the trunk makes gone: those queued and the one cut off (R164). -/
def Trunk.lostReplies (t : Trunk) : List Packet :=
  (match t.lane with | some (_, pkt) => [pkt] | none => []) ++ t.replies

/-- The trunk is lost (R164). The frames whose last packet the queues took at the same time are flagged with those of the
items that end. The replies that answered slots keep are offered as the queue is emptied, and are discarded (R171). -/
def Hub.trunkLost (h : Hub) (m : Memory) : Hub :=
  let gone := h.trunk.lostReplies
  let resets := h.mgmt.taking = .resetting && gone.any isResetReply
  let h := allPorts.foldl Hub.closesLost h
  let h := (h.modTrunk Trunk.lose).offerDue
  let h := allPorts.foldl (fun h p => h.pipeTrunkLost m p) h
  if resets then h.coldReset else h

/-- The trunk enters UP (R156, R165): TRUNK is set; pipelines take their next items. -/
def Hub.trunkReturns (h : Hub) (m : Memory) : Hub :=
  let h := (h.modTrunk fun t => { t with up := true }).flagPart fTrunk
  allPorts.foldl (fun h p => h.pipeWake m p) h

end Sys2Proof.Machine
end

