-- ==== Sys2Proof/Machine/Link.lean ====
section
/-! DEFINITION. The Link Controller's operations: training, drops, error windows, and the completion of commands
(R16 to R31). -/

namespace Sys2Proof.Machine

/-- A command completes to its originator: a pass-through slot or a lens axis (R22, R29, R30). -/
def Hub.completeCommand (h : Hub) (p : Port) (c : Command) (how : Completion) : Hub :=
  match c with
  | .attrRead slot attr _ _ | .attrWrite slot attr _ _ =>
    match how with
    | .delivered => h
    | .noAck => h.completeSlot slot p attr .noAck
    | .linkDown => h.completeSlot slot p attr .linkDown
  | .lensMove x _ | .lensHome x | .lensStop x => h.completeLens p x how

/-- The head command leaves the queue (R28): the sequence bit is inverted and nothing is in flight. -/
def LinkCtl.finishHead (l : LinkCtl) : LinkCtl :=
  { l with
    queue := l.queue.tail, sequence := !l.sequence, sendCount := 0, ackWait := none, waitEnded := false }

/-- One link error in the current window (R24), which may degrade the link (R25). -/
def Hub.linkError (h : Hub) (p : Port) : Hub :=
  let h := h.modLink p fun l => { l with windowErrors := Nat.min 65535 (l.windowErrors + 1) }
  if (h.lk p).state = .up && decide ((h.lk p).degradeAt ≤ (h.lk p).windowErrors) then
    ((h.modLink p fun l => { l with state := .degraded }).flag p fDegrade).degradeFilling p
  else h

/-- The command in flight: the head while its send count is above 0 (R27, R28). -/
def LinkCtl.inFlight (l : LinkCtl) : Option Command := if 0 < l.sendCount then l.queue.head? else none

/-- An ACK taken while the link is established (R29). A command whose wait has ended behind a trigger (R31) is still in
flight until the trigger ends: an ACK with its sequence completes it, and the resend or NO_ACK that was due does not
come (DESIGN CHOICE, log entry 27). -/
def Hub.ackTaken (h : Hub) (p : Port) (sequence : Bool) : Hub :=
  let l := h.lk p
  match l.inFlight with
  | some c =>
    if sequence = l.sequence then
      ((h.modLink p LinkCtl.finishHead).completeCommand p c .delivered).modLink p LinkCtl.pump
    else h.modLink p fun l => { l with strayAcks := l.strayAcks + 1 }
  | none => h.modLink p fun l => { l with strayAcks := l.strayAcks + 1 }

/-- The end of the acknowledgement wait acts on the send count (R30): a resend, or NO_ACK after three sends. A failure
reaches the originator first, with all that follows there, then the error window (DESIGN CHOICE, log entry 38), and the next
head is sent last: a DEFERRED trigger that the failure releases goes onto the channel ahead of it (DESIGN CHOICE, log entry
39). -/
def Hub.waitOver (h : Hub) (p : Port) : Hub :=
  let l := h.lk p
  match l.inFlight with
  | none => h
  | some c =>
    if l.sendCount < 3 then h.modLink p fun l => { l.sendHead true with resends := l.resends + 1 }
    else
      (((h.modLink p fun l => { l.finishHead with noAcks := l.noAcks + 1 }).completeCommand p c .noAck).linkError
        p).modLink p LinkCtl.pump

/-- A message boundary (R28, R31): a pending trigger is sent, ahead of a resend that waited and of a new command. A
command that fails at the boundary sends nothing: it fails there also where a trigger is sent, which goes onto the
channel first (log entry 17). -/
def Hub.boundary (h : Hub) (p : Port) : Hub :=
  let l := h.lk p
  if l.channel ≠ .idle then h
  else if l.waitEnded && l.pendingTrigger.isNone then h.waitOver p
  else if l.waitEnded && decide (3 ≤ l.sendCount) then (h.modLink p LinkCtl.pump).waitOver p
  else h.modLink p LinkCtl.pump

/-- A downstream message ends (R28, R31): a command still in flight begins its acknowledgement wait. -/
def Hub.messageSent (h : Hub) (p : Port) : Hub :=
  match (h.lk p).channel with
  | .command _ =>
    (h.modLink p fun l =>
      { l with channel := .idle, ackWait := if 0 < l.sendCount then some h.time else none }).boundary p
  | .trigger _ => (h.modLink p fun l => { l with channel := .idle }).boundary p
  | _ => h

/-- A list kept to its last n items by removing the oldest before one is appended (R22, R48). -/
def appendBounded {α : Type} (n : Nat) (l : List α) (x : α) : List α :=
  (if n ≤ l.length then l.drop (l.length + 1 - n) else l) ++ [x]

/-- The drop record of a port as it stands (Table 2-2). -/
def Hub.dropRecord (h : Hub) (p : Port) (cause : DropCause) : DropRecord :=
  { time := h.time
    degraded := decide ((h.lk p).state = .degraded)
    cause := cause
    windowErrors := (h.lk p).windowErrors
    frame := (h.fr p).filling.map (·.number)
    encoder := h.encoder.counter }

/-- Steps 1 to 7 of a drop (R22); `enter` gives the link its new state. Step 7 reaches the units in the order in which
it names them, so that a DEFERRED trigger of a port with an axis in motion is lost by the lens report and not by the
drop, one of the two orders that R116 allows (DESIGN CHOICE, log entry 34). -/
def Hub.drop (h : Hub) (p : Port) (cause : DropCause) (enter : LinkCtl → LinkCtl) : Hub :=
  let flushed := (h.lk p).queue
  let h := h.modLink p fun l =>
    { l with
      history := appendBounded 16 l.history (h.dropRecord p cause)
      drops := l.drops + 1
      testCount := 0
      pendingTrigger := none
      queue := []
      sendCount := 0
      ackWait := none
      waitEnded := false }
  let h := flushed.foldl (fun h c => h.completeCommand p c .linkDown) h
  let h := (h.modLink p fun l => enter { l with context := none }).flag p fLink
  (((h.dropLens p).dropTrigger p).dropFrame p).dropSlots p

/-- The link enters TRAINING with attempt 1 (R17, R21). -/
def LinkCtl.train (now : HubTime) (l : LinkCtl) : LinkCtl :=
  { l with state := .training, attempt := 1, attemptStart := now, channel := .training trainingBytes }

/-- The link enters DOWN with note POWER_LOST (R20). -/
def LinkCtl.powerLost (l : LinkCtl) : LinkCtl :=
  { l with state := .down, note := .powerLost, channel := .idle }

/-- The power state becomes ON (R17): from DOWN, training begins. -/
def Hub.beginTraining (h : Hub) (p : Port) : Hub :=
  if (h.lk p).state = .down then (h.modLink p (LinkCtl.train h.time)).flag p fLink else h

/-- The power state leaves ON, at the Link Controller (R20). -/
def Hub.linkPowerLost (h : Hub) (p : Port) : Hub :=
  match (h.lk p).state with
  | .up | .degraded => h.drop p .powerLost LinkCtl.powerLost
  | .training => (h.modLink p LinkCtl.powerLost).flag p fLink
  | .down => h

/-- A lock reply while TRAINING (R18). -/
def Hub.lockReply (h : Hub) (p : Port) : Hub :=
  (h.modLink p fun l =>
    { l with
      state := .up, channel := .idle, windowStart := h.time, windowErrors := 0, sequence := false
      sendCount := 0, note := .none }).flag p fLink

/-- The end of an error window (R24, R25). -/
def Hub.windowEnd (h : Hub) (p : Port) : Hub :=
  let l := h.lk p
  let h := h.modLink p fun l => { l with windowErrors := 0, windowStart := after l.windowStart 100000 }
  if l.state = .degraded && l.windowErrors = 0 then
    (h.modLink p fun l => { l with state := .up }).flag p fDegrade
  else h

/-- The LOSS_OF_LOCK drops of the trailing 10 s (R23). -/
def LinkCtl.recentLosses (l : LinkCtl) (now : HubTime) : Nat :=
  (l.history.filter fun r => r.cause = .lossOfLock && decide (elapsed now r.time < 10000000)).length

end Sys2Proof.Machine
end

