-- ==== Sys2Proof/Machine/Power.lean ====
section
/-! DEFINITION. The Power Controller's operations: entering DETECTING, turning a port off for any cause, sheds,
isolation and COOLDOWN retries (R9, R38 to R58). -/

namespace Sys2Proof.Machine

/-- The departure from ON reaches the Link Controller and the Lens Controller (R50). The drop that it causes reaches the
Lens Controller before the departure itself, one of the two orders that R98 allows (DESIGN CHOICE, log entry 29). -/
def Hub.leftOn (h : Hub) (p : Port) : Hub := (h.linkPowerLost p).lensPowerLost p

/-- A port turned OFF with a cause (R9, R41, R51, R54, R55): power removed, grant and allowance released, POWER
set with any part flag of the event; a departure from ON has its consequences (R50). -/
def Hub.turnOff (h : Hub) (p : Port) (cause : OffCause) (part : BitVec 16) : Hub :=
  let wasOn := (h.pw p).state = .on
  let h := (h.modPower p fun q =>
    { q with state := .off, cause := cause, allowanceHeld := false, postponed := false }).raise p fPower part
  if wasOn then h.leftOn p else h

/-- The port enters DETECTING (R44, R45, R51, R52): the grant is counted from here on. -/
def Hub.enterDetecting (h : Hub) (p : Port) : Hub :=
  (h.modPower p fun q =>
    { q with state := .detecting, cause := .none, phaseEnd := after h.time 20000, postponed := false }).flag p fPower

/-- The grant of a port fits the budget beside what is granted (R39). -/
def Hub.grantFits (h : Hub) (p : Port) : Bool := h.grantedTotal + (h.pw p).grant ≤ h.cell.budget

/-- A rise of effective isolation at the Power Controller (R9). A port that a cooldown's end has just turned OFF with cause
NO_BUDGET is OFF, and keeps that cause (R9; of R12's words on the two together, DESIGN CHOICE, log entry 37). -/
def Hub.isolationRise (h : Hub) (p : Port) : Hub :=
  match (h.pw p).state with
  | .detecting | .ramping | .on | .cooldown => h.turnOff p .isolate 0
  | .off | .locked => h

/-- A COOLDOWN retry (R51 steps 2 to 4, R52). -/
def Hub.retry (h : Hub) (p : Port) : Hub :=
  if h.effectiveIso p then h.turnOff p .isolate 0
  else if h.grantFits p then h.enterDetecting p
  else h.turnOff p .noBudget 0

/-- The end of a COOLDOWN (R51): postponed while a sweep is QUEUED or RUNNING. -/
def Hub.cooldownOver (h : Hub) (p : Port) : Hub :=
  if (h.cb p).sweepStatus ≠ .idle then h.modPower p fun q => { q with postponed := true } else h.retry p

/-- The report that a sweep has ended (R52): it resumes a postponed retry. -/
def Hub.sweepReported (h : Hub) (p : Port) : Hub :=
  if (h.pw p).state = .cooldown && (h.pw p).postponed then
    (h.modPower p fun q => { q with postponed := false }).retry p
  else h

/-- The port a shed chooses (R41): the lowest priority, the higher number among equals. -/
def Hub.shedCandidate (h : Hub) : Option Port :=
  allPorts.foldl
    (fun best p =>
      if (h.pw p).powered then
        match best with
        | none => some p
        | some b => if (h.pw p).priority ≤ (h.pw b).priority then some p else best
      else best)
    none

/-- Ports shed with cause SHED until the granted total fits the budget (R40), at most n of them; the ports in the
order they were shed. -/
def Hub.shedToFit : Nat → Hub → Hub × List Port
  | 0, h => (h, [])
  | n + 1, h =>
    if h.cell.budget < h.grantedTotal then
      match h.shedCandidate with
      | none => (h, [])
      | some p =>
        let others := Hub.shedToFit n (h.turnOff p .shed fShed)
        (others.1, p :: others.2)
    else (h, [])

/-- An undervoltage shed (R58): one port, if any is powered. -/
def Hub.shedUndervolt (h : Hub) (entry : Bool) : Hub :=
  match h.shedCandidate with
  | some p => h.turnOff p .undervolt fUndervolt
  | none => if entry then h.flagPart fUndervolt else h

/-- A supply sample at the monitor (R57, R58). -/
def Hub.supplySample (h : Hub) (mv : Nat) : Hub :=
  let h := h.modCell fun c => { c with supplySample := mv }
  let low := decide (mv < 20000)
  match h.cell.monitor with
  | .normal => if low then h.modCell fun c => { c with monitor := .low, lowSince := h.time } else h
  | .low =>
    if ¬ low then h.modCell fun c => { c with monitor := .normal }
    else if passed h.time h.cell.lowSince 2000 then
      (h.modCell fun c => { c with monitor := .sag, nextShed := after h.time 5000 }).shedUndervolt true
    else h
  | .sag =>
    if ¬ low then h.modCell fun c => { c with monitor := .normal }
    else if reached h.time h.cell.nextShed 5000 then
      (h.modCell fun c => { c with nextShed := after c.nextShed 5000 }).shedUndervolt false
    else h

/-- A power-down request with cause SWEEP (R55). -/
def Hub.powerDown (h : Hub) (p : Port) : Hub := if (h.pw p).powered then h.turnOff p .sweep 0 else h

/-- POWER_OFF's effect (R54). -/
def Hub.powerOff (h : Hub) (p : Port) : Hub :=
  match (h.pw p).state with
  | .off => h.modPower p fun q => { q with cause := .requested }
  | .locked => (h.modPower p fun q => { q with trips := [] }).turnOff p .requested 0
  | _ => h.turnOff p .requested 0

end Sys2Proof.Machine
end

