-- ==== Sys2Proof/Machine/Cable.lean ====
section
/-! DEFINITION. The Cable Test Unit's operations: the sweep queue and the engines, shots, the evaluation of repeats,
completion, the fault list and automatic requests (R60 to R82). -/

namespace Sys2Proof.Machine

/-! ## Taking entries (R65 to R68) -/

/-- Change one engine. -/
def Hub.setEngine (h : Hub) (e : EngineNo) (x : Option SweepContext) : Hub :=
  h.modCables fun c => { c with engines := vset c.engines e x }

/-- The engine of a number. -/
def Hub.engine (h : Hub) (e : EngineNo) : Option SweepContext := vget h.cables.engines e

/-- The first pair a sweep tests (R68). -/
def firstPair : PairSel → Pair
  | .data | .both => .data
  | .power => .power

/-- The context an engine builds from an entry, the port's settings and the cable table, as held now (R68). -/
def Hub.sweepContext (h : Hub) (q : SweepEntry) : SweepContext :=
  let c := h.cb q.port
  let t := vget h.cables.types c.type
  { port := q.port, origin := q.origin, params := q.params
    speed := t.speed, polarity := t.polarity, threshold := t.threshold
    length := c.length, tolerance := c.tolerance, offset := c.offset
    phase := .settling, phaseStart := h.time, pair := firstPair q.params.pair
    repeatNo := 0, shotNo := 0, posHits := 0, negHits := 0, posSum := 0, negSum := 0
    dataResult := {}, powerResult := {}, cancelling := false }

/-- An engine, if IDLE, takes the head of the queue, if any (R68). -/
def Hub.engineTakes (h : Hub) (e : EngineNo) : Hub :=
  match h.engine e, h.cables.queue with
  | none, q :: rest =>
    ((h.modCables fun c => { c with queue := rest }).setEngine e (some (h.sweepContext q))).modCable q.port fun c =>
      { c with sweepStatus := .running }
  | _, _ => h

/-- The engine arbiter (R68): E0 first. -/
def Hub.offerEngines (h : Hub) : Hub := (h.engineTakes 0).engineTakes 1

/-- An entry joins the tail of the queue, and an idle engine may take one (R66 to R68). -/
def Hub.enqueueSweep (h : Hub) (p : Port) (params : SweepParams) (origin : SweepOrigin) : Hub :=
  ((h.modCables fun c => { c with queue := c.queue ++ [⟨p, params, origin⟩] }).modCable p fun c =>
    { c with sweepStatus := .queued }).offerEngines

/-- An automatic request (R67): discarded while a sweep is QUEUED or RUNNING; else queued, a powered port being
powered down first. -/
def Hub.autoSweep (h : Hub) (p : Port) (origin : SweepOrigin) : Hub :=
  if (h.cb p).sweepStatus ≠ .idle then h.modCable p fun c => { c with discards := c.discards + 1 }
  else
    let h := h.powerDown p
    h.enqueueSweep p (h.cb p).auto origin

/-! ## One shot (R70) -/

/-- The pulse width in ticks (Table 4-4). -/
def SweepParams.pulse (q : SweepParams) : Nat := (1 + q.width) * 2 ^ q.scale

/-- The shots of a repeat (Table 4-3). -/
def SweepParams.shots (q : SweepParams) : Nat := 2 ^ q.k

/-- The first crossing of either threshold from a tick to tick 1,023 (R70), the voltage having stood at `level`
before: beyond the threshold is a crossing (log entry 14). -/
def firstCrossing (threshold fromTick : Nat) (level : Int) : List (Nat × Int) → Option (Polarity × Nat)
  | [] => none
  | (t, v) :: rest =>
    let th : Int := threshold
    if decide (fromTick ≤ t) && decide (t ≤ 1023) && decide (th < v) && decide (level ≤ th) then some (.pos, t)
    else if decide (fromTick ≤ t) && decide (t ≤ 1023) && decide (v < -th) && decide (-th ≤ level) then some (.neg, t)
    else firstCrossing threshold fromTick v rest

/-- The echo of a shot: crossings within the blanking interval are ignored (R70). -/
def SweepContext.echo (c : SweepContext) (trace : List (Nat × Int)) : Option (Polarity × Nat) :=
  firstCrossing c.threshold (c.params.pulse + 4) 0 trace

/-- An echo added to the repeat's shot outcomes (R70). -/
def SweepContext.addEcho (c : SweepContext) : Option (Polarity × Nat) → SweepContext
  | none => c
  | some (.pos, t) => { c with posHits := c.posHits + 1, posSum := c.posSum + t }
  | some (.neg, t) => { c with negHits := c.negHits + 1, negSum := c.negSum + t }

/-! ## One repeat (R71 to R74) -/

/-- The average echo time, in 1/16 tick (R71). -/
def averageQ4 (sum hits : Nat) : Nat := sum * 16 / hits

/-- The distance in mm (R72). -/
def distanceMm (avg offset speed : Nat) : Nat := if avg ≤ offset then 0 else (avg - offset) * speed * 5 / 64

/-- The class of a valid echo (R73). -/
def classify (d length tolerance : Nat) (won : Polarity) (expected : Option Polarity) : RepeatClass :=
  if d + tolerance < length then (match won with | .pos => .breakOpen | .neg => .breakShort)
  else if length + tolerance < d then .beyond
  else if some won = expected then .atEnd
  else .endMismatch

/-- The winning polarity: the one with more hits, NEG on a tie (R71). -/
def winner (pos neg : Nat) : Polarity := if neg < pos then .pos else .neg

/-- A finished repeat reduced to its class and detail (R71 to R73). -/
def SweepContext.evaluate (c : SweepContext) : RepeatClass × RepeatDetail :=
  let won := winner c.posHits c.negHits
  let hits := match won with | .pos => c.posHits | .neg => c.negHits
  let sum := match won with | .pos => c.posSum | .neg => c.negSum
  if ceilDiv c.params.shots 2 ≤ hits then
    let avg := averageQ4 sum hits
    let d := distanceMm avg c.offset c.speed
    (classify d c.length c.tolerance won c.polarity, { polarity := won, hits := hits, echo := some (avg, d) })
  else (.none, { polarity := won, hits := hits, echo := none })

/-- The kind of a BREAK class (R73). -/
def breakKind : RepeatClass → Option BreakKind
  | .breakOpen => some .openBreak
  | .breakShort => some .shortBreak
  | _ => none

/-- A BREAK distance added to a span (R74). -/
def addSpan (s : Option BreakSpan) (d : Nat) : BreakSpan :=
  match s with
  | none => ⟨d, d, d⟩
  | some x => ⟨Nat.min x.min d, Nat.max x.max d, d⟩

/-- A repeat added to the pair results (R74). -/
def PairResult.add (r : PairResult) (cls : RepeatClass) (detail : RepeatDetail) : PairResult :=
  let r := { r with repeatsRun := r.repeatsRun + 1, lastClass := cls, detail := detail }
  match breakKind cls, detail.echo with
  | some k, some (_, d) =>
    { r with
      breaks := r.breaks + 1
      span := some (addSpan r.span d)
      openSeen := r.openSeen || decide (k = .openBreak)
      shortSeen := r.shortSeen || decide (k = .shortBreak)
      latest := k }
  | _, _ => r

/-- The results of a pair. -/
def SweepContext.result (c : SweepContext) : Pair → PairResult
  | .data => c.dataResult
  | .power => c.powerResult

/-- The current repeat evaluated into the results of the current pair, its shot outcomes cleared (R71 to R74). -/
def SweepContext.closeRepeat (c : SweepContext) : SweepContext :=
  let found := c.evaluate
  let c' := { c with posHits := 0, negHits := 0, posSum := 0, negSum := 0 }
  match c.pair with
  | .data => { c' with dataResult := c.dataResult.add found.1 found.2 }
  | .power => { c' with powerResult := c.powerResult.add found.1 found.2 }

/-! ## The fault list (R76 to R78) -/

/-- A new OPEN record (R77). -/
def newFault (number : BitVec 16) (c : SweepContext) (pair : Pair) (r : PairResult) (s : BreakSpan) (now : HubTime) :
    FaultRecord :=
  { number := number, port := c.port, pair := pair, kind := r.latest, mixed := r.openSeen && r.shortSeen
    isOpen := true, minMm := s.min, maxMm := s.max, lastMm := s.last, hits := r.breaks, repeats := r.repeatsRun
    origin := c.origin, created := now, updated := now }

/-- The result saw a kind other than the record's (R78). -/
def sawOther (k : BreakKind) (r : PairResult) : Bool :=
  match k with
  | .openBreak => r.shortSeen
  | .shortBreak => r.openSeen

/-- A result merged into an OPEN record (R78). -/
def mergeFault (f : FaultRecord) (r : PairResult) (s : BreakSpan) (now : HubTime) : FaultRecord :=
  { f with
    hits := Nat.min 65535 (f.hits + r.breaks)
    repeats := Nat.min 65535 (f.repeats + r.repeatsRun)
    minMm := Nat.min f.minMm s.min
    maxMm := Nat.max f.maxMm s.max
    lastMm := s.last
    kind := r.latest
    mixed := f.mixed || (r.openSeen && r.shortSeen) || sawOther f.kind r
    updated := now }

/-- The record is an OPEN record of a port and pair. -/
def FaultRecord.opens (f : FaultRecord) (p : Port) (pair : Pair) : Bool := f.isOpen && f.port = p && f.pair = pair

/-- The list without its oldest CLEARED record (R77). -/
def dropOldestCleared : List FaultRecord → List FaultRecord
  | [] => []
  | f :: rest => if f.isOpen then f :: dropOldestCleared rest else rest

/-- The cell's list after a BREAK result (R77, R78). -/
def CableUnit.writeFault (u : CableUnit) (c : SweepContext) (pair : Pair) (r : PairResult) (s : BreakSpan) (now : HubTime) :
    CableUnit :=
  if u.faults.any fun f => f.opens c.port pair then
    { u with faults := u.faults.map fun f => if f.opens c.port pair then mergeFault f r s now else f }
  else
    { u with
      faults := (if 16 ≤ u.faults.length then dropOldestCleared u.faults else u.faults) ++
        [newFault u.nextRecord c pair r s now]
      nextRecord := u.nextRecord + 1 }

/-- A pair's result at completion (R75 step 1, R5): with a BREAK it is written, fault isolation and FAULT are set,
and a rise of effective isolation reaches the Power Controller. The notice comes with the completion's other flag. -/
def Hub.recordPair (h : Hub) (c : SweepContext) (pair : Pair) : Hub :=
  let r := c.result pair
  match r.span with
  | none => h
  | some s =>
    let rises := !h.effectiveIso c.port
    let h := h.modCables fun u => u.writeFault c pair r s h.time
    let h := (h.modCable c.port fun x => { x with faultIsolation := true }).setFlags c.port fFault 0
    if rises then h.isolationRise c.port else h

/-! ## The end of a sweep (R75, R79) -/

/-- The summary of a pair (Table 4-6). -/
def PairResult.summarise (r : PairResult) : PairSummary := ⟨r.repeatsRun, r.breaks, r.span, r.lastClass, r.detail⟩

/-- The pair is among those a sweep tests. -/
def tests : PairSel → Pair → Bool
  | .both, _ => true
  | .data, .data => true
  | .power, .power => true
  | _, _ => false

/-- The last-sweep summary of a sweep (Table 4-6). -/
def SweepContext.summarise (c : SweepContext) (e : EngineNo) (now : HubTime) : SweepSummary :=
  { origin := c.origin, completed := now, engine := e
    data := if tests c.params.pair .data then some c.dataResult.summarise else none
    power := if tests c.params.pair .power then some c.powerResult.summarise else none }

/-- The sweep status becomes IDLE, SWEEP is set, and the end is reported to the Power Controller
(R79). -/
def Hub.sweepOver (h : Hub) (p : Port) : Hub :=
  ((h.modCable p fun c => { c with sweepStatus := .idle }).flag p fSweep).sweepReported p

/-- An engine stops without recording results (R79). -/
def Hub.stopSweep (h : Hub) (e : EngineNo) (p : Port) : Hub := ((h.setEngine e none).sweepOver p).offerEngines

/-- The pair was tested and its BREAK repeats are 1 or more (R75 step 1). -/
def SweepContext.broke (c : SweepContext) (x : Pair) : Bool := tests c.params.pair x && (c.result x).span.isSome

/-- The flags that a completion sets (R75 steps 1 and 4). -/
def SweepContext.endFlags (c : SweepContext) : BitVec 16 :=
  fSweep ||| (if c.broke .data || c.broke .power then fFault else 0)

/-- A sweep completes (R75), in one event of the Cable Test Unit with one notice for the flags it raises (R174). -/
def Hub.completeSweep (h : Hub) (e : EngineNo) (c : SweepContext) : Hub :=
  let rose := h.rising c.port c.endFlags 0
  let h := if tests c.params.pair .data then h.recordPair c .data else h
  let h := if tests c.params.pair .power then h.recordPair c .power else h
  let h := h.modCable c.port fun x => { x with summary := some (c.summarise e h.time) }
  let h := (h.setEngine e none).modCable c.port fun x => { x with sweepStatus := .idle }
  (((h.setFlags c.port fSweep 0).noticeFor rose).sweepReported c.port).offerEngines

/-- The end of a repeat, at a time (R69): the next interval, the other pair, or completion. -/
def Hub.repeatEnd (h : Hub) (e : EngineNo) (c : SweepContext) (endTime : HubTime) : Hub :=
  let c := c.closeRepeat
  if c.repeatNo < c.params.repeats then
    h.setEngine e (some { c with phase := .waiting, phaseStart := endTime, shotNo := 0 })
  else if c.params.pair = .both && c.pair = .data then
    h.setEngine e
      (some { c with pair := .power, phase := .settling, phaseStart := endTime, repeatNo := 0, shotNo := 0 })
  else h.completeSweep e c

/-- A repeat begins with its first shot (R69). -/
def SweepContext.beginRepeat (c : SweepContext) (n : Nat) (start : HubTime) : SweepContext :=
  { c with phase := .shooting, phaseStart := start, repeatNo := n, shotNo := 1 }

/-- A shot's slot ends (R69, R70, R79). -/
def Hub.shotEnd (h : Hub) (e : EngineNo) (c : SweepContext) (trace : List (Nat × Int)) : Hub :=
  if c.cancelling then h.stopSweep e c.port
  else
    let c := c.addEcho (c.echo trace)
    let endTime := after c.phaseStart 4
    if c.shotNo < c.params.shots then
      h.setEngine e (some { c with shotNo := c.shotNo + 1, phaseStart := endTime })
    else h.repeatEnd e c endTime

/-- SWEEP_CANCEL's effect (R79). -/
def Hub.cancelSweep (h : Hub) (p : Port) : Hub :=
  match (h.cb p).sweepStatus with
  | .idle => h
  | .queued => (h.modCables fun u => { u with queue := u.queue.filter fun q => q.port ≠ p }).sweepOver p
  | .running =>
    let stop (h : Hub) (e : EngineNo) : Hub :=
      match h.engine e with
      | some c =>
        if c.port = p then
          if c.phase = .shooting then h.setEngine e (some { c with cancelling := true }) else h.stopSweep e p
        else h
      | none => h
    stop (stop h 0) 1

end Sys2Proof.Machine
end

