-- ==== Sys2Proof/Machine/Protection.lean ====
section
/-! DEFINITION. Trips, detection failures, training failures and losses of lock: the events that may ask for an
automatic sweep (R19, R21, R23, R45, R48, R49). -/

namespace Sys2Proof.Machine

/-- The trip history after a trip: the oldest of three is removed first (R48 step 3). -/
def PortPower.tripsAfter (q : PortPower) (now : HubTime) : List HubTime := appendBounded 3 q.trips now

/-- A trip enters LOCKED (R48 step 4): a hard short, or three trips with the newest less than 10 s after the
oldest. -/
def tripLocks (cause : OffCause) (trips : List HubTime) : Bool :=
  cause = .hardShort ||
    (match trips with
      | [a, _, c] => decide (elapsed c a < 10000000)
      | _ => false)

/-- The origin of the automatic sweep a trip calls for, or none (R49). -/
def tripSweep (c : PortCable) (cause : OffCause) (locks : Bool) : Option SweepOrigin :=
  if cause = .hardShort && c.onHardShort then some .autoHardShort
  else if locks && c.onLock then some .autoLock
  else none

/-- An automatic sweep, where one is called for. -/
def Hub.maySweep (h : Hub) (p : Port) : Option SweepOrigin → Hub
  | some o => h.autoSweep p o
  | none => h

/-- A trip (R48), in the rule's order. -/
def Hub.trip (h : Hub) (p : Port) (cause : OffCause) : Hub :=
  let q := h.pw p
  let trips := q.tripsAfter h.time
  let locks := tripLocks cause trips
  let h := h.modPower p fun q =>
    if locks then { q with state := .locked, cause := cause, trips := trips, allowanceHeld := false }
    else
      { q with
        state := .cooldown, cause := cause, trips := trips, allowanceHeld := false
        cooldownEnd := after h.time 500000, postponed := false }
  let h := h.flag p (fTrip ||| fPower ||| (if locks then fLock else 0))
  let h := if q.state = .on then h.leftOn p else h
  h.maySweep p (tripSweep (h.cb p) cause locks)

/-- The end of DETECTING with the measured load in milliohm (R45). -/
def Hub.detected (h : Hub) (p : Port) (load : Nat) : Hub :=
  let fails (h : Hub) (cause : OffCause) : Hub :=
    let h := h.turnOff p cause 0
    if (h.cb p).onDetectFail then h.autoSweep p .autoDetect else h
  if load < 10000 then fails h .detectShort
  else if 50000000 < load then fails h .detectOpen
  else (h.modPower p fun q => { q with state := .ramping, phaseEnd := after h.time 10000 }).flag p fPower

/-- The output reaches 90% of the supply sample (R46). -/
def Hub.rampReached (h : Hub) (p : Port) : Hub :=
  ((h.modPower p fun q => { q with state := .on, overSince := none }).flag p fPower).beginTraining p

/-- The end of a training attempt (R17, R19). -/
def Hub.attemptEnd (h : Hub) (p : Port) : Hub :=
  if (h.lk p).attempt < 3 then
    h.modLink p fun l => { l with attempt := l.attempt + 1, attemptStart := h.time }
  else
    let h := (h.modLink p fun l => { l with state := .down, note := .trainFail, channel := .idle }).flag p fLink
    if (h.cb p).onLinkFail then h.autoSweep p .autoLink else h

/-- Loss of lock (R21 to R23): a drop, TRAINING with attempt 1, and the drop threshold. -/
def Hub.lossOfLock (h : Hub) (p : Port) : Hub :=
  let h := h.drop p .lossOfLock (LinkCtl.train h.time)
  if decide ((h.lk p).dropAt ≤ (h.lk p).recentLosses h.time) && (h.cb p).onDrops then h.autoSweep p .autoDrops else h

end Sys2Proof.Machine
end

