-- ==== Sys2Proof/Machine/Requests.lean ====
section
/-! DEFINITION. The taking of a request (R168, R169): the head of the request queue, the target check, the owner,
and the reply. -/

namespace Sys2Proof.Machine

/-- A command's outcome: always a next state on this hub. -/
abbrev Result := Host.Outcome State Fault Refusal

/-- A request may be taken (R169, R171): the taking state is READY, no answered slot waits for a place, and the
reply queue has room or the trunk is DOWN. -/
def Hub.mayTake (h : Hub) : Bool :=
  h.mgmt.taking = .ready && h.mgmt.answered.isEmpty && (!h.trunk.up || decide (h.trunk.replies.length < 32))

/-- The reply offered in the taking event (R158, R169), ahead of what the owner's events placed in the queue
(log entry 9); while the trunk is DOWN it is discarded and reported as gone. -/
def Hub.answer (h : Hub) (place : Nat) (reply : Packet) : Hub :=
  if h.trunk.up then
    h.modTrunk fun t => { t with replies := t.replies.take place ++ reply :: t.replies.drop place }
  else (h.modTrunk fun t => { t with discarded := t.discarded + 1 }).replyGone reply

/-- The head request leaves the request queue, and a place of the reply queue is kept for its reply. -/
def Hub.popRequest (h : Hub) : Hub := h.modMgmt fun m => { m with requests := m.requests.tail, replyOwed := true }

/-- The kept place is given to the reply. -/
def Hub.replyDue (h : Hub) : Hub := h.modMgmt fun m => { m with replyOwed := false }

/-- One taking (R169): the head leaves the queue, its owner acts, its reply is offered. A pass-through request that
is accepted has no reply at its taking (R170). -/
def Hub.takeHead (h : Hub) (pkt : Packet) (code : List Byte) (owner : Hub → Hub × Option Reply) : Hub :=
  let done := owner h.popRequest
  match done.2 with
  | some reply => done.1.replyDue.answer h.trunk.replies.length (replyPacket pkt.port pkt.tag code reply)
  | none => done.1.replyDue

/-- The head of the request queue, where it may be taken and spells this command (log entry 4). -/
def Hub.headFor (h : Hub) (c : ReqCode) (r : ReqHeader) (params : List Byte) : Option Packet :=
  match h.mgmt.requests with
  | pkt :: _ => if h.mayTake && spells pkt c r params then some pkt else none
  | [] => none

/-- A request command (R169): the head request, if it is this one and may be taken, is taken by its owner, which may
leave the reply for later. -/
def State.takeLater (s : State) (c : ReqCode) (r : ReqHeader) (params : List Byte)
    (owner : Byte → Hub → Hub × Option Reply) : Result :=
  match s.hub.headFor c r params with
  | some pkt => .next (s.event fun h => h.takeHead pkt (u16 (codeNumber c)) (owner pkt.port))
  | none => .next s

/-- An owner that answers at once. -/
def atOnce (owner : Byte → Hub → Hub × Reply) (target : Byte) (h : Hub) : Hub × Option Reply :=
  ((owner target h).1, some (owner target h).2)

/-- A request command whose owner answers in the taking (R169). -/
def State.take (s : State) (c : ReqCode) (r : ReqHeader) (params : List Byte) (owner : Byte → Hub → Hub × Reply) :
    Result :=
  s.takeLater c r params (atOnce owner)

/-- An owner of requests with the hub target; any other target is refused BAD_TARGET (R169, check 3). -/
def forHub (owner : Hub → Hub × Reply) (target : Byte) (h : Hub) : Hub × Reply :=
  if target = hubTarget then owner h else (h, refuse .badTarget)

/-- An owner of requests with a port target. -/
def forPort (owner : Port → Hub → Hub × Reply) (target : Byte) (h : Hub) : Hub × Reply :=
  match targetPort target with
  | some p => owner p h
  | none => (h, refuse .badTarget)

/-- An owner of requests with either target. -/
def forEither (owner : Option Port → Hub → Hub × Reply) (target : Byte) (h : Hub) : Hub × Reply :=
  if target = hubTarget then owner none h
  else
    match targetPort target with
    | some p => owner (some p) h
    | none => (h, refuse .badTarget)

/-- An event at the hub: it happens where its condition holds, and changes nothing where it does not
(log entry 3). -/
def State.when (s : State) (condition : Bool) (f : Hub → Hub) : Result :=
  if condition then .next (s.event f) else .next s

/-- OK with results. -/
def okWith (results : List Byte) : Reply := { status := .ok, results := results }

end Sys2Proof.Machine
end

