-- ==== Sys2Proof/Machine/CableCommands.lean ====
section
/-! DEFINITION. The meanings of the Cable Test Unit's requests and of its engines' events (R60 to R83). -/

namespace Sys2Proof.Machine

/-! ## Settings -/

/-- CABLE_TYPE_SET at its owner (R62). -/
def Hub.cableTypeSet (h : Hub) (type speed polarity threshold : Nat) : Hub × Reply :=
  match asFin 4 type, readEndPolarity polarity with
  | some t, some pol =>
    if within 100 300 speed && within 1 255 threshold then
      (h.modCables fun u => { u with types := vset u.types t { speed := speed, polarity := pol, threshold := threshold } },
        okWith (u16 speed ++ endPolarityCode pol ++ u8 threshold))
    else (h, refuse .range)
  | _, _ => (h, refuse .range)

/-- CABLE_TYPE_SET (R62). -/
def execCableTypeSet (r : ReqHeader) (type speed polarity threshold : Nat) (s : State) : Result :=
  s.take .cableTypeSet r (u8 type ++ u16 speed ++ u8 polarity ++ u8 threshold)
    (forHub fun h => h.cableTypeSet type speed polarity threshold)

/-- PORT_CABLE_SET at its owner (R63). -/
def Hub.portCableSet (h : Hub) (p : Port) (type length tolerance offset : Nat) : Hub × Reply :=
  match asFin 4 type with
  | none => (h, refuse .range)
  | some t =>
    if within 1 100000 length && within 0 5000 tolerance && within 0 4095 offset then
      (h.modCable p fun c => { c with type := t, length := length, tolerance := tolerance, offset := offset },
        okWith (u8 type ++ u32 length ++ u16 tolerance ++ u16 offset))
    else (h, refuse .range)

/-- PORT_CABLE_SET (R63). -/
def execPortCableSet (r : ReqHeader) (type length tolerance offset : Nat) (s : State) : Result :=
  s.take .portCableSet r (u8 type ++ u32 length ++ u16 tolerance ++ u16 offset)
    (forPort fun p h => h.portCableSet p type length tolerance offset)

/-- AUTO_SWEEP_SET at its owner (R64). -/
def Hub.autoSweepSet (h : Hub) (p : Port) (flags : Nat) (sweep : SweepParamsRaw) : Hub × Reply :=
  match readSweepParams sweep with
  | none => (h, refuse .range)
  | some params =>
    if 32 ≤ flags then (h, refuse .range)
    else
      (h.modCable p fun c =>
        { c with
          onDetectFail := flags.testBit 0, onHardShort := flags.testBit 1, onLock := flags.testBit 2
          onLinkFail := flags.testBit 3, onDrops := flags.testBit 4, auto := params },
        okWith (u8 flags ++ sweepParamsBytes params))

/-- AUTO_SWEEP_SET (R64). -/
def execAutoSweepSet (r : ReqHeader) (flags : Nat) (sweep : SweepParamsRaw) (s : State) : Result :=
  s.take .autoSweepSet r (u8 flags ++ sweepRawBytes sweep) (forPort fun p h => h.autoSweepSet p flags sweep)

/-! ## Sweeps -/

/-- The place of a port in the sweep queue, 1 for the head. -/
def CableUnit.placeOf (u : CableUnit) (p : Port) : Nat := (u.queue.takeWhile fun q => q.port ≠ p).length + 1

/-- The engine that runs a port's sweep: E1 where E0 does not. -/
def Hub.engineOf (h : Hub) (p : Port) : EngineNo :=
  match h.engine 0 with
  | some c => if c.port = p then 0 else 1
  | none => 1

/-- The sweep status with its place or its engine (R66). -/
def Hub.sweepPlace (h : Hub) (p : Port) : List Byte :=
  sweepStatusCode (h.cb p).sweepStatus ++
    u8 (if (h.cb p).sweepStatus = .running then (h.engineOf p).val else h.cables.placeOf p)

/-- SWEEP_REQUEST at its owner (R66). -/
def Hub.sweepRequest (h : Hub) (p : Port) (sweep : SweepParamsRaw) (powerDownFirst : Nat) : Hub × Reply :=
  match readSweepParams sweep, readYesNo powerDownFirst with
  | some params, some first =>
    if (h.cb p).sweepStatus ≠ .idle then (h, refuse .sweeping)
    else if (h.pw p).powered && !first then (h, refuse .powered)
    else
      let h' := (h.powerDown p).enqueueSweep p params .requested
      (h', okWith (h'.sweepPlace p))
  | _, _ => (h, refuse .range)

/-- SWEEP_REQUEST (R66). -/
def execSweepRequest (r : ReqHeader) (sweep : SweepParamsRaw) (powerDownFirst : Nat) (s : State) : Result :=
  s.take .sweepRequest r (sweepRawBytes sweep ++ u8 powerDownFirst)
    (forPort fun p h => h.sweepRequest p sweep powerDownFirst)

/-- SWEEP_CANCEL (R79): the reply carries the sweep status found. -/
def execSweepCancel (r : ReqHeader) (s : State) : Result :=
  s.take .sweepCancel r [] (forPort fun p h => (h.cancelSweep p, okWith (sweepStatusCode (h.cb p).sweepStatus)))

/-! ## The engines' events -/

/-- An engine's context, where it is in a phase that has lasted a time from its start. -/
def Hub.enginePhaseOver (h : Hub) (e : EngineNo) (phase : EnginePhase) (duration : SweepContext → Nat) :
    Option SweepContext :=
  match h.engine e with
  | some c => if decide (c.phase = phase) && passed h.time c.phaseStart (duration c) then some c else none
  | none => none

/-- SETTLING_END (R69): 10 ms after settling began, the first repeat begins. -/
def execSettlingEnd (e : EngineNo) (s : State) : Result :=
  match s.hub.enginePhaseOver e .settling fun _ => 10000 with
  | some c => .next (s.event fun h => h.setEngine e (some (c.beginRepeat 1 (after c.phaseStart 10000))))
  | none => .next s

/-- SHOT (R69, R70): the shot's 4 µs slot ends. -/
def execShot (e : EngineNo) (trace : List (Nat × Int)) (s : State) : Result :=
  match s.hub.enginePhaseOver e .shooting fun _ => 4 with
  | some c => .next (s.event fun h => h.shotEnd e c trace)
  | none => .next s

/-- The interval of a sweep, in µs. -/
def SweepContext.gap (c : SweepContext) : Nat := c.params.interval * 1000

/-- REPEAT_INTERVAL_END (R69): the next repeat begins. -/
def execRepeatIntervalEnd (e : EngineNo) (s : State) : Result :=
  match s.hub.enginePhaseOver e .waiting SweepContext.gap with
  | some c =>
    .next (s.event fun h => h.setEngine e (some (c.beginRepeat (c.repeatNo + 1) (after c.phaseStart c.gap))))
  | none => .next s

/-! ## The fault list -/

/-- The record is an OPEN record of a port, on either pair. -/
def FaultRecord.opensPort (f : FaultRecord) (p : Port) : Bool := f.isOpen && decide (f.port = p)

/-- FAULT_CLEAR at its owner (R80): the reply carries the number of records cleared. -/
def Hub.faultClear (h : Hub) (p : Port) : Hub × Reply :=
  if (h.cb p).sweepStatus = .running then (h, refuse .sweeping)
  else
    let h' := h.modCables fun u =>
      { u with
        faults := u.faults.map fun f => if f.opensPort p then { f with isOpen := false, updated := h.time } else f }
    (h'.modCable p fun c => { c with faultIsolation := false },
      okWith (u8 (h.cables.faults.filter fun f => f.opensPort p).length))

/-- FAULT_CLEAR (R80). -/
def execFaultClear (r : ReqHeader) (s : State) : Result :=
  s.take .faultClear r [] (forPort fun p h => h.faultClear p)

/-- A fault record (Table 11-6): its state is OPEN 0, CLEARED 1. -/
def faultBytes (f : FaultRecord) : List Byte :=
  u16 f.number.toNat ++ u8 f.port.val ++ pairCode f.pair ++ kindCode f.kind ++ yesNo f.mixed ++
    u8 (if f.isOpen then 0 else 1) ++ originCode f.origin ++ u32 f.minMm ++ u32 f.maxMm ++ u32 f.lastMm ++
    u16 f.hits ++ u16 f.repeats ++ w32 f.created ++ w32 f.updated

/-- An engine: presence, then the port, the current pair, the phase and the repeat (R83). -/
def engineBytes (e : Option SweepContext) : List Byte :=
  optional 4 (fun c : SweepContext => u8 c.port.val ++ pairCode c.pair ++ enginePhaseCode c.phase ++ u8 c.repeatNo) e

/-- The summary of a swept pair after its swept mark (Table 4-6). -/
def pairSummaryBytes (q : PairSummary) : List Byte :=
  u8 q.repeatsRun ++ u8 q.breaks ++
    optional 12 (fun b : BreakSpan => u32 b.min ++ u32 b.max ++ u32 b.last) q.span ++
    classCode q.lastClass ++ polarityCode q.detail.polarity ++ u8 q.detail.hits ++
    optional 6 (fun x : Nat × Nat => u16 x.1 ++ u32 x.2) q.detail.echo

/-- The width of a swept pair's summary. -/
def pairSummaryWidth : Nat := 25

/-- The last-sweep summary (Table 4-6). The swept mark is sent as a presence byte, and a pair that was not swept has
zeros in place of its items (DESIGN CHOICE, log entry 26). -/
def summaryBytes (q : SweepSummary) : List Byte :=
  originCode q.origin ++ w32 q.completed ++ u8 q.engine.val ++
    optional pairSummaryWidth pairSummaryBytes q.data ++ optional pairSummaryWidth pairSummaryBytes q.power

/-- The width of a last-sweep summary: origin, time, engine, two pairs with their swept marks. -/
def summaryWidth : Nat := 6 + 2 * (1 + pairSummaryWidth)

/-- A queued port's place in the queue (R83). -/
def Hub.queuedPlace (h : Hub) (p : Port) : Option Nat :=
  if (h.cb p).sweepStatus = .queued then some (h.cables.placeOf p) else none

/-- FAULT_READ's results (R83). -/
def Hub.faultReadBytes (h : Hub) : Option Port → List Byte
  | none =>
    counted faultBytes h.cables.faults ++ counted (fun q : SweepEntry => u8 q.port.val) h.cables.queue ++
      engineBytes (h.engine 0) ++ engineBytes (h.engine 1)
  | some p =>
    let c := h.cb p
    counted faultBytes (h.cables.faults.filter fun f => f.port = p) ++
      sweepStatusCode c.sweepStatus ++ yesNo c.faultIsolation ++ optional summaryWidth summaryBytes c.summary ++
      w32 c.discards ++ u8 (autoFlagsMask c) ++ sweepParamsBytes c.auto ++ optional 1 u8 (h.queuedPlace p)

/-- FAULT_READ (R83). -/
def execFaultRead (r : ReqHeader) (s : State) : Result :=
  s.take .faultRead r [] (forEither fun p h => (h, okWith (h.faultReadBytes p)))

end Sys2Proof.Machine
end

