-- ==== Sys2Proof/Machine/FrameCommands.lean ====
section
/-! DEFINITION. The meanings of the frame packets, of the fill deadline and of the frame memory's requests (R33 to
R35, R122 to R136). -/

namespace Sys2Proof.Machine

/-- The end of an event that changed frame memory too. -/
def State.settled (s : State) : State := { s with hub := s.hub.settle s.dram }

/-! ## Completion (R129, R130) -/

/-- A LIVE item joins a port's work list; an IDLE pipeline takes it (R130, R147). -/
def Hub.queueLive (h : Hub) (m : Memory) (p : Port) (serial : Nat) : Hub :=
  (h.modPipe p fun q => { q with work := q.work ++ [{ serial := serial, resend := none }] }).pipeWake m p

/-- The FILLING record of a port completed (R129, R130), the intake becoming as given. -/
def State.completeFrame (s : State) (p : Port) (r : FrameRecord) (cameraEnd : Option (Nat × Nat)) (truncated : Bool)
    (intake : Intake) : State :=
  let m := (s.hub.fr p).conceal r s.dram
  let done := r.completed cameraEnd truncated
  let h := s.hub.modFrames p fun f => { f.modRecord r.serial fun _ => done with intake := intake }
  { s with dram := m, hub := if done.state = .complete then h.queueLive m p r.serial else h }

/-- The intake of a port changed. -/
def Hub.setIntake (h : Hub) (p : Port) (i : Intake) : Hub := h.modFrames p fun f => { f with intake := i }

/-- A packet counted late (R128, R129). -/
def Hub.countLate (h : Hub) (p : Port) : Hub := h.modFrames p fun f => { f with late := f.late + 1 }

/-- A frame that ended without its FRAME_END (R33, R129): a FILLING record is completed TRUNCATED, and the intake
becomes IDLE. -/
def State.frameCutOff (s : State) (p : Port) : State :=
  match (s.hub.fr p).filling with
  | some r => s.completeFrame p r none true .idle
  | none => { s with hub := s.hub.setIntake p .idle }

/-- A FRAME_END at frame memory (R129). -/
def State.frameEnded (s : State) (p : Port) (linesSent status : Nat) : State :=
  match (s.hub.fr p).filling with
  | some r => s.completeFrame p r (some (linesSent, status)) false .idle
  | none =>
    let h := if (s.hub.fr p).intake = .late then s.hub.countLate p else s.hub
    { s with hub := h.setIntake p .idle }

/-! ## Frame packets (R33 to R35) -/

/-- A packet ignored and counted (R33, R35). -/
def Hub.ignorePacket (h : Hub) (p : Port) : Hub :=
  h.modLink p fun l => { l with ignoredPackets := l.ignoredPackets + 1 }

/-- A new frame context, the trigger id resolved, the frame admitted or dropped (R33). -/
def Hub.openFrame (h : Hub) (p : Port) (number width height id : Nat) : Hub :=
  let h := h.modLink p fun l =>
    { l with context := some { number := number, width := width, height := height, received := [] } }
  let resolved := h.resolveId p id
  resolved.1.admitFrame p number width height id resolved.2

/-- A FRAME_START on an established link (R33). -/
def State.frameStart (s : State) (p : Port) (number width height id : Nat) : State :=
  if width = 0 ∨ height = 0 then { s with hub := (s.hub.ignorePacket p).linkError p }
  else
    let s := if (s.hub.lk p).context.isSome then s.frameCutOff p else s
    { s with hub := s.hub.openFrame p number width height id }

/-- FRAME_START (R16, R33). -/
def execFrameStart (p : Port) (number width height id : Nat) (s : State) : Result :=
  if (s.hub.lk p).established then .next (s.frameStart p number width height id).settled else .next s

/-- An intact LINE that belongs to the open context (R34, R128): it joins the received set, and frame memory takes it
according to the intake. -/
def State.storeLine (s : State) (p : Port) (c : FrameContext) (number : Nat) (pixels : List Nat) : State :=
  let h := s.hub.modLink p fun l => { l with context := some { c with received := number :: c.received } }
  let f := h.fr p
  match f.intake, f.filling with
  | .filling, some r =>
    { s with
      dram := Memory.writeBytes s.dram (f.base r + number * r.width * 2) (lineBytes pixels)
      hub := h.modRecord p r.serial fun r => { r with written := number :: r.written } }
  | .late, _ => { s with hub := h.countLate p }
  | _, _ => { s with hub := h }

/-- A LINE ignored and counted (R34). -/
def Hub.ignoreLine (h : Hub) (p : Port) : Hub := h.modLink p fun l => { l with ignoredLines := l.ignoredLines + 1 }

/-- A LINE on an established link (R34). -/
def State.line (s : State) (p : Port) (number : Nat) (pixels : List Nat) : State :=
  match (s.hub.lk p).context with
  | none => { s with hub := s.hub.ignoreLine p }
  | some c =>
    if c.height ≤ number ∨ pixels.length ≠ c.width ∨ number ∈ c.received then { s with hub := s.hub.ignoreLine p }
    else s.storeLine p c number pixels

/-- LINE (R16, R34). -/
def execLine (p : Port) (number : Nat) (pixels : List Nat) (s : State) : Result :=
  if (s.hub.lk p).established then .next (s.line p number pixels).settled else .next s

/-- The frame context closed (R35). -/
def Hub.closeContext (h : Hub) (p : Port) : Hub := h.modLink p fun l => { l with context := none }

/-- A FRAME_END on an established link (R35). -/
def State.frameEnd (s : State) (p : Port) (linesSent status : Nat) : State :=
  match (s.hub.lk p).context with
  | none => { s with hub := s.hub.ignorePacket p }
  | some _ => { s with hub := s.hub.closeContext p }.frameEnded p linesSent status

/-- FRAME_END (R16, R35). -/
def execFrameEnd (p : Port) (linesSent status : Nat) (s : State) : Result :=
  if (s.hub.lk p).established then .next (s.frameEnd p linesSent status).settled else .next s

/-- The FILLING record of a port whose fill deadline is reached (R129). -/
def Hub.dueFrame (h : Hub) (p : Port) : Option FrameRecord :=
  match (h.fr p).filling with
  | some r => if reachedFrom h.time r.arrival r.fillDeadline then some r else none
  | none => none

/-- FILL_DEADLINE (R129). -/
def execFillDeadline (p : Port) (s : State) : Result :=
  match s.hub.dueFrame p with
  | some r => .next (s.completeFrame p r none true .late).settled
  | none => .next s

/-! ## Requests -/

/-- The region of a ring shares a unit with another (R123). -/
def ringsOverlap (start length start' length' : Nat) : Bool :=
  decide (0 < length) && decide (0 < length') && decide (start < start' + length') && decide (start' < start + length)

/-- RING_SET at its owner (R123). -/
def Hub.ringSet (h : Hub) (p : Port) (start length timeout : Nat) : Hub × Reply :=
  if !(within 0 4095 start && within 0 4096 length && within 1 2000 timeout && decide (start + length ≤ 4096)) then
    (h, refuse .range)
  else if !(h.fr p).table.isEmpty then (h, refuse .busy)
  else if allPorts.any fun q =>
      decide (q ≠ p) && ringsOverlap start length (h.fr q).ringStart (h.fr q).ringLength then (h, refuse .inUse)
  else
    (h.modFrames p fun f => { f with ringStart := start, ringLength := length, timeout := timeout, cursor := 0 },
      okWith (u16 start ++ u16 length))

/-- RING_SET (R123). -/
def execRingSet (r : ReqHeader) (start length timeout : Nat) (s : State) : Result :=
  s.take .ringSet r (u16 start ++ u16 length ++ u16 timeout) (forPort fun p h => h.ringSet p start length timeout)

/-- The results of an accepted hold: the record's state and the number of records held (R134). -/
def holdResults (h : Hub) (p : Port) (r : FrameRecord) : List Byte := frameStateCode r.state ++ u8 (h.fr p).heldCount

/-- FRAME_HOLD at its owner (R134). -/
def Hub.frameHold (h : Hub) (p : Port) (number : Nat) : Hub × Reply :=
  match (h.fr p).named number with
  | none => (h, refuse .noFrame)
  | some r =>
    if r.state = .filling then (h, refuse .busy)
    else if r.held then (h, okWith (holdResults h p r))
    else if 4 ≤ (h.fr p).heldCount then (h, refuse .limit)
    else
      let h' := h.modRecord p r.serial fun r => { r with held := true, retained := false }
      (h', okWith (holdResults h' p r))

/-- FRAME_HOLD (R134). -/
def execFrameHold (r : ReqHeader) (number : Nat) (s : State) : Result :=
  s.take .frameHold r (u16 number) (forPort fun p h => h.frameHold p number)

/-- FRAME_RELEASE at its owner (R135): the reply says whether the record was released, as a yes or no (DESIGN CHOICE,
log entry 26), and gives its state. -/
def Hub.frameRelease (h : Hub) (p : Port) (number : Nat) : Hub × Reply :=
  match (h.fr p).named number with
  | none => (h, refuse .noFrame)
  | some r =>
    if r.held then
      let h' := (h.modRecord p r.serial fun r => { r with held := false }).checkRelease p r.serial
      (h', okWith (yesNo ((h'.fr p).record r.serial).isNone ++ frameStateCode r.state))
    else (h, okWith (yesNo false ++ frameStateCode r.state))

/-- FRAME_RELEASE (R135). -/
def execFrameRelease (r : ReqHeader) (number : Nat) (s : State) : Result :=
  s.take .frameRelease r (u16 number) (forPort fun p h => h.frameRelease p number)

/-- A frame record as FRAME_LIST returns it (Table 11-8). -/
def frameRecordBytes (r : FrameRecord) : List Byte :=
  u16 r.number ++ u8 r.triggerId ++ optional 8 (fun t : FiredAt => w32 t.encoder ++ w32 t.time) r.trigger ++
    w32 r.arrival ++ w32 r.fillDeadline ++ u16 r.width ++ u16 r.height ++ u32 r.offset ++ u32 r.size ++
    frameStateCode r.state ++ yesNo r.held ++ yesNo r.retained ++
    optional 1 (fun v : Fin 16 => u8 v.val) r.view ++ w32 r.flags ++ u16 r.concealed ++
    optional 3 (fun e : Nat × Nat => u16 e.1 ++ u8 e.2) r.cameraEnd ++
    counted (fun v : Fin 16 => u8 v.val) r.resends

/-- What FRAME_LIST returns of a port (R136). -/
def PortFrames.listBytes (f : PortFrames) : List Byte :=
  u16 f.ringStart ++ u16 f.ringLength ++ u32 f.cursor ++ u16 f.timeout ++ optional 4 w32 f.lastOutput ++
    intakeCode f.intake ++ w32 f.admitted ++ w32 f.skipped ++
    w32 f.noRing ++ w32 f.tooLarge ++ w32 f.noRecord ++ w32 f.noSpace ++ w32 f.linkAbort ++ w32 f.late ++
    counted frameRecordBytes f.table

/-- FRAME_LIST (R136). -/
def execFrameList (r : ReqHeader) (s : State) : Result :=
  s.take .frameList r [] (forPort fun p h => (h, okWith (h.fr p).listBytes))

end Sys2Proof.Machine
end

