-- ==== Sys2Proof/Machine/LensCommands.lean ====
section
/-! DEFINITION. The meanings of the Lens Controller's requests, reports and deadlines (R84 to R104). -/

namespace Sys2Proof.Machine

/-! ## Profiles -/

/-- The four values of one axis in their ranges (R85, Table 5-1). -/
def profileFits (a : ProfileParams) : Bool :=
  within 0 1 a.present && within 1 65535 a.max && within 10 20000 a.rate && within 0 255 a.tolerance

/-- An axis with a new profile (R85): its position and last outcome are given up. -/
def Axis.loadProfile (a : Axis) (q : ProfileParams) : Axis :=
  { a with
    present := decide (q.present = 1), max := q.max, rate := q.rate, tolerance := q.tolerance
    position := none, outcome := .none }

/-- A profile as the reply carries it. -/
def axisProfileBytes (a : Axis) : List Byte := yesNo a.present ++ u16 a.max ++ u16 a.rate ++ u8 a.tolerance

/-- LENS_PROFILE_LOAD at its owner (R85). -/
def Hub.lensProfileLoad (h : Hub) (p : Port) (focus zoom iris : ProfileParams) : Hub × Reply :=
  if !(profileFits focus && profileFits zoom && profileFits iris) then (h, refuse .range)
  else if (h.ln p).anyMotion then (h, refuse .busy)
  else
    let h' := h.modLens p fun l =>
      { l with
        focus := l.focus.loadProfile focus, zoom := l.zoom.loadProfile zoom, iris := l.iris.loadProfile iris }
    (h', okWith (allAxes.flatMap fun x => axisProfileBytes (h'.ax p x)))

/-- LENS_PROFILE_LOAD (R85). -/
def execLensProfileLoad (r : ReqHeader) (focus zoom iris : ProfileParams) (s : State) : Result :=
  s.take .lensProfileLoad r (profileBytes focus ++ profileBytes zoom ++ profileBytes iris)
    (forPort fun p h => h.lensProfileLoad p focus zoom iris)

/-! ## Commands -/

/-- LENS_HOME of an axis, from check 2 on (R89). -/
def Hub.homeAxis (h : Hub) (p : Port) (x : AxisId) : Hub × Reply :=
  let a := h.ax p x
  if !(h.lk p).established then (h, refuse .linkDown)
  else if !a.present then (h, refuse .noTable)
  else if a.motion = .homing ∨ a.motion = .stopping then (h, refuse .busy)
  else
    let sent := h.lensCommand p (.lensHome x)
    match sent.2 with
    | some e => (sent.1, refuse e)
    | none =>
      let h' := sent.1.modAxis p x fun a => a.home h.time
      (h', okWith (motionCode .homing ++ w32 (h'.ax p x).deadline))

/-- LENS_HOME at its owner (R89). -/
def Hub.lensHome (h : Hub) (p : Port) (axis : Nat) : Hub × Reply :=
  match readAxis axis with
  | none => (h, refuse .range)
  | some x => h.homeAxis p x

/-- LENS_HOME (R89). -/
def execLensHome (r : ReqHeader) (axis : Nat) (s : State) : Result :=
  s.take .lensHome r (u8 axis) (forPort fun p h => h.lensHome p axis)

/-- A lens command sent where its target is new (R87, R90, R91): refused, or accepted with the axis's new state. -/
def Hub.sendMove (h : Hub) (p : Port) (x : AxisId) (target : Nat) (status : Status) (f : Axis → Axis) : Hub × Status :=
  let sent := h.lensCommand p (.lensMove x target)
  match sent.2 with
  | some e => (sent.1, e)
  | none => (sent.1.modAxis p x f, status)

/-- A move of an axis, from check 2 of R90 on, with its status (R90, R91). -/
def Hub.moveAxis (h : Hub) (p : Port) (x : AxisId) (wanted : Nat) : Hub × Status :=
  let a := h.ax p x
  let target := Nat.min wanted a.max
  let status : Status := if a.max < wanted then .clamped else .ok
  if !(h.lk p).established then (h, .linkDown)
  else if !a.present then (h, .noTable)
  else
    match a.motion, a.position with
    | .homing, _ => (h, .noPosition)
    | .stopping, _ => (h, .busy)
    | .idle, none => (h, .noPosition)
    | .idle, some position =>
      if target = position then (h, status)
      else h.sendMove p x target status fun a => a.moveFrom h.time position target
    | .moving, _ =>
      if target = a.target then (h, status) else h.sendMove p x target status fun a => a.retarget h.time target

/-- The request was carried out (Table 10-2). -/
def carriedOut (s : Status) : Bool := s = .ok || s = .clamped

/-- LENS_MOVE at its owner (R90): an accepted move replies with the motion, the target and the deadline held. -/
def Hub.lensMove (h : Hub) (p : Port) (axis target : Nat) : Hub × Reply :=
  match readAxis axis with
  | none => (h, refuse .range)
  | some x =>
    let moved := h.moveAxis p x target
    let a := moved.1.ax p x
    (moved.1,
      { status := moved.2
        results := if carriedOut moved.2 then motionCode a.motion ++ u16 a.target ++ w32 a.deadline else [] })

/-- LENS_MOVE (R90, R91). -/
def execLensMove (r : ReqHeader) (axis target : Nat) (s : State) : Result :=
  s.take .lensMove r (u8 axis ++ u16 target) (forPort fun p h => h.lensMove p axis target)

/-- LENS_STOP of an axis, from check 2 on (R92). -/
def Hub.stopAxis (h : Hub) (p : Port) (x : AxisId) : Hub × Reply :=
  let a := h.ax p x
  if !a.present then (h, refuse .noTable)
  else if a.motion = .idle ∨ a.motion = .stopping then (h, okWith (motionCode a.motion))
  else
    let sent := h.lensCommand p (.lensStop x)
    match sent.2 with
    | some e => (sent.1, refuse e)
    | none => (sent.1.modAxis p x fun a => a.stop h.time, okWith (motionCode .stopping))

/-- LENS_STOP at its owner (R92). -/
def Hub.lensStop (h : Hub) (p : Port) (axis : Nat) : Hub × Reply :=
  match readAxis axis with
  | none => (h, refuse .range)
  | some x => h.stopAxis p x

/-- LENS_STOP (R92). -/
def execLensStop (r : ReqHeader) (axis : Nat) (s : State) : Result :=
  s.take .lensStop r (u8 axis) (forPort fun p h => h.lensStop p axis)

/-! ## Reports and deadlines -/

/-- LENS_REPORT (R35, R94, R95), taken while the link is UP or DEGRADED (R16). -/
def execLensReport (p : Port) (axis position kind : Nat) (s : State) : Result :=
  s.when (s.hub.lk p).established fun h => h.lensReport p axis position kind

/-- An axis in motion whose deadline is reached (R96). -/
def Hub.axisDue (h : Hub) (p : Port) (x : AxisId) : Bool :=
  (h.ax p x).moving && reachedFrom h.time (h.ax p x).startTime (h.ax p x).deadline

/-- A deadline taken (R96). -/
def Hub.axisTimeout (h : Hub) (p : Port) (x : AxisId) : Hub :=
  ((h.modAxis p x fun a => a.lost .timeout).flag p fLensFault).reportIdle p

/-- LENS_DEADLINE (R96). -/
def execLensDeadline (p : Port) (x : AxisId) (s : State) : Result :=
  s.when (s.hub.axisDue p x) fun h => h.axisTimeout p x

/-! ## Focus tables -/

/-- Distances rise strictly from each point to the next (R100). -/
def distancesRise : List (Nat × Nat) → Bool
  | (d, _) :: (d', f') :: rest => decide (d < d') && distancesRise ((d', f') :: rest)
  | _ => true

/-- The points of a list meet check 4 of R100. -/
def pointsFit (max : Nat) (points : List (Nat × Nat)) : Bool :=
  (points.all fun q => within 1 65535 q.1 && decide (q.2 ≤ max)) && distancesRise points

/-- The number of stops loaded (R100). -/
def PortLens.loadedStops (l : PortLens) : Nat := (l.stops.toList.filter Option.isSome).length

/-- FOCUS_TABLE_LOAD at its owner (R100). -/
def Hub.focusTableLoad (h : Hub) (p : Port) (stop zoom : Nat) (points : List (Nat × Nat)) : Hub × Reply :=
  match asFin 4 stop with
  | none => (h, refuse .range)
  | some n =>
    if points.length = 1 ∨ 16 < points.length then (h, refuse .range)
    else if 2 ≤ points.length ∧ !(h.ln p).focus.present then (h, refuse .noTable)
    else if !pointsFit (h.ln p).focus.max points then (h, refuse .range)
    else
      let h' := h.modLens p fun l =>
        { l with
          stops := vset l.stops n (if points.isEmpty then none else some { zoom := zoom, points := points }) }
      (h', okWith (u8 stop ++ u8 points.length ++ u8 (h'.ln p).loadedStops))

/-- FOCUS_TABLE_LOAD (R100). -/
def execFocusTableLoad (r : ReqHeader) (stop zoom : Nat) (points : List (Nat × Nat)) (s : State) : Result :=
  s.take .focusTableLoad r (u8 stop ++ u16 zoom ++ counted pointBytes points)
    (forPort fun p h => h.focusTableLoad p stop zoom points)

/-- The focus of a distance on a chosen stop: the target, and whether R102 clamped it. -/
def focusTarget (d max : Nat) (st : FocusStop) : Nat × Bool :=
  let f := focusOn d st.points
  (clampFocus f max, decide ((clampFocus f max : Int) ≠ f))

/-- The status of a LENS_FOCUS_DISTANCE whose stop was chosen (R103): CLAMPED where the focus was clamped and the
move was carried out (log entry 25). -/
def focusStatus (clamped : Bool) (moved : Status) : Status := if clamped && carriedOut moved then .clamped else moved

/-- LENS_FOCUS_DISTANCE at its owner (R103). -/
def Hub.lensFocusDistance (h : Hub) (p : Port) (d : Nat) : Hub × Reply :=
  let l := h.ln p
  if !within 1 65535 d then (h, refuse .range)
  else if !l.focus.present then (h, refuse .noTable)
  else if l.focus.motion = .homing ∨ (l.focus.motion = .idle ∧ l.focus.position.isNone) then (h, refuse .noPosition)
  else
    match l.zoomReference with
    | none => (h, refuse .noPosition)
    | some ref =>
      match l.chooseStop ref with
      | none => (h, refuse .noTable)
      | some (n, st) =>
        let target := focusTarget d l.focus.max st
        let moved := h.moveAxis p .focus target.1
        (moved.1, { status := focusStatus target.2 moved.2, results := u8 n ++ u16 target.1 })

/-- LENS_FOCUS_DISTANCE (R103). -/
def execLensFocusDistance (r : ReqHeader) (d : Nat) (s : State) : Result :=
  s.take .lensFocusDistance r (u16 d) (forPort fun p h => h.lensFocusDistance p d)

/-! ## LENS_READ -/

/-- A lens axis block (Table 11-9). -/
def axisBytes (a : Axis) : List Byte :=
  axisProfileBytes a ++ optional 2 u16 a.position ++ motionCode a.motion ++ yesNo a.fromHoming ++
    u16 a.target ++ u16 a.start ++ w32 a.startTime ++ w32 a.deadline ++ u8 a.pending ++ outcomeCode a.outcome

/-- A focus stop: presence, zoom position, points. An unloaded stop sends zeros for the zoom position and for the count
of its points, and no points (DESIGN CHOICE, log entry 26). -/
def stopBytes : Option FocusStop → List Byte
  | none => u8 0 ++ u16 0 ++ u8 0
  | some st => u8 1 ++ u16 st.zoom ++ counted pointBytes st.points

/-- What LENS_READ returns of a port (R104). -/
def Hub.lensBytes (h : Hub) (p : Port) : List Byte :=
  let l := h.ln p
  (allAxes.flatMap fun x => axisBytes (l.axis x)) ++ yesNo (h.pw p).allowanceHeld ++
    l.stops.toList.flatMap stopBytes ++ w32 l.lateReports ++ w32 l.ignoredReports

/-- LENS_READ (R104). -/
def execLensRead (r : ReqHeader) (s : State) : Result :=
  s.take .lensRead r [] (forPort fun p h => (h, okWith (h.lensBytes p)))

end Sys2Proof.Machine
end

