-- ==== Sys2Proof/Machine/LinkCommands.lean ====
section
/-! DEFINITION. The meanings of the Link Controller's events and requests (R15 to R36). -/

namespace Sys2Proof.Machine

/-- TRAINING_ATTEMPT_END (R17, R19): the attempt's 200 ms have passed. -/
def execTrainingAttemptEnd (p : Port) (s : State) : Result :=
  s.when (decide ((s.hub.lk p).state = .training) && passed s.hub.time (s.hub.lk p).attemptStart 200000) fun h =>
    h.attemptEnd p

/-- LOCK_REPLY (R16, R18): it acts in TRAINING alone. -/
def execLockReply (p : Port) (s : State) : Result :=
  s.when (decide ((s.hub.lk p).state = .training)) fun h => h.lockReply p

/-- LOSS_OF_LOCK (R21): it arises while the link is UP or DEGRADED. -/
def execLossOfLock (p : Port) (s : State) : Result := s.when (s.hub.lk p).established fun h => h.lossOfLock p

/-- ERROR_WINDOW_END (R24, R25): the window's 100 ms have passed. -/
def execErrorWindowEnd (p : Port) (s : State) : Result :=
  s.when ((s.hub.lk p).established && passed s.hub.time (s.hub.lk p).windowStart 100000) fun h => h.windowEnd p

/-- A bad upstream packet on an established link (R16): counted, and one link error. -/
def Hub.badPacket (h : Hub) (p : Port) : Hub :=
  (h.modLink p fun l => { l with crcErrors := l.crcErrors + 1 }).linkError p

/-- BAD_UPSTREAM_PACKET (R16, R34): the bytes are no packet of R179. -/
def execBadUpstreamPacket (p : Port) (bytes : List Byte) (s : State) : Result :=
  s.when ((s.hub.lk p).established && (readUp bytes).isNone) fun h => h.badPacket p

/-- ACK (R29): the hub reads bit 0 of the sequence byte (R179). -/
def execAck (p : Port) (sequence : Nat) (s : State) : Result :=
  s.when (s.hub.lk p).established fun h => h.ackTaken p (decide (sequence % 2 = 1))

/-- The acknowledgement wait of the command in flight has run its 2 ms (R28, R30). -/
def Hub.waitDue (h : Hub) (p : Port) : Bool :=
  match (h.lk p).ackWait with
  | some start => passed h.time start 2000
  | none => false

/-- The wait ends (R30, R31): it acts at once, or when the message being sent ends. -/
def Hub.waitEnds (h : Hub) (p : Port) : Hub :=
  (h.modLink p fun l => { l with ackWait := none, waitEnded := true }).boundary p

/-- ACK_WAIT_END (R30). -/
def execAckWaitEnd (p : Port) (s : State) : Result := s.when (s.hub.waitDue p) fun h => h.waitEnds p

/-- A message is being sent on a port's downstream channel. -/
def LinkCtl.sending (l : LinkCtl) : Bool :=
  match l.channel with
  | .command _ | .trigger _ => true
  | .idle | .training _ => false

/-- DOWNSTREAM_MESSAGE_SENT (R28, R31). -/
def execDownstreamMessageSent (p : Port) (s : State) : Result :=
  s.when (s.hub.lk p).sending fun h => h.messageSent p

/-! ## Requests -/

/-- LINK_SET at its owner (R26). -/
def Hub.linkSet (h : Hub) (p : Port) (degrade drop : Nat) : Hub × Reply :=
  if within 1 255 degrade && within 1 15 drop then
    (h.modLink p fun l => { l with degradeAt := degrade, dropAt := drop }, okWith (u8 degrade ++ u8 drop))
  else (h, refuse .range)

/-- LINK_SET (R26). -/
def execLinkSet (r : ReqHeader) (degrade drop : Nat) (s : State) : Result :=
  s.take .linkSet r (u8 degrade ++ u8 drop) (forPort fun p h => h.linkSet p degrade drop)

/-- LINK_TEST at its owner (R32). -/
def Hub.linkTest (h : Hub) (p : Port) (count : Nat) : Hub × Reply :=
  if !within 1 15 count then (h, refuse .range)
  else if !(h.lk p).established then (h, refuse .linkDown)
  else (h.modLink p fun l => { l with testCount := count }, okWith (u8 count))

/-- LINK_TEST (R32). -/
def execLinkTest (r : ReqHeader) (count : Nat) (s : State) : Result :=
  s.take .linkTest r (u8 count) (forPort fun p h => h.linkTest p count)

/-- A drop record as DROP_HISTORY_READ returns it (Table 11-7). -/
def dropRecordBytes (d : DropRecord) : List Byte :=
  w32 d.time ++ u8 (if d.degraded then 1 else 0) ++ dropCauseCode d.cause ++ u16 d.windowErrors ++
    optional 2 u16 d.frame ++ w32 d.encoder

/-- What DROP_HISTORY_READ returns of a port (R36). -/
def LinkCtl.historyBytes (l : LinkCtl) : List Byte :=
  counted dropRecordBytes l.history ++ linkCode l.state ++ noteCode l.note ++ u16 l.windowErrors ++
    w32 l.windowStart ++ u8 l.degradeAt ++ u8 l.dropAt ++ w32 l.drops ++ u8 l.testCount ++
    u8 l.queue.length ++ u8 l.sendCount ++
    w32 l.crcErrors ++ w32 l.ignoredLines ++ w32 l.ignoredPackets ++ w32 l.resends ++ w32 l.noAcks ++
    w32 l.strayAcks

/-- DROP_HISTORY_READ (R36). -/
def execDropHistoryRead (r : ReqHeader) (s : State) : Result :=
  s.take .dropHistoryRead r [] (forPort fun p h => (h, okWith (h.lk p).historyBytes))

end Sys2Proof.Machine
end

