-- ==== Sys2Proof/Machine/ManagementCommands.lean ====
section
/-! DEFINITION. The meanings of the Management Unit's commands (R6, R13, R168 to R176). -/

namespace Sys2Proof.Machine

/-! ## BAD_REQUEST -/

/-- The code bytes of a packet that need not hold them: a missing byte is free (log entry 16). -/
def Hub.codeBytes (h : Hub) (pkt : Packet) : List Byte :=
  [pkt.payload.getD 0 (Config.missingCodeByte (2 * h.freeCount)),
   pkt.payload.getD 1 (Config.missingCodeByte (2 * h.freeCount + 1))]

/-- The head request, where it may be taken and fails check 1 or 2 (R169). -/
def Hub.badHead (h : Hub) : Option Packet :=
  match h.mgmt.requests with
  | pkt :: _ => if h.mayTake && (requestOf pkt).isNone then some pkt else none
  | [] => none

/-- A bad request refused; a free value that was used is not used again. -/
def Hub.refuseBad (h : Hub) (pkt : Packet) : Hub :=
  let h' := if pkt.payload.length < 2 then { h with freeCount := h.freeCount + 1 } else h
  h'.takeHead pkt (h.codeBytes pkt) fun h => (h, some (refuse .badRequest))

/-- BAD_REQUEST (R169). -/
def execBadRequest (s : State) : Result :=
  match s.hub.badHead with
  | some pkt => .next (s.event fun h => h.refuseBad pkt)
  | none => .next s

/-- ANSWERED_SLOT_REPLY_OFFER (R171): a place has become free, or the trunk is DOWN. -/
def execAnsweredSlotReplyOffer (s : State) : Result :=
  s.when (!s.hub.mgmt.answered.isEmpty && (!s.hub.trunk.up || s.hub.replyRoom)) Hub.offerAnswered

/-! ## Identity, time and reset -/

/-- Table 10-6, in its order. -/
def capacities : List Nat := [8, 4, 2, 16, 4, 4096, 8, 8, 16, 16, 32, 4]

/-- The results of IDENTIFY (R175, R180): part code >0C08, revision 1, the capacities. -/
def identity : List Byte := u16 0x0C08 ++ u8 1 ++ capacities.flatMap u16

/-- IDENTIFY (R175). -/
def execIdentify (r : ReqHeader) (s : State) : Result :=
  s.take .identify r [] (forHub fun h => (h, okWith identity))

/-- TIME_READ (R175). -/
def execTimeRead (r : ReqHeader) (s : State) : Result :=
  s.take .timeRead r [] (forHub fun h => (h, okWith (w32 h.time)))

/-- PART_RESET at its owner (R176): the taking state becomes RESETTING; the reset follows its reply. -/
def Hub.partReset (h : Hub) : Hub × Reply := (h.modMgmt fun m => { m with taking := .resetting }, okWith [])

/-- PART_RESET (R176). -/
def execPartReset (r : ReqHeader) (s : State) : Result := s.take .partReset r [] (forHub Hub.partReset)

/-! ## Events -/

/-- The hub time and the three counts that every READ_EVENTS reply carries (R173). -/
def Hub.eventCounts (h : Hub) : List Byte :=
  w32 h.time ++ w32 h.mgmt.overflow ++ w32 h.mgmt.lateReplies ++ w32 h.mgmt.unsent

/-- READ_EVENTS at its owner (R173): the flags it returns are cleared. -/
def Hub.readEvents (h : Hub) : Option Port → Hub × Reply
  | none =>
    (h.modMgmt fun m => { m with partFlags := 0, portFlags := Vector.replicate 8 0 },
      okWith (u16 h.mgmt.partFlags.toNat ++ (allPorts.flatMap fun p => u16 (vget h.mgmt.portFlags p).toNat) ++
        h.eventCounts))
  | some p =>
    (h.modMgmt fun m => { m with portFlags := vset m.portFlags p 0 },
      okWith (u16 (vget h.mgmt.portFlags p).toNat ++ h.eventCounts))

/-- READ_EVENTS (R173). -/
def execReadEvents (r : ReqHeader) (s : State) : Result :=
  s.take .readEvents r [] (forEither fun p h => h.readEvents p)

/-- NOTICE_SET at its owner (R174). Every bit of the mask stands for a kind. -/
def Hub.noticeSet (h : Hub) (kinds : Nat) : Hub × Reply :=
  if 65536 ≤ kinds then (h, refuse .range)
  else (h.modMgmt fun m => { m with enables := BitVec.ofNat 16 kinds }, okWith (u16 kinds))

/-- NOTICE_SET (R174). -/
def execNoticeSet (r : ReqHeader) (kinds : Nat) (s : State) : Result :=
  s.take .noticeSet r (u16 kinds) (forHub fun h => h.noticeSet kinds)

/-! ## Isolation and the Port Record -/

/-- The three isolation values of a port (R8). -/
def Hub.isolationBytes (h : Hub) (p : Port) : List Byte :=
  yesNo (vget h.requestedIso p) ++ yesNo (h.cb p).faultIsolation ++ yesNo (h.effectiveIso p)

/-- Requested isolation set or cleared (R4, R7, R9): a rise reaches the Power Controller; a fall changes no
power state (R10). -/
def Hub.setRequestedIso (h : Hub) (p : Port) (on : Bool) : Hub :=
  let h' := { h with requestedIso := vset h.requestedIso p on }
  if on && !h.effectiveIso p then h'.isolationRise p else h'

/-- ISOLATE at its owner (R6): SET is 0, CLEAR is 1 (R177). -/
def Hub.isolate (h : Hub) (p : Port) (action : Nat) : Hub × Reply :=
  match action with
  | 0 =>
    let h' := h.setRequestedIso p true
    (h', okWith (h'.isolationBytes p ++ powerCode (h'.pw p).state))
  | 1 =>
    let h' := h.setRequestedIso p false
    (h', okWith (h'.isolationBytes p ++ powerCode (h'.pw p).state))
  | _ => (h, refuse .range)

/-- ISOLATE (R6). -/
def execIsolate (r : ReqHeader) (action : Nat) (s : State) : Result :=
  s.take .isolate r (u8 action) (forPort fun p h => h.isolate p action)

/-- An axis as PORT_READ carries it: position and motion. -/
def axisStateBytes (a : Axis) : List Byte := optional 2 u16 a.position ++ motionCode a.motion

/-- The Port Record as PORT_READ returns it (R13, R180). -/
def Hub.portBytes (h : Hub) (p : Port) : List Byte :=
  let q := h.pw p
  let c := h.cb p
  powerCode q.state ++ causeCode q.cause ++ u16 q.grant ++ u16 q.limit ++ u8 q.priority ++ u16 q.allowance ++
    counted w32 q.trips ++ u8 (autoFlagsMask c) ++ linkCode (h.lk p).state ++ sweepStatusCode c.sweepStatus ++
    optional 1 (fun v : Fin 16 => u8 v.val) (vget h.view.bindings p).view ++
    u16 (h.fr p).ringStart ++ u16 (h.fr p).ringLength ++ handCode (h.tg p).hand ++ u8 (vget h.trunk.bursts p) ++
    h.isolationBytes p ++
    axisStateBytes (h.ln p).focus ++ axisStateBytes (h.ln p).zoom ++ axisStateBytes (h.ln p).iris ++
    u8 c.type.val ++ u32 c.length ++ u16 c.tolerance ++ u16 c.offset ++ w32 (h.lk p).drops

/-- PORT_READ (R13). -/
def execPortRead (r : ReqHeader) (s : State) : Result :=
  s.take .portRead r [] (forPort fun p h => (h, okWith (h.portBytes p)))

/-! ## Pass-through requests (R170, R171) -/

/-- A pass-through request at its owner (R170): the word count, a free slot, the camera command queue. -/
def Hub.passThrough (h : Hub) (p : Port) (tag : BitVec 16) (kind : PassKind) (count : Nat)
    (mk : SlotNo → BitVec 8 → Command) : Hub × Option Reply :=
  if !within 1 16 count then (h, some (refuse .range))
  else
    match h.freeSlot with
    | none => (h, some (refuse .busy))
    | some slot =>
      match h.commandRefusal p with
      | some e => (h, some (refuse e))
      | none =>
        ((h.queueCommand p true (mk slot)).setSlot slot
          (.waiting tag p kind (h.lk p).nextAttr (after h.time 100000)), none)

/-- A pass-through request for a port; any other target is refused BAD_TARGET at once. -/
def passFor (owner : Port → Hub → Hub × Option Reply) (target : Byte) (h : Hub) : Hub × Option Reply :=
  match targetPort target with
  | some p => owner p h
  | none => (h, some (refuse .badTarget))

/-- ATTR_READ (R170). -/
def execAttrRead (r : ReqHeader) (address count : Nat) (s : State) : Result :=
  s.takeLater .attrRead r (u16 address ++ u8 count)
    (passFor fun p h => h.passThrough p (BitVec.ofNat 16 r.tag) .read count fun slot attr =>
      .attrRead slot attr address count)

/-- ATTR_WRITE (R170). -/
def execAttrWrite (r : ReqHeader) (address : Nat) (words : List Nat) (s : State) : Result :=
  s.takeLater .attrWrite r (u16 address ++ counted u16 words)
    (passFor fun p h => h.passThrough p (BitVec.ofNat 16 r.tag) .write words.length fun slot attr =>
      .attrWrite slot attr address words)

/-- The slot is WAITING and hub time has reached its deadline (R171). -/
def Hub.slotDue (h : Hub) (slot : SlotNo) : Bool :=
  match vget h.mgmt.slots slot with
  | .waiting _ _ _ _ deadline => reached h.time deadline 100000
  | _ => false

/-- PASS_THROUGH_TIMEOUT (R171): the slot's deadline. -/
def execPassThroughTimeout (slot : SlotNo) (s : State) : Result :=
  s.when (s.hub.slotDue slot) fun h => h.answerSlot slot .timeout []

/-- ATTR_REPLY (R35, R171), taken while the link is UP or DEGRADED (R16). -/
def execAttrReply (p : Port) (attr status : Nat) (words : List Nat) (s : State) : Result :=
  s.when (s.hub.lk p).established fun h => h.attrReply p (BitVec.ofNat 8 attr) status words

end Sys2Proof.Machine
end

