-- ==== Sys2Proof/Machine/PowerCommands.lean ====
section
/-! DEFINITION. The meanings of the Power Controller's requests and events (R37 to R59). -/

namespace Sys2Proof.Machine

/-! ## Requests -/

/-- BUDGET_SET at its owner (R40): clamped to 200,000 mW, then ports shed until the granted total fits. -/
def Hub.budgetSet (h : Hub) (budget : Nat) : Hub × Reply :=
  let taken := Nat.min budget 200000
  let shed := Hub.shedToFit 8 (h.modCell fun c => { c with budget := taken })
  (shed.1,
    { status := if 200000 < budget then .clamped else .ok
      results :=
        u32 taken ++ u32 shed.1.grantedTotal ++ counted (fun p : Port => u8 p.val) shed.2 ++
          u16 shed.1.cell.supplySample ++ supplyCode shed.1.cell.monitor })

/-- BUDGET_SET (R40). -/
def execBudgetSet (r : ReqHeader) (budget : Nat) (s : State) : Result :=
  s.take .budgetSet r (u32 budget) (forHub fun h => h.budgetSet budget)

/-- PORT_POWER_SET at its owner (R43). -/
def Hub.portPowerSet (h : Hub) (p : Port) (grant limit priority allowance : Nat) : Hub × Reply :=
  if !(within 1000 25000 grant && within 100 1200 limit && within 0 7 priority && within 0 10000 allowance) then
    (h, refuse .range)
  else if (h.pw p).powered then (h, refuse .powered)
  else
    (h.modPower p fun q => { q with grant := grant, limit := limit, priority := priority, allowance := allowance },
      okWith (u16 grant ++ u16 limit ++ u8 priority ++ u16 allowance))

/-- PORT_POWER_SET (R43). -/
def execPortPowerSet (r : ReqHeader) (grant limit priority allowance : Nat) (s : State) : Result :=
  s.take .portPowerSet r (u16 grant ++ u16 limit ++ u8 priority ++ u16 allowance)
    (forPort fun p h => h.portPowerSet p grant limit priority allowance)

/-- The status of a POWER_ON (R44), by the first check that fails. -/
def Hub.powerOnStatus (h : Hub) (p : Port) : Status :=
  if h.effectiveIso p then .isolated
  else if (h.cb p).sweepStatus ≠ .idle then .sweeping
  else if (h.pw p).state = .locked then .locked
  else if (h.pw p).powered then .ok
  else if h.grantFits p then .ok
  else .noBudget

/-- POWER_ON at its owner (R44): every reply carries the power state, the off cause and the granted total. -/
def Hub.powerOn (h : Hub) (p : Port) : Hub × Reply :=
  let status := h.powerOnStatus p
  let h' := if status = .ok ∧ ¬ (h.pw p).powered then h.enterDetecting p else h
  (h',
    { status := status
      results := powerCode (h'.pw p).state ++ causeCode (h'.pw p).cause ++ u32 h'.grantedTotal })

/-- POWER_ON (R44). -/
def execPowerOn (r : ReqHeader) (s : State) : Result := s.take .powerOn r [] (forPort fun p h => h.powerOn p)

/-- POWER_OFF (R54). -/
def execPowerOff (r : ReqHeader) (s : State) : Result :=
  s.take .powerOff r [] (forPort fun p h =>
    (h.powerOff p, okWith (powerCode .off ++ causeCode .requested)))

/-! ## Events -/

/-- The port is in a state whose phase end is reached (R45, R46). -/
def Hub.phaseOver (h : Hub) (p : Port) (state : PowerState) (duration : Nat) : Bool :=
  decide ((h.pw p).state = state) && reached h.time (h.pw p).phaseEnd duration

/-- DETECTION_END (R45): the phase end, with the measured load in milliohm. -/
def execDetectionEnd (p : Port) (load : Nat) (s : State) : Result :=
  s.when (s.hub.phaseOver p .detecting 20000) fun h => h.detected p load

/-- An output voltage, in mV, is at least 90% of the supply sample (R46). -/
def Hub.outputReaches (h : Hub) (output : Nat) : Bool := decide (h.cell.supplySample * 9 ≤ output * 10)

/-- RAMP_OUTPUT_REACHED (R46). -/
def execRampOutputReached (p : Port) (output : Nat) (s : State) : Result :=
  s.when (decide ((s.hub.pw p).state = .ramping) && s.hub.outputReaches output) fun h => h.rampReached p

/-- RAMP_FAIL (R46, R48): the phase end passes with the output below 90%. -/
def execRampFail (p : Port) (output : Nat) (s : State) : Result :=
  s.when (s.hub.phaseOver p .ramping 10000 && !s.hub.outputReaches output) fun h => h.trip p .rampFail

/-- The port is ON and its current is above twice the limit (R47). -/
def Hub.shorted (h : Hub) (p : Port) (current : Nat) : Bool :=
  decide ((h.pw p).state = .on) && decide (2 * (h.pw p).limit < current)

/-- A current that a row reports (R47). Above twice the limit it is a trip with cause HARD_SHORT, taken at once,
whatever overcurrent since holds and whichever row reports it (log entry 32); any other current is the row's own
matter. -/
def State.senseCurrent (s : State) (p : Port) (current : Nat) (own : Hub → Bool) (act : Hub → Hub) : Result :=
  s.when (s.hub.shorted p current || own s.hub) fun h => if h.shorted p current then h.trip p .hardShort else act h

/-- OVERCURRENT_RISE (R47): an excursion begins; one that has begun keeps its start. -/
def execOvercurrentRise (p : Port) (current : Nat) (s : State) : Result :=
  s.senseCurrent p current
    (fun h =>
      decide ((h.pw p).state = .on) && decide ((h.pw p).limit < current) && (h.pw p).overSince.isNone)
    fun h => h.modPower p fun q => { q with overSince := some h.time }

/-- OVERCURRENT_FALL (R47): the excursion is over. -/
def execOvercurrentFall (p : Port) (current : Nat) (s : State) : Result :=
  s.senseCurrent p current (fun h => decide ((h.pw p).state = .on) && decide (current ≤ (h.pw p).limit))
    fun h => h.modPower p fun q => { q with overSince := none }

/-- The excursion of a port that is ON has lasted 2 ms (R47). -/
def Hub.excursionDue (h : Hub) (p : Port) : Bool :=
  decide ((h.pw p).state = .on) &&
    (match (h.pw p).overSince with
      | some t => passed h.time t 2000
      | none => false)

/-- TRIP (R47, R48): 2 ms with the current still above the limit. -/
def execTrip (p : Port) (current : Nat) (s : State) : Result :=
  s.senseCurrent p current (fun h => h.excursionDue p && decide ((h.pw p).limit < current)) fun h => h.trip p .trip

/-- HARD_SHORT (R47, R48): the current is above twice the limit. -/
def execHardShort (p : Port) (current : Nat) (s : State) : Result :=
  s.senseCurrent p current (fun _ => false) id

/-- A COOLDOWN whose end is reached and whose retry is not postponed (R51). -/
def Hub.cooldownDue (h : Hub) (p : Port) : Bool :=
  decide ((h.pw p).state = .cooldown) && !(h.pw p).postponed && reached h.time (h.pw p).cooldownEnd 500000

/-- COOLDOWN_END (R51). -/
def execCooldownEnd (p : Port) (s : State) : Result := s.when (s.hub.cooldownDue p) fun h => h.cooldownOver p

/-- SUPPLY_SAMPLE (R57, R58): one measurement, in mV. -/
def execSupplySample (millivolt : Nat) (s : State) : Result := .next (s.event fun h => h.supplySample millivolt)

end Sys2Proof.Machine
end

