-- ==== Sys2Proof/Machine/TriggerCommands.lean ====
section
/-! DEFINITION. The meanings of the encoder's, the trigger lines' and the trigger tables' commands (R105 to R121). -/

namespace Sys2Proof.Machine

/-! ## Events -/

/-- ENCODER_STEP (R105, R111): the new levels of inputs A and B. -/
def execEncoderStep (a b : Bool) (s : State) : Result := .next (s.event fun h => h.encoderStep a b)

/-- An OUTSTANDING trigger whose deadline is reached (R118). -/
def Hub.triggerDue (h : Hub) (p : Port) : Bool :=
  match (h.tg p).hand with
  | .outstanding _ _ _ sent deadline => reachedFrom h.time sent deadline
  | _ => false

/-- A trigger timed out (R118). -/
def Hub.triggerTimeout (h : Hub) (p : Port) : Hub :=
  (h.modTrig p fun t => { t with hand := .none, timedOut := t.timedOut + 1 }).flag p fTrigLost

/-- TRIGGER_TIMEOUT (R118). -/
def execTriggerTimeout (p : Port) (s : State) : Result := s.when (s.hub.triggerDue p) fun h => h.triggerTimeout p

/-- A trigger line. -/
def Hub.line (h : Hub) (l : LineNo) : TriggerLine := vget h.lines l

/-- A rise of a line's input (R107). -/
def TriggerLine.rise (t : TriggerLine) (now : HubTime) : TriggerLine :=
  { t with
    input := true
    filtering := if t.filtering.isNone && !t.level then some (now, t.filter) else t.filtering }

/-- TRIGGER_LINE_RISE (R107). -/
def execTriggerLineRise (l : LineNo) (s : State) : Result :=
  s.when (!(s.hub.line l).input) fun h => h.modLine l fun t => t.rise h.time

/-- A fall of a line's input (R107): a glitch while FILTERING, else the level becomes low. -/
def TriggerLine.fall (t : TriggerLine) : TriggerLine :=
  if t.filtering.isSome then { t with input := false, filtering := none, glitches := t.glitches + 1 }
  else { t with input := false, level := false }

/-- TRIGGER_LINE_FALL (R107). -/
def execTriggerLineFall (l : LineNo) (s : State) : Result :=
  s.when (s.hub.line l).input fun h => h.modLine l TriggerLine.fall

/-- A line whose filter time has passed with its input still high (R107). -/
def Hub.filterDue (h : Hub) (l : LineNo) : Bool :=
  match (h.line l).filtering with
  | some (start, time) => (h.line l).input && passed h.time start time
  | none => false

/-- An edge accepted (R107). -/
def TriggerLine.accept (t : TriggerLine) : TriggerLine :=
  { t with level := true, filtering := none, accepted := t.accepted + 1 }

/-- FILTER_TIME_END (R107, R112): the edge is accepted and the line fires. -/
def execFilterTimeEnd (l : LineNo) (s : State) : Result :=
  s.when (s.hub.filterDue l) fun h => (h.modLine l TriggerLine.accept).fireLine l

/-! ## Requests -/

/-- Forget the last fired point of every port (R106). -/
def Hub.forgetPoints (h : Hub) : Hub := { h with trig := h.trig.map fun t => { t with lastFired := none } }

/-- ENCODER_SET at its owner (R106). -/
def Hub.encoderSet (h : Hub) (value : Nat) : Hub × Reply :=
  let c := BitVec.ofNat 32 value
  ({ h.forgetPoints with encoder := { h.encoder with counter := c } }, okWith (w32 c))

/-- ENCODER_SET (R106). -/
def execEncoderSet (r : ReqHeader) (value : Nat) (s : State) : Result :=
  s.take .encoderSet r (u32 value) (forHub fun h => h.encoderSet value)

/-- TRIGGER_LINE_SET at its owner (R108). -/
def Hub.triggerLineSet (h : Hub) (line filter : Nat) : Hub × Reply :=
  match asFin 4 line with
  | none => (h, refuse .range)
  | some l =>
    if !within 1 255 filter then (h, refuse .range)
    else
      let t := h.line l
      (h.modLine l fun t => { t with filter := filter },
        okWith (u8 line ++ u8 filter ++ yesNo t.level ++ w32 t.accepted ++ w32 t.glitches))

/-- TRIGGER_LINE_SET (R108). -/
def execTriggerLineSet (r : ReqHeader) (line filter : Nat) (s : State) : Result :=
  s.take .triggerLineSet r (u8 line ++ u8 filter) (forHub fun h => h.triggerLineSet line filter)

/-- The six values of a trigger table as replies carry them (Table 6-1). -/
def PortTrigger.tableBytes (t : PortTrigger) : List Byte :=
  sourceCode t.source ++ u32 t.pitch ++ u32 t.phase ++ directionCode t.direction ++ policyCode t.policy ++ u16 t.timeout

/-- TRIGGER_SET at its owner (R110). -/
def Hub.triggerSet (h : Hub) (p : Port) (source pitch phase direction policy timeout : Nat) : Hub × Reply :=
  match readSource source, readDirection direction, readPolicy policy with
  | some src, some dir, some pol =>
    if within 1 16777216 pitch && decide (phase < pitch) && within 1 2000 timeout then
      let h' := h.modTrig p fun t =>
        { t with
          source := src, pitch := pitch, phase := phase, direction := dir, policy := pol, timeout := timeout
          lastFired := none }
      (h', okWith (h'.tg p).tableBytes)
    else (h, refuse .range)
  | _, _, _ => (h, refuse .range)

/-- TRIGGER_SET (R110). -/
def execTriggerSet (r : ReqHeader) (source pitch phase direction policy timeout : Nat) (s : State) : Result :=
  s.take .triggerSet r (u8 source ++ u32 pitch ++ u32 phase ++ u8 direction ++ u8 policy ++ u16 timeout)
    (forPort fun p h => h.triggerSet p source pitch phase direction policy timeout)

/-- The outcome of one soft trigger: SENT 0 with its id, DEFERRED 1, LOST_LINK 2, LOST_OVERTRIGGER 3. -/
def fireOutcomeBytes : FireOutcome → List Byte
  | .sent id => u8 0 ++ u8 1 ++ [id]
  | .deferred => u8 1 ++ u8 0 ++ u8 0
  | .lostLink => u8 2 ++ u8 0 ++ u8 0
  | .lostOver => u8 3 ++ u8 0 ++ u8 0

/-- The ports that a mask names, in rising order. -/
def maskPorts (mask : Nat) : List Port := allPorts.filter fun p => mask.testBit p.val

/-- A trigger fired on each of a list of ports (R113), in the order of the list: maskPorts gives rising port number,
where R113 needs no order among the ports (DESIGN CHOICE, log entry 33). -/
def Hub.fireAll (h : Hub) : List Port → Hub × List FireOutcome
  | [] => (h, [])
  | p :: rest =>
    let fired := h.fire p
    let others := fired.1.fireAll rest
    (others.1, fired.2 :: others.2)

/-- TRIGGER_SOFT at its owner (R113). -/
def Hub.triggerSoft (h : Hub) (mask : Nat) : Hub × Reply :=
  let ports := maskPorts mask
  if ports.isEmpty then (h, refuse .range)
  else
    let fired := h.fireAll ports
    (fired.1, okWith (counted fireOutcomeBytes fired.2))

/-- TRIGGER_SOFT (R113). -/
def execTriggerSoft (r : ReqHeader) (mask : Nat) (s : State) : Result :=
  s.take .triggerSoft r (u8 mask) (forHub fun h => h.triggerSoft mask)

/-- A trigger line as TRIGGER_READ returns it (R121). Its filter phase is one byte, IDLE 0 or FILTERING 1, without the
start time that FILTERING holds (DESIGN CHOICE, log entry 26). -/
def lineBytesOf (t : TriggerLine) : List Byte :=
  u8 t.filter ++ yesNo t.level ++ yesNo t.filtering.isSome ++ w32 t.accepted ++ w32 t.glitches

/-- The trigger record as TRIGGER_READ returns it: position and fired time; id, mark, sent time and deadline. -/
def handBytes : Hand → List Byte
  | .none => u8 0 ++ List.replicate 8 0 ++ u8 0 ++ List.replicate 10 0
  | .deferred f => u8 1 ++ w32 f.encoder ++ w32 f.time ++ u8 0 ++ List.replicate 10 0
  | .outstanding f id moving sent deadline =>
    u8 1 ++ w32 f.encoder ++ w32 f.time ++ u8 1 ++ [id] ++ yesNo moving ++ w32 sent ++ w32 deadline

/-- TRIGGER_READ's results (R121). -/
def Hub.triggerBytes (h : Hub) : Option Port → List Byte
  | none =>
    w32 h.encoder.counter ++ w32 h.encoder.errors ++ h.lines.toList.flatMap lineBytesOf
  | some p =>
    let t := h.tg p
    t.tableBytes ++ optional 4 w32 t.lastFired ++ handCode t.hand ++ handBytes t.hand ++ [t.nextId] ++
      w32 t.requested ++ w32 t.issued ++ w32 t.matched ++ w32 t.timedOut ++ w32 t.aborted ++ w32 t.lostLink ++
      w32 t.lostOver ++ w32 h.encoder.counter

/-- TRIGGER_READ (R121). -/
def execTriggerRead (r : ReqHeader) (s : State) : Result :=
  s.take .triggerRead r [] (forEither fun p h => (h, okWith (h.triggerBytes p)))

end Sys2Proof.Machine
end

