-- ==== Sys2Proof/Machine/TrunkCommands.lean ====
section
/-! DEFINITION. The meanings of the resets, the trunk's events and EGRESS_SET (R2, R155 to R165). -/

namespace Sys2Proof.Machine

/-- COLD_RESET (R2): every unit at its cold-reset values. -/
def execColdReset (s : State) : Result := .next (s.event Hub.coldReset)

/-- TRUNK_UP (R156, R165). -/
def execTrunkUp (s : State) : Result := s.when (!s.hub.trunk.up) fun h => h.trunkReturns s.dram

/-- TRUNK_LOSS (R164). -/
def execTrunkLoss (s : State) : Result := s.when s.hub.trunk.up fun h => h.trunkLost s.dram

/-- A packet at the request queue (R168). -/
def Hub.arrive (h : Hub) (pkt : Packet) : Hub :=
  if h.mgmt.requests.length < 16 then h.modMgmt fun m => { m with requests := m.requests ++ [pkt] }
  else (h.modMgmt fun m => { m with overflow := m.overflow + 1 }).flagPart fReqOverflow

/-- REQUEST_PACKET_RECEIVED (R156, R168): nothing is received while the trunk is DOWN. -/
def execRequestPacketReceived (pkt : Packet) (s : State) : Result := s.when s.hub.trunk.up fun h => h.arrive pkt

/-- PACKET_SEND_END (R159, R162, R176): the send under way ends. -/
def execPacketSendEnd (s : State) : Result := s.when s.hub.trunk.lane.isSome fun h => h.sendEnd s.dram

/-- IMAGE_QUEUE_TAKES_PACKET (R157): the packet of an item in process is offered. -/
def execImageQueueTakesPacket (p : Port) (s : State) : Result :=
  s.when (decide ((s.hub.pl p).phase ≠ .idle)) fun h => h.pipeAct s.dram p

/-! ## EGRESS_SET (R163) -/

/-- One queue's part of the reply: group, burst, packets held, occupancy for an image queue, packets sent. -/
def Hub.queueBytes (h : Hub) (q : QueueNo) : List Byte :=
  groupCode (h.groupOf q) ++ u8 (h.burstOf q) ++ u16 (h.queuePackets q).length ++
    (if (asFin 8 q.val).isSome then u32 (occupancy (h.queuePackets q)) else []) ++ w32 (vget h.trunk.sent q)

/-- The grant in progress as an optional value: queue, burst, packets sent. -/
def grantBytes (g : Option Grant) : List Byte :=
  optional 3 (fun g : Grant => u8 g.queue.val ++ u8 g.burst ++ u8 g.sent) g

/-- The egress state that a reply carries (R163). -/
def Hub.egressBytes (h : Hub) : List Byte :=
  u8 (if h.trunk.up then 1 else 0) ++ w32 h.trunk.losses ++ w32 h.trunk.discarded ++
    u8 h.trunk.lowShare ++ groupCode h.trunk.replyGroup ++ u8 h.trunk.replyBurst ++ u8 h.trunk.highRun ++
    allQueues.flatMap h.queueBytes ++ grantBytes h.trunk.grant

/-- EGRESS_SET at its owner (R163): the form is that of the target. -/
def Hub.egressSet (h : Hub) (settings : EgressParams) : Option Port → Hub × Reply
  | none =>
    match settings with
    | .hub k g b =>
      match readGroup g with
      | some group =>
        if within 1 16 k && within 1 16 b then
          let h' := h.modTrunk fun t => { t with lowShare := k, replyGroup := group, replyBurst := b }
          (h', okWith h'.egressBytes)
        else (h, refuse .range)
      | none => (h, refuse .range)
    | .port _ => (h, refuse .badRequest)
  | some p =>
    match settings with
    | .port b =>
      if within 1 16 b then
        let h' := h.modTrunk fun t => { t with bursts := vset t.bursts p b }
        (h', okWith h'.egressBytes)
      else (h, refuse .range)
    | .hub .. => (h, refuse .badRequest)

/-- EGRESS_SET (R163). -/
def execEgressSet (r : ReqHeader) (settings : EgressParams) (s : State) : Result :=
  s.take .egressSet r (egressParamsBytes settings) (forEither fun p h => h.egressSet settings p)

end Sys2Proof.Machine
end

