-- ==== Sys2Proof/Machine/ViewCommands.lean ====
section
/-! DEFINITION. The meanings of the View Table's and the View Pipelines' requests (R137 to R154). -/

namespace Sys2Proof.Machine

/-! ## Use (R139) -/

/-- All frame records of all ports. -/
def Hub.allRecords (h : Hub) : List FrameRecord := allPorts.flatMap fun p => (h.fr p).table

/-- A frame record holds a view in use: its own, until it is SENT, or one of a pending resend. -/
def FrameRecord.uses (r : FrameRecord) (v : Fin 16) : Bool :=
  (decide (r.view = some v) && decide (r.state ≠ .sent)) || r.resends.contains v

/-- A view is in use (R139). -/
def Hub.viewInUse (h : Hub) (v : Fin 16) : Bool :=
  (allPorts.any fun p => decide ((vget h.view.bindings p).view = some v)) || h.allRecords.any fun r => r.uses v

/-- A view filters through a coefficient table. -/
def View.filtersBy (v : View) (t : Fin 4) : Bool := decide (v.filterH = .table t) || decide (v.filterV = .table t)

/-- All views. -/
def allViews : List (Fin 16) := [0, 1, 2, 3, 4, 5, 6, 7, 8, 9, 10, 11, 12, 13, 14, 15]

/-- A coefficient table is in use (R139). -/
def Hub.tableInUse (h : Hub) (t : Fin 4) : Bool :=
  allViews.any fun v => h.viewInUse v && (vget h.view.views v).filtersBy t

/-! ## VIEW_LOAD -/

/-- The view that the parameters of a load give, where they are in range (R140, checks 2 and 3). -/
def readView (q : ViewParams) : Option View :=
  match readFilter q.filterH, readFilter q.filterV, readDepth q.depth, readGroup q.group with
  | some fh, some fv, some d, some g =>
    let v : View :=
      { valid := true, x0 := q.x0, y0 := q.y0, w := q.w, h := q.h, stepH := q.stepH, stepV := q.stepV
        filterH := fh, filterV := fv, depth := d, interval := Nat.max q.interval 1000, group := g }
    if within 0 4095 q.x0 && within 0 4095 q.y0 && within 1 4096 q.w && within 1 4096 q.h &&
        within 256 8192 q.stepH && within 256 8192 q.stepV && decide (q.x0 + q.w ≤ 4096) &&
        decide (q.y0 + q.h ≤ 4096) && decide (q.interval ≤ 10000000) && decide (v.outW ≤ 4096) &&
        decide (v.outH ≤ 4096) then some v
    else none
  | _, _, _, _ => none

/-- A view record with its output size (R140). -/
def View.bytes (v : View) : List Byte :=
  yesNo v.valid ++ u16 v.x0 ++ u16 v.y0 ++ u16 v.w ++ u16 v.h ++ u16 v.stepH ++ u16 v.stepV ++
    filterCode v.filterH ++ filterCode v.filterV ++ depthCode v.depth ++ u32 v.interval ++ groupCode v.group ++
    u16 v.outW ++ u16 v.outH

/-- A view record replaced. -/
def Hub.setView (h : Hub) (n : Fin 16) (v : View) : Hub := h.modView fun t => { t with views := vset t.views n v }

/-- VIEW_LOAD at its owner (R140). -/
def Hub.viewLoad (h : Hub) (view : Nat) (q : ViewParams) : Hub × Reply :=
  match asFin 16 view, readYesNo q.valid with
  | some n, some true =>
    match readView q with
    | none => (h, refuse .range)
    | some v =>
      if h.viewInUse n then (h, refuse .inUse)
      else (h.setView n v, { status := if q.interval < 1000 then .clamped else .ok, results := v.bytes })
  | some n, some false =>
    if h.viewInUse n then (h, refuse .inUse)
    else
      let v := { vget h.view.views n with valid := false }
      (h.setView n v, okWith v.bytes)
  | _, _ => (h, refuse .range)

/-- VIEW_LOAD (R140). -/
def execViewLoad (r : ReqHeader) (view : Nat) (q : ViewParams) (s : State) : Result :=
  s.take .viewLoad r (u8 view ++ viewParamsBytes q) (forHub fun h => h.viewLoad view q)

/-! ## Binding (R141, R142) -/

/-- The bandwidth reserved for images, in bytes per second (section 8.2). -/
def imageBandwidth : Nat := 1100000000

/-- A port's binding replaced. -/
def Hub.setBinding (h : Hub) (p : Port) (b : Binding) : Hub :=
  h.modView fun t => { t with bindings := vset t.bindings p b }

/-- VIEW_BIND at its owner (R141). A refusal carries no results, BANDWIDTH included (DESIGN CHOICE, log entry 26). -/
def Hub.viewBind (h : Hub) (p : Port) (view : Nat) : Hub × Reply :=
  match asFin 16 view with
  | none => (h, refuse .range)
  | some n =>
    let v := vget h.view.views n
    if !v.valid then (h, refuse .noView)
    else if imageBandwidth < h.admissionTotal - (vget h.view.bindings p).load + v.load then (h, refuse .bandwidth)
    else
      let h' := h.setBinding p { view := some n, load := v.load }
      (h', okWith (u8 view ++ u32 v.load ++ u32 h'.admissionTotal))

/-- VIEW_BIND (R141). -/
def execViewBind (r : ReqHeader) (view : Nat) (s : State) : Result :=
  s.take .viewBind r (u8 view) (forPort fun p h => h.viewBind p view)

/-- VIEW_UNBIND at its owner (R142). -/
def Hub.viewUnbind (h : Hub) (p : Port) : Hub × Reply :=
  let h' := h.setBinding p { view := none, load := 0 }
  (h', okWith (u32 h'.admissionTotal))

/-- VIEW_UNBIND (R142). -/
def execViewUnbind (r : ReqHeader) (s : State) : Result :=
  s.take .viewUnbind r [] (forPort fun p h => h.viewUnbind p)

/-! ## Coefficient tables (R144, R145) -/

/-- COEF_SELECT at its owner (R144). -/
def Hub.coefSelect (h : Hub) (table : Nat) : Hub × Reply :=
  match asFin 4 table with
  | none => (h, refuse .range)
  | some t =>
    if h.tableInUse t then (h, refuse .inUse)
    else
      (h.modView fun v => { v with selected := t, cursor := 0 },
        okWith (u8 table ++ u8 0 ++ (vget h.view.coefs t).toList))

/-- COEF_SELECT (R144). -/
def execCoefSelect (r : ReqHeader) (table : Nat) (s : State) : Result :=
  s.take .coefSelect r (u8 table) (forHub fun h => h.coefSelect table)

/-- Values written in order from an index on; those beyond index 31 are not written (R145). -/
def writeCoefs (t : CoefTable) (start : Nat) : List Nat → CoefTable
  | [] => t
  | v :: rest =>
    match asFin 32 start with
    | some i => writeCoefs (vset t i (BitVec.ofNat 8 v)) (start + 1) rest
    | none => t

/-- COEF_WRITE at its owner (R145): every byte is a value from -128 to 127. -/
def Hub.coefWrite (h : Hub) (values : List Nat) : Hub × Reply :=
  if !within 1 32 values.length then (h, refuse .range)
  else if h.tableInUse h.view.selected then (h, refuse .inUse)
  else
    let written := Nat.min values.length (32 - h.view.cursor)
    let lost := values.length - written
    let h' := h.modView fun v =>
      { v with
        coefs := vmod v.coefs v.selected fun t => writeCoefs t v.cursor values
        cursor := v.cursor + written
        discards := v.discards + BitVec.ofNat 32 lost }
    (h', okWith (u8 written ++ u8 lost ++ u8 h'.view.cursor ++ w32 h'.view.discards))

/-- COEF_WRITE (R145). -/
def execCoefWrite (r : ReqHeader) (values : List Nat) (s : State) : Result :=
  s.take .coefWrite r (counted u8 values) (forHub fun h => h.coefWrite values)

/-! ## FRAME_RESEND and PIPE_RESET (R152, R153) -/

/-- The resend items of a work list. -/
def Pipeline.resendItems (q : Pipeline) : Nat := (q.work.filter fun item => item.resend.isSome).length

/-- FRAME_RESEND at its owner (R152): an IDLE pipeline takes the item in the event (R147). -/
def Hub.frameResend (h : Hub) (m : Memory) (p : Port) (number view : Nat) : Hub × Reply :=
  match asFin 16 view with
  | none => (h, refuse .range)
  | some v =>
    match (h.fr p).named number with
    | none => (h, refuse .noFrame)
    | some r =>
      if r.state = .filling ∨ r.state = .sending then (h, refuse .busy)
      else if !(vget h.view.views v).valid then (h, refuse .noView)
      else if 2 ≤ r.resends.length ∨ 2 ≤ (h.pl p).resendItems then (h, refuse .limit)
      else
        let h := h.modRecord p r.serial fun r => { r with resends := r.resends ++ [v], retained := false }
        let h := h.modPipe p fun q => { q with work := q.work ++ [{ serial := r.serial, resend := some v }] }
        (h.pipeWake m p, okWith (u8 (h.pl p).work.length))

/-- FRAME_RESEND (R152). -/
def execFrameResend (r : ReqHeader) (number view : Nat) (s : State) : Result :=
  s.take .frameResend r (u16 number ++ u8 view) (forPort fun p h => h.frameResend s.dram p number view)

/-- The item in process, as a list of none or one (R153). -/
def Pipeline.inProcess (q : Pipeline) : List WorkItem := if q.phase = .idle then [] else q.work.take 1

/-- The items that wait (R153). -/
def Pipeline.waitingItems (q : Pipeline) : List WorkItem := if q.phase = .idle then q.work else q.work.drop 1

/-- The waiting LIVE items. -/
def Pipeline.waitingLive (q : Pipeline) : List WorkItem := q.waitingItems.filter fun item => item.resend.isNone

/-- The waiting RESEND items. -/
def Pipeline.waitingResends (q : Pipeline) : List WorkItem := q.waitingItems.filter fun item => item.resend.isSome

/-- Steps 1 to 3 of PIPE_RESET at one record: ABORTED and SENT where its output ended or its live item waited; no
pending resend left (R153). -/
def FrameRecord.aborted (r : FrameRecord) (ended : List WorkItem) : FrameRecord :=
  if ended.any fun item => item.serial = r.serial then
    { r with state := .sent, flags := r.flags ||| flagAborted, resends := [] }
  else { r with resends := [] }

/-- A record that steps 1 to 3 of PIPE_RESET change (R153). -/
def FrameRecord.touched (r : FrameRecord) (ended : List WorkItem) : Bool :=
  (ended.any fun item => item.serial = r.serial) || !r.resends.isEmpty

/-- The frame table after a PIPE_RESET: each changed record is checked for release (R153). -/
def PortFrames.pipeReset (f : PortFrames) (ended : List WorkItem) : PortFrames :=
  { f with
    table := (f.table.filter fun r => !(r.touched ended && (r.aborted ended).releasable)).map fun r => r.aborted ended }

/-- PIPE_RESET at its owner (R153, R157): the reply carries the numbers of items of steps 1, 2 and 3. -/
def Hub.pipeReset (h : Hub) (p : Port) : Hub × Reply :=
  let q := h.pl p
  let h := h.modFrames p fun f => f.pipeReset (q.inProcess ++ q.waitingLive)
  let h := h.modPipe p fun _ => {}
  let h := h.modTrunk fun t =>
    { t with
      discarded := t.discarded + BitVec.ofNat 32 (vget t.images p).length
      images := vset t.images p [] }
  (h, okWith (u8 q.inProcess.length ++ u8 q.waitingLive.length ++ u8 q.waitingResends.length))

/-- PIPE_RESET (R153). -/
def execPipeReset (r : ReqHeader) (s : State) : Result :=
  s.take .pipeReset r [] (forPort fun p h => h.pipeReset p)

end Sys2Proof.Machine
end

