-- ==== Sys2Proof/Machine/Dispatch.lean ====
section
/-! DEFINITION. The meaning of each command: one arm for each row of the opcode table, in the table's order. -/

namespace Sys2Proof.Machine

/-- The effect of a command on everything but the queue of commands. -/
def exec (i : Instr) (s : State) : Host.Outcome State Fault Refusal :=
  match i with
  | .coldReset => Sys2Proof.Machine.execColdReset s
  | .trunkUp => Sys2Proof.Machine.execTrunkUp s
  | .trunkLoss => Sys2Proof.Machine.execTrunkLoss s
  | .requestPacketReceived pkt => Sys2Proof.Machine.execRequestPacketReceived pkt s
  | .badRequest => Sys2Proof.Machine.execBadRequest s
  | .packetSendEnd => Sys2Proof.Machine.execPacketSendEnd s
  | .imageQueueTakesPacket p => Sys2Proof.Machine.execImageQueueTakesPacket p s
  | .answeredSlotReplyOffer => Sys2Proof.Machine.execAnsweredSlotReplyOffer s
  | .identify r => Sys2Proof.Machine.execIdentify r s
  | .timeRead r => Sys2Proof.Machine.execTimeRead r s
  | .partReset r => Sys2Proof.Machine.execPartReset r s
  | .readEvents r => Sys2Proof.Machine.execReadEvents r s
  | .noticeSet r kinds => Sys2Proof.Machine.execNoticeSet r kinds s
  | .isolate r action => Sys2Proof.Machine.execIsolate r action s
  | .portRead r => Sys2Proof.Machine.execPortRead r s
  | .linkSet r degrade drop => Sys2Proof.Machine.execLinkSet r degrade drop s
  | .linkTest r count => Sys2Proof.Machine.execLinkTest r count s
  | .dropHistoryRead r => Sys2Proof.Machine.execDropHistoryRead r s
  | .attrRead r address count => Sys2Proof.Machine.execAttrRead r address count s
  | .attrWrite r address words => Sys2Proof.Machine.execAttrWrite r address words s
  | .passThroughTimeout slot => Sys2Proof.Machine.execPassThroughTimeout slot s
  | .budgetSet r budget => Sys2Proof.Machine.execBudgetSet r budget s
  | .portPowerSet r grant limit priority allowance => Sys2Proof.Machine.execPortPowerSet r grant limit priority allowance s
  | .powerOn r => Sys2Proof.Machine.execPowerOn r s
  | .powerOff r => Sys2Proof.Machine.execPowerOff r s
  | .detectionEnd p load => Sys2Proof.Machine.execDetectionEnd p load s
  | .rampOutputReached p output => Sys2Proof.Machine.execRampOutputReached p output s
  | .rampFail p output => Sys2Proof.Machine.execRampFail p output s
  | .overcurrentRise p current => Sys2Proof.Machine.execOvercurrentRise p current s
  | .overcurrentFall p current => Sys2Proof.Machine.execOvercurrentFall p current s
  | .trip p current => Sys2Proof.Machine.execTrip p current s
  | .hardShort p current => Sys2Proof.Machine.execHardShort p current s
  | .cooldownEnd p => Sys2Proof.Machine.execCooldownEnd p s
  | .supplySample millivolt => Sys2Proof.Machine.execSupplySample millivolt s
  | .trainingAttemptEnd p => Sys2Proof.Machine.execTrainingAttemptEnd p s
  | .lockReply p => Sys2Proof.Machine.execLockReply p s
  | .lossOfLock p => Sys2Proof.Machine.execLossOfLock p s
  | .errorWindowEnd p => Sys2Proof.Machine.execErrorWindowEnd p s
  | .badUpstreamPacket p bytes => Sys2Proof.Machine.execBadUpstreamPacket p bytes s
  | .frameStart p number width height id => Sys2Proof.Machine.execFrameStart p number width height id s
  | .line p number pixels => Sys2Proof.Machine.execLine p number pixels s
  | .frameEnd p linesSent status => Sys2Proof.Machine.execFrameEnd p linesSent status s
  | .fillDeadline p => Sys2Proof.Machine.execFillDeadline p s
  | .ack p sequence => Sys2Proof.Machine.execAck p sequence s
  | .ackWaitEnd p => Sys2Proof.Machine.execAckWaitEnd p s
  | .downstreamMessageSent p => Sys2Proof.Machine.execDownstreamMessageSent p s
  | .attrReply p attr status words => Sys2Proof.Machine.execAttrReply p attr status words s
  | .lensReport p axis position kind => Sys2Proof.Machine.execLensReport p axis position kind s
  | .lensDeadline p axis => Sys2Proof.Machine.execLensDeadline p axis s
  | .lensProfileLoad r focus zoom iris => Sys2Proof.Machine.execLensProfileLoad r focus zoom iris s
  | .lensHome r axis => Sys2Proof.Machine.execLensHome r axis s
  | .lensMove r axis target => Sys2Proof.Machine.execLensMove r axis target s
  | .lensStop r axis => Sys2Proof.Machine.execLensStop r axis s
  | .focusTableLoad r stop zoom points => Sys2Proof.Machine.execFocusTableLoad r stop zoom points s
  | .lensFocusDistance r distance => Sys2Proof.Machine.execLensFocusDistance r distance s
  | .lensRead r => Sys2Proof.Machine.execLensRead r s
  | .encoderStep a b => Sys2Proof.Machine.execEncoderStep a b s
  | .triggerTimeout p => Sys2Proof.Machine.execTriggerTimeout p s
  | .triggerLineRise l => Sys2Proof.Machine.execTriggerLineRise l s
  | .triggerLineFall l => Sys2Proof.Machine.execTriggerLineFall l s
  | .filterTimeEnd l => Sys2Proof.Machine.execFilterTimeEnd l s
  | .encoderSet r value => Sys2Proof.Machine.execEncoderSet r value s
  | .triggerLineSet r line filter => Sys2Proof.Machine.execTriggerLineSet r line filter s
  | .triggerSet r source pitch phase direction policy timeout => Sys2Proof.Machine.execTriggerSet r source pitch phase direction policy timeout s
  | .triggerSoft r mask => Sys2Proof.Machine.execTriggerSoft r mask s
  | .triggerRead r => Sys2Proof.Machine.execTriggerRead r s
  | .cableTypeSet r type speed polarity threshold => Sys2Proof.Machine.execCableTypeSet r type speed polarity threshold s
  | .portCableSet r type length tolerance offset => Sys2Proof.Machine.execPortCableSet r type length tolerance offset s
  | .autoSweepSet r flags sweep => Sys2Proof.Machine.execAutoSweepSet r flags sweep s
  | .sweepRequest r sweep powerDownFirst => Sys2Proof.Machine.execSweepRequest r sweep powerDownFirst s
  | .settlingEnd e => Sys2Proof.Machine.execSettlingEnd e s
  | .shot e trace => Sys2Proof.Machine.execShot e trace s
  | .repeatIntervalEnd e => Sys2Proof.Machine.execRepeatIntervalEnd e s
  | .sweepCancel r => Sys2Proof.Machine.execSweepCancel r s
  | .faultClear r => Sys2Proof.Machine.execFaultClear r s
  | .faultRead r => Sys2Proof.Machine.execFaultRead r s
  | .ringSet r start length timeout => Sys2Proof.Machine.execRingSet r start length timeout s
  | .frameHold r number => Sys2Proof.Machine.execFrameHold r number s
  | .frameRelease r number => Sys2Proof.Machine.execFrameRelease r number s
  | .frameList r => Sys2Proof.Machine.execFrameList r s
  | .viewLoad r view params => Sys2Proof.Machine.execViewLoad r view params s
  | .viewBind r view => Sys2Proof.Machine.execViewBind r view s
  | .viewUnbind r => Sys2Proof.Machine.execViewUnbind r s
  | .coefSelect r table => Sys2Proof.Machine.execCoefSelect r table s
  | .coefWrite r values => Sys2Proof.Machine.execCoefWrite r values s
  | .frameResend r number view => Sys2Proof.Machine.execFrameResend r number view s
  | .pipeReset r => Sys2Proof.Machine.execPipeReset r s
  | .egressSet r settings => Sys2Proof.Machine.execEgressSet r settings s

end Sys2Proof.Machine
end

