-- ==== Sys2Proof/Machine/Step.lean ====
section
/-! DEFINITION. The step: the command at the front of the queue, or one microsecond of hub time. -/

namespace Sys2Proof.Machine

/-- One microsecond passes with no command waiting (R167). DESIGN CHOICE, log entry 1. -/
def State.tick (s : State) : State := { s with hub := s.hub.tick }

/-- The next step: the first waiting command is taken from the queue and has its effect; with none waiting, hub time
goes on. -/
def step (s : State) : Host.Outcome State Fault Refusal :=
  match s.pending with
  | [] => .next s.tick
  | i :: rest => exec i { s with pending := rest }

/-- A state with the command that a word of the opcode table spells put at the front of its queue; unchanged where
the word spells none. -/
def State.withFetchWord (s : State) (nbits w : Nat) : State :=
  match decodeTableWord nbits w with
  | some i => { s with pending := i :: s.pending }
  | none => s

end Sys2Proof.Machine
end

