-- ==== Sys2Proof/Safety.lean ====
section
/-! DEFINITION. What is safe about a state of the hub: the laws that the manual states of every state, and the
words in which statements speak of a request's taking. -/

namespace Sys2Proof.Machine

/-! ## Takings -/

/-- The state after a taking (R169) whose owner left the hub h and answered: the reply is offered, and the event
ends. -/
def State.afterTaking (s : State) (pkt : Packet) (c : ReqCode) (h : Hub) (reply : Reply) : State :=
  { s with
    hub := (h.replyDue.answer s.hub.trunk.replies.length
      (replyPacket pkt.port pkt.tag (u16 (codeNumber c)) reply)).settle s.dram }

/-- A request command of a constructor, its header and its parameters as the packet carries them (R177). -/
def requestPartsOf : Instr → Option (ReqCode × ReqHeader × List Byte)
  | .coldReset | .trunkUp | .trunkLoss | .requestPacketReceived _ | .badRequest | .packetSendEnd
  | .imageQueueTakesPacket _ | .answeredSlotReplyOffer | .passThroughTimeout _ | .detectionEnd _ _
  | .rampOutputReached _ _ | .rampFail _ _ | .overcurrentRise _ _ | .overcurrentFall _ _ | .trip _ _
  | .hardShort _ _ | .cooldownEnd _ | .supplySample _ | .trainingAttemptEnd _ | .lockReply _ | .lossOfLock _
  | .errorWindowEnd _ | .badUpstreamPacket _ _ | .frameStart _ _ _ _ _ | .line _ _ _ | .frameEnd _ _ _
  | .fillDeadline _ | .ack _ _ | .ackWaitEnd _ | .downstreamMessageSent _ | .attrReply _ _ _ _
  | .lensReport _ _ _ _ | .lensDeadline _ _ | .encoderStep _ _ | .triggerTimeout _ | .triggerLineRise _
  | .triggerLineFall _ | .filterTimeEnd _ | .settlingEnd _ | .shot _ _ | .repeatIntervalEnd _ => none
  | .identify r => some (.identify, r, [])
  | .timeRead r => some (.timeRead, r, [])
  | .partReset r => some (.partReset, r, [])
  | .readEvents r => some (.readEvents, r, [])
  | .noticeSet r kinds => some (.noticeSet, r, u16 kinds)
  | .isolate r action => some (.isolate, r, u8 action)
  | .portRead r => some (.portRead, r, [])
  | .linkSet r e d => some (.linkSet, r, u8 e ++ u8 d)
  | .linkTest r n => some (.linkTest, r, u8 n)
  | .dropHistoryRead r => some (.dropHistoryRead, r, [])
  | .attrRead r address count => some (.attrRead, r, u16 address ++ u8 count)
  | .attrWrite r address words => some (.attrWrite, r, u16 address ++ counted u16 words)
  | .budgetSet r budget => some (.budgetSet, r, u32 budget)
  | .portPowerSet r g l pr a => some (.portPowerSet, r, u16 g ++ u16 l ++ u8 pr ++ u16 a)
  | .powerOn r => some (.powerOn, r, [])
  | .powerOff r => some (.powerOff, r, [])
  | .lensProfileLoad r f z ir => some (.lensProfileLoad, r, profileBytes f ++ profileBytes z ++ profileBytes ir)
  | .lensHome r axis => some (.lensHome, r, u8 axis)
  | .lensMove r axis target => some (.lensMove, r, u8 axis ++ u16 target)
  | .lensStop r axis => some (.lensStop, r, u8 axis)
  | .focusTableLoad r stop zoom points =>
    some (.focusTableLoad, r, u8 stop ++ u16 zoom ++ counted pointBytes points)
  | .lensFocusDistance r d => some (.lensFocusDistance, r, u16 d)
  | .lensRead r => some (.lensRead, r, [])
  | .encoderSet r value => some (.encoderSet, r, u32 value)
  | .triggerLineSet r l f => some (.triggerLineSet, r, u8 l ++ u8 f)
  | .triggerSet r source pitch phase direction policy timeout =>
    some (.triggerSet, r, u8 source ++ u32 pitch ++ u32 phase ++ u8 direction ++ u8 policy ++ u16 timeout)
  | .triggerSoft r mask => some (.triggerSoft, r, u8 mask)
  | .triggerRead r => some (.triggerRead, r, [])
  | .cableTypeSet r type speed polarity threshold =>
    some (.cableTypeSet, r, u8 type ++ u16 speed ++ u8 polarity ++ u8 threshold)
  | .portCableSet r type length tolerance offset =>
    some (.portCableSet, r, u8 type ++ u32 length ++ u16 tolerance ++ u16 offset)
  | .autoSweepSet r flags q => some (.autoSweepSet, r, u8 flags ++ sweepRawBytes q)
  | .sweepRequest r q first => some (.sweepRequest, r, sweepRawBytes q ++ u8 first)
  | .sweepCancel r => some (.sweepCancel, r, [])
  | .faultClear r => some (.faultClear, r, [])
  | .faultRead r => some (.faultRead, r, [])
  | .ringSet r start length timeout => some (.ringSet, r, u16 start ++ u16 length ++ u16 timeout)
  | .frameHold r n => some (.frameHold, r, u16 n)
  | .frameRelease r n => some (.frameRelease, r, u16 n)
  | .frameList r => some (.frameList, r, [])
  | .viewLoad r view v => some (.viewLoad, r, u8 view ++ viewParamsBytes v)
  | .viewBind r view => some (.viewBind, r, u8 view)
  | .viewUnbind r => some (.viewUnbind, r, [])
  | .coefSelect r table => some (.coefSelect, r, u8 table)
  | .coefWrite r values => some (.coefWrite, r, counted u8 values)
  | .frameResend r n view => some (.frameResend, r, u16 n ++ u8 view)
  | .pipeReset r => some (.pipeReset, r, [])
  | .egressSet r q => some (.egressSet, r, egressParamsBytes q)

/-- A request command is the head of the request queue, in the packet given, and may be taken (R169). -/
def State.asks (s : State) (i : Instr) (pkt : Packet) : Bool :=
  match requestPartsOf i with
  | some (c, r, params) => s.hub.headFor c r params = some pkt
  | none => false

/-- The same, the packet's target being the hub. -/
def State.asksHub (s : State) (i : Instr) (pkt : Packet) : Bool := s.asks i pkt && pkt.port = hubTarget

/-- The same, the packet's target being a port. -/
def State.asksPort (s : State) (i : Instr) (pkt : Packet) (p : Port) : Bool :=
  s.asks i pkt && targetPort pkt.port = some p

/-- The command's next state: the request is taken, its owner leaves the hub h, and the reply is offered. -/
def State.Answers (s : State) (i : Instr) (pkt : Packet) (h : Hub) (reply : Reply) : Prop :=
  ∃ c r params, requestPartsOf i = some (c, r, params) ∧ exec i s = .next (s.afterTaking pkt c h reply)

/-- The command's next state: the request is taken and refused with a status, and nothing else changes. -/
def State.Refuses (s : State) (i : Instr) (pkt : Packet) (status : Status) : Prop :=
  s.Answers i pkt s.hub.popRequest (refuse status)

/-- The command's next state: the hub h, at the end of the event; frame memory and the waiting commands stay. -/
def State.Does (s : State) (i : Instr) (h : Hub) : Prop := exec i s = .next { s with hub := h.settle s.dram }

/-- An upstream packet's fields fit their widths (R179). -/
def UpPacket.wf : UpPacket → Bool
  | .frameStart n w h id => fits16 n && fits16 w && fits16 h && fits8 id
  | .line n pixels => fits16 n && fits16 pixels.length && pixels.all fits16
  | .frameEnd lines status => fits16 lines && fits8 status
  | .ack sequence => fits8 sequence
  | .attrReply attr status words =>
    fits8 attr && fits8 status && decide (words.length ≤ 16) && words.all fits16
  | .lensReport axis position kind => fits8 axis && fits16 position && fits8 kind
  | .lockReply => true

/-! ## Outcomes that several commands share -/

/-- The record that a drop writes (R22): the hub time, the link's state before it, its cause, the errors of the window, the
frame being filled and the encoder position. -/
def Hub.dropSeen (h : Hub) (p : Port) (cause : DropCause) : DropRecord :=
  { time := h.time, degraded := decide ((h.lk p).state = .degraded), cause := cause
    windowErrors := (h.lk p).windowErrors, frame := (h.fr p).filling.map (·.number), encoder := h.encoder.counter }

/-- The drop history with one record more (R22): of 16 records the oldest goes. -/
def LinkCtl.historyWith (l : LinkCtl) (r : DropRecord) : List DropRecord :=
  (if l.history.length = 16 then l.history.tail else l.history) ++ [r]

/-- 1 where a trigger is outstanding (R120). -/
def Hand.outstandingOne : Hand → Count
  | .outstanding .. => 1
  | .none | .deferred _ => 0

/-- 1 where a trigger is deferred (R120). -/
def Hand.deferredOne : Hand → Count
  | .deferred _ => 1
  | .none | .outstanding .. => 0

/-- The command is a slot's attribute request with an attribute number (R27, R170). -/
def Command.isFor (c : Command) (slot : SlotNo) (attr : BitVec 8) : Bool :=
  match c with
  | .attrRead i a _ _ | .attrWrite i a _ _ => i = slot && a = attr
  | .lensMove _ _ | .lensHome _ | .lensStop _ => false

/-- From h to h', a slot has produced a reply (R171): the reply is behind the replies that were queued before, the slot
FREE, or it is kept by the slot, ANSWERED; while the trunk is DOWN it is gone and the slot is FREE. -/
def Hub.SlotAnswered (h h' : Hub) (i : SlotNo) (reply : Packet) : Prop :=
  (h.trunk.up = true →
    vget h'.mgmt.slots i = .free ∧ reply ∈ h'.trunk.replies.drop h.trunk.replies.length ∨
      vget h'.mgmt.slots i = .answered reply) ∧
  (h.trunk.up = false → vget h'.mgmt.slots i = .free)

/-- From h to h', every slot that waited on the port has produced its LINK_DOWN reply (R171). -/
def Hub.SlotsDropped (h h' : Hub) (p : Port) : Prop :=
  (∀ i, (vget h'.mgmt.slots i).waitsOn p = false) ∧
    ∀ i tag kind attr deadline, vget h.mgmt.slots i = .waiting tag p kind attr deadline →
      h.SlotAnswered h' i
        (replyPacket (BitVec.ofNat 8 p.val) tag (u16 (codeNumber (passCode kind))) (refuse .linkDown))

/-- From h to h', the port's established link has dropped (R22, R97, R86, R119, R131, R171): the record joins the history, the
drop counter increases, the command queue, the frame context, the pending trigger and the test count are empty and LINK is
set; an axis in motion is UNKNOWN and IDLE with outcome LINK and nothing pending, LENS_FAULT is set and the allowance
released; the trigger in hand is given up and counted, a deferred one with TRIG_LOST; the frame being filled is removed with
FRAME_DROP; and the slots that waited on the port are answered. -/
def Hub.LinkDropped (h h' : Hub) (p : Port) (cause : DropCause) : Prop :=
  (h'.lk p).history = (h.lk p).historyWith (h.dropSeen p cause) ∧ (h'.lk p).drops = (h.lk p).drops + 1 ∧
    (h'.lk p).queue = [] ∧ (h'.lk p).sendCount = 0 ∧ (h'.lk p).ackWait = none ∧ (h'.lk p).pendingTrigger = none ∧
    (h'.lk p).testCount = 0 ∧ (h'.lk p).context = none ∧ vget h'.mgmt.portFlags p &&& fLink = fLink ∧
    (∀ x, (h.ax p x).moving = true →
      h'.ax p x = { h.ax p x with position := none, motion := .idle, outcome := .link, pending := 0 }) ∧
    ((h.ln p).anyMotion = true →
      vget h'.mgmt.portFlags p &&& fLensFault = fLensFault ∧ (h'.pw p).allowanceHeld = false) ∧
    h'.tg p = { h.tg p with
      hand := .none
      lostLink := (h.tg p).lostLink + (h.tg p).hand.deferredOne
      aborted := (h.tg p).aborted + (h.tg p).hand.outstandingOne } ∧
    (∀ f, (h.tg p).hand = .deferred f → vget h'.mgmt.portFlags p &&& fTrigLost = fTrigLost) ∧
    h'.fr p = { h.fr p with
      intake := .idle
      linkAbort := (h.fr p).linkAbort + (if (h.fr p).filling.isSome then 1 else 0)
      table := match (h.fr p).filling with
        | some r => (h.fr p).table.filter fun x => x.serial ≠ r.serial
        | none => (h.fr p).table } ∧
    ((h.fr p).filling.isSome = true → vget h'.mgmt.portFlags p &&& fFrameDrop = fFrameDrop) ∧
    h.SlotsDropped h' p

/-- From h to h', the port's power state has left ON (R20, R50, R98): its link is DOWN, with note POWER_LOST where it was
not DOWN before and by a drop with that cause where it was UP or DEGRADED; every axis is UNKNOWN and IDLE with nothing
pending, its outcome LINK and LENS_FAULT set where it was in motion. -/
def Hub.LeftOn (h h' : Hub) (p : Port) : Prop :=
  (h'.lk p).state = .down ∧
    (∀ x, (h'.ax p x).position = none ∧ (h'.ax p x).motion = .idle ∧ (h'.ax p x).pending = 0 ∧
      (h'.ax p x).outcome = if (h.ax p x).moving = true then .link else (h.ax p x).outcome) ∧
    ((h.ln p).anyMotion = true → vget h'.mgmt.portFlags p &&& fLensFault = fLensFault) ∧
    ((h.lk p).state ≠ .down → (h'.lk p).note = .powerLost ∧ vget h'.mgmt.portFlags p &&& fLink = fLink) ∧
    ((h.lk p).established = true → h.LinkDropped h' p .powerLost) ∧
    ((h.lk p).established = false →
      (h'.lk p).history = (h.lk p).history ∧ (h'.lk p).drops = (h.lk p).drops ∧ h'.fr p = h.fr p ∧
      ((h.ln p).anyMotion = false → h'.tg p = h.tg p))

/-- From h to h', one port has been turned off with a cause (R9, R41, R50, R54, R55): power, allowance and
postponement end, POWER is set, a port that was ON has left it with every consequence, and every other port is as it
was. -/
def Hub.TurnedOff (h h' : Hub) (p : Port) (cause : OffCause) : Prop :=
  (h'.pw p).state = .off ∧ (h'.pw p).cause = cause ∧ (h'.pw p).allowanceHeld = false ∧
    (h'.pw p).postponed = false ∧ vget h'.mgmt.portFlags p &&& fPower = fPower ∧
    ((h.pw p).state = .on → (h.lk p).history.length ≤ 16 → h.LeftOn h' p) ∧
    ((h.pw p).state ≠ .on → h'.link = h.link ∧ h'.lens = h.lens ∧ h'.trig = h.trig ∧ h'.frames = h.frames) ∧
    (∀ q, q ≠ p →
      h'.pw q = h.pw q ∧ h'.lk q = h.lk q ∧ h'.ln q = h.ln q ∧ h'.tg q = h.tg q ∧ h'.fr q = h.fr q) ∧
    h'.time = h.time ∧ h'.cell = h.cell ∧ h'.encoder = h.encoder ∧ h'.lines = h.lines ∧ h'.view = h.view ∧
    h'.pipe = h.pipe ∧ h'.trunk.up = h.trunk.up ∧ h'.trunk.images = h.trunk.images

/-- From h to h', a pass-through slot has produced its reply (R171): the replies already kept are offered first; then this
one is taken, the slot FREE; or kept, the slot ANSWERED and last in the order of answers; or discarded while the trunk is
DOWN, the slot FREE. -/
def Hub.SlotReplied (h h' : Hub) (i : SlotNo) (reply : Packet) : Prop :=
  let due := h.offerDue
  (h.trunk.up = true → due.replyRoom = true →
    h' = ((due.modTrunk fun t => { t with replies := t.replies ++ [reply] }).modMgmt fun m =>
      { m with slots := vset m.slots i .free })) ∧
  (h.trunk.up = true → due.replyRoom = false →
    h' = due.modMgmt fun m => { m with slots := vset m.slots i (.answered reply), answered := m.answered ++ [i] }) ∧
  (h.trunk.up = false →
    h' = ((due.modTrunk fun t => { t with discarded := t.discarded + 1 }).modMgmt fun m =>
      { m with slots := vset m.slots i .free }))

/-- From h to h', the end of a sweep has been reported for a port (R52): a postponed COOLDOWN retry is resumed, to OFF with
ISOLATE, to DETECTING or to OFF with NO_BUDGET; in every other state the port keeps its power items. -/
def Hub.RetryResumed (h h' : Hub) (p : Port) : Prop :=
  let q := h.pw p
  (q.state = .cooldown → q.postponed = true →
    vget h'.mgmt.portFlags p &&& fPower = fPower ∧
    (h.effectiveIso p = true →
      h'.pw p = { q with state := .off, cause := .isolate, allowanceHeld := false, postponed := false }) ∧
    (h.effectiveIso p = false → h.grantedTotal + q.grant ≤ h.cell.budget →
      h'.pw p = { q with state := .detecting, cause := .none, phaseEnd := h.time + 20000, postponed := false }) ∧
    (h.effectiveIso p = false → h.cell.budget < h.grantedTotal + q.grant →
      h'.pw p = { q with state := .off, cause := .noBudget, allowanceHeld := false, postponed := false })) ∧
  (q.state ≠ .cooldown ∨ q.postponed = false → h'.pw p = q)

/-- A BREAK result of a pair (R77, R78), from one fault list and next number to others: merged into the OPEN record of the
port and pair, which keeps its place, its number, its origin and its created time; or a new record at the end of the list,
whose oldest CLEARED record goes first where it holds 16. No other record changes. -/
def FaultWritten (before after : List FaultRecord) (number number' : BitVec 16) (c : SweepContext) (pair : Pair)
    (r : PairResult) (x : BreakSpan) (now : HubTime) : Prop :=
  (∀ older f newer, before = older ++ f :: newer → f.opens c.port pair = true →
    (∀ g ∈ older ++ newer, g.opens c.port pair = false) →
    number' = number ∧
    after = older ++
      { f with
        hits := Nat.min 65535 (f.hits + r.breaks), repeats := Nat.min 65535 (f.repeats + r.repeatsRun)
        minMm := Nat.min f.minMm x.min, maxMm := Nat.max f.maxMm x.max, lastMm := x.last, kind := r.latest
        mixed := f.mixed || (r.openSeen && r.shortSeen) || (if f.kind = .openBreak then r.shortSeen else r.openSeen)
        updated := now } :: newer) ∧
  ((∀ f ∈ before, f.opens c.port pair = false) →
    let made : FaultRecord :=
      { number := number, port := c.port, pair := pair, kind := r.latest, mixed := r.openSeen && r.shortSeen, isOpen := true
        minMm := x.min, maxMm := x.max, lastMm := x.last, hits := r.breaks, repeats := r.repeatsRun, origin := c.origin
        created := now, updated := now }
    number' = number + 1 ∧ (before.length < 16 → after = before ++ [made]) ∧
    ∀ older f newer, before = older ++ f :: newer → 16 ≤ before.length → f.isOpen = false →
      (∀ g ∈ older, g.isOpen = true) → after = older ++ newer ++ [made])

/-- The same for a pair of a sweep that ends: a pair that was not tested, or that saw no BREAK, writes nothing. -/
def FaultPassed (before after : List FaultRecord) (number number' : BitVec 16) (c : SweepContext) (pair : Pair)
    (now : HubTime) : Prop :=
  (tests c.params.pair pair = false ∨ (c.result pair).span = none → after = before ∧ number' = number) ∧
    ∀ x, tests c.params.pair pair = true → (c.result pair).span = some x →
      FaultWritten before after number number' c pair (c.result pair) x now

/-- From h to h', the send of a queue's head has begun (R159, R157): the queue holds the packets behind it, and, where the
pipeline of an image queue was WAITING, that pipeline's packet behind them if it now fits; its FRAME_CLOSE apart, whose
taking lets further items follow, nothing else joins. -/
def Hub.SendBegun (h h' : Hub) (m : Memory) (q : QueueNo) (rest : List Packet) : Prop :=
  (q = 8 ∨ (∀ p : Port, p.val = q.val → (h.pl p).phase ≠ .waiting) →
    h'.queuePackets q = rest ∧ h'.pipe = h.pipe ∧ h'.frames = h.frames) ∧
  ∀ (p : Port) (item : WorkItem) (work : List WorkItem) (x : FrameRecord) (plan : OutputPlan),
    p.val = q.val → (h.pl p).phase = .waiting → (h.pl p).work = item :: work → (h.fr p).record item.serial = some x →
    (h.pl p).plan = some plan →
    let offered := h.emission m p plan item x
    (65536 < occupancy rest + packetSize offered →
      h'.queuePackets q = rest ∧ h'.pipe = h.pipe ∧ h'.frames = h.frames) ∧
    (occupancy rest + packetSize offered ≤ 65536 →
      (∃ more, h'.queuePackets q = rest ++ offered :: more) ∧
      (plan.opened = false → plan.empty = false →
        h'.queuePackets q = rest ++ [offered] ∧
        h'.pl p = { h.pl p with phase := .running, plan := some { plan with opened := true } }) ∧
      (plan.opened = true → plan.nextLine < plan.lines →
        h'.queuePackets q = rest ++ [offered] ∧
        h'.pl p = { h.pl p with phase := .running, plan := some { plan with nextLine := plan.nextLine + 1 } }))

/-- A lens command can join its queue (R27, R42, R87): the link is established with room in the camera command queue,
and an axis is in motion already or the allowance fits the budget. -/
def Hub.LensAccepts (h : Hub) (p : Port) : Prop :=
  (h.lk p).established = true ∧ (h.lk p).queue.length < 8 ∧
    ((h.ln p).anyMotion = true ∨
      (h.pw p).state = .on ∧ h.grantedTotal + (h.pw p).allowance ≤ h.cell.budget)

/-- The hub after a lens command joined the queue (R87): the allowance is held, where no axis was in motion it is taken
here, and the command is sent if nothing is. -/
def Hub.lensSent (h : Hub) (p : Port) (c : Command) : Hub :=
  (if (h.ln p).anyMotion then h else h.modPower p fun q => { q with allowanceHeld := true }).modLink p fun l =>
    LinkCtl.pump { l with queue := l.queue ++ [c] }

/-- From h to h', a trigger has fired on a port (R114, R115): lost to the link, lost to the one in hand, deferred, or
sent, its message offered to the downstream channel. -/
def Hub.FiredOn (h h' : Hub) (p : Port) : Prop :=
  let t := h.tg p
  let fired : FiredAt := { encoder := h.encoder.counter, time := h.time }
  ((h.lk p).established = false →
    h'.tg p = { t with requested := t.requested + 1, lostLink := t.lostLink + 1 } ∧ h'.lk p = h.lk p ∧
      vget h'.mgmt.portFlags p &&& fTrigLost = fTrigLost) ∧
  ((h.lk p).established = true → t.hand ≠ .none →
    h'.tg p = { t with requested := t.requested + 1, lostOver := t.lostOver + 1 } ∧ h'.lk p = h.lk p ∧
      vget h'.mgmt.portFlags p &&& fTrigLost = fTrigLost) ∧
  ((h.lk p).established = true → t.hand = .none → (h.ln p).anyMotion = true → t.policy = .defer →
    h'.tg p = { t with requested := t.requested + 1, hand := .deferred fired } ∧ h'.lk p = h.lk p) ∧
  ((h.lk p).established = true → t.hand = .none → (h.ln p).anyMotion = false ∨ t.policy = .flag →
    h'.tg p = { t with
      requested := t.requested + 1, issued := t.issued + 1, nextId := if t.nextId = 255 then 1 else t.nextId + 1
      hand := .outstanding fired t.nextId (h.ln p).anyMotion h.time (h.time + BitVec.ofNat 32 (t.timeout * 1000)) } ∧
    h'.lk p = LinkCtl.pump { h.lk p with pendingTrigger := some t.nextId })

/-- From h to h', nothing has changed but triggers, the encoder, the trigger lines, the links' channels, and what the
TRIG_LOST flags of the ports concerned bring: a notice behind the replies queued before, and the offer of kept replies
ahead of it (R171, R174). -/
def Hub.TriggersOnly (h h' : Hub) : Prop :=
  h'.time = h.time ∧ h'.requestedIso = h.requestedIso ∧ h'.power = h.power ∧ h'.cell = h.cell ∧ h'.cable = h.cable ∧
    h'.cables = h.cables ∧ h'.lens = h.lens ∧ h'.frames = h.frames ∧ h'.view = h.view ∧ h'.pipe = h.pipe ∧
    h'.freeCount = h.freeCount ∧
    h'.trunk = { h.trunk with replies := h'.trunk.replies, discarded := h'.trunk.discarded } ∧
    h'.trunk.replies.take h.trunk.replies.length = h.trunk.replies ∧
    h'.mgmt = { h.mgmt with
      portFlags := h'.mgmt.portFlags, slots := h'.mgmt.slots, answered := h'.mgmt.answered, unsent := h'.mgmt.unsent } ∧
    (∀ p, vget h'.mgmt.portFlags p = vget h.mgmt.portFlags p ∨
      h'.tg p ≠ h.tg p ∧ vget h'.mgmt.portFlags p = vget h.mgmt.portFlags p ||| fTrigLost) ∧
    (∀ i, vget h'.mgmt.slots i = vget h.mgmt.slots i ∨
      vget h'.mgmt.slots i = .free ∧ ∃ reply, vget h.mgmt.slots i = .answered reply) ∧
    (h'.mgmt.portFlags = h.mgmt.portFlags →
      h'.trunk = h.trunk ∧ h'.mgmt = h.mgmt)

/-- Every item of every unit at the value its table gives for a cold reset; the supply sample, which the manual gives
no value for (log entry 6), and the pins (log entry 7) are left out. -/
def Hub.AtColdReset (h : Hub) : Prop :=
  h.time = 0 ∧
  (∀ p, vget h.requestedIso p = false ∧ h.effectiveIso p = false ∧
    h.pw p = { state := .off, cause := .none, grant := 5000, limit := 300, priority := 0, allowance := 0, trips := []
               allowanceHeld := false, phaseEnd := 0, overSince := none, cooldownEnd := 0, postponed := false } ∧
    (h.lk p).state = .down ∧ (h.lk p).note = .none ∧ (h.lk p).attempt = 1 ∧ (h.lk p).windowErrors = 0 ∧
    (h.lk p).windowStart = 0 ∧ (h.lk p).degradeAt = 8 ∧ (h.lk p).dropAt = 3 ∧ (h.lk p).history = [] ∧
    (h.lk p).drops = 0 ∧ (h.lk p).queue = [] ∧ (h.lk p).sequence = false ∧ (h.lk p).sendCount = 0 ∧
    (h.lk p).nextAttr = 0 ∧ (h.lk p).testCount = 0 ∧ (h.lk p).pendingTrigger = none ∧ (h.lk p).context = none ∧
    (h.lk p).crcErrors = 0 ∧ (h.lk p).ignoredLines = 0 ∧ (h.lk p).ignoredPackets = 0 ∧ (h.lk p).resends = 0 ∧
    (h.lk p).noAcks = 0 ∧ (h.lk p).strayAcks = 0 ∧
    h.cb p = { type := 0, length := 10000, tolerance := 500, offset := 0, onDetectFail := false, onHardShort := false
               onLock := false, onLinkFail := false, onDrops := false
               auto := { pair := .both, k := 4, repeats := 4, interval := 100, width := 3, scale := 1 }
               sweepStatus := .idle, faultIsolation := false, summary := none, discards := 0 } ∧
    (∀ x, h.ax p x = { present := false, max := 1000, rate := 1000, tolerance := 0, position := none, motion := .idle
                       fromHoming := false, target := 0, start := 0, startTime := 0, deadline := 0, pending := 0
                       outcome := .none }) ∧
    (∀ n, vget (h.ln p).stops n = none) ∧ (h.ln p).lateReports = 0 ∧ (h.ln p).ignoredReports = 0 ∧
    h.tg p = { source := .none, pitch := 1000, phase := 0, direction := .fwd, policy := .flag, timeout := 100
               lastFired := none, hand := .none, nextId := 1, requested := 0, issued := 0, matched := 0, timedOut := 0
               aborted := 0, lostLink := 0, lostOver := 0 } ∧
    h.fr p = { ringStart := 0, ringLength := 0, cursor := 0, timeout := 500, lastOutput := none, intake := .idle
               table := [], nextSerial := 0, admitted := 0, skipped := 0, noRing := 0, tooLarge := 0, noRecord := 0
               noSpace := 0, linkAbort := 0, late := 0 } ∧
    h.pl p = { phase := .idle, work := [], plan := none } ∧
    vget h.view.bindings p = { view := none, load := 0 } ∧ vget h.trunk.images p = [] ∧ vget h.trunk.bursts p = 4 ∧
    vget h.mgmt.portFlags p = 0) ∧
  h.cell.budget = 0 ∧ h.grantedTotal = 0 ∧ h.cell.monitor = .normal ∧ h.cell.lowSince = 0 ∧ h.cell.nextShed = 0 ∧
  (∀ t, vget h.cables.types t = { speed := 200, polarity := some .pos, threshold := 32 }) ∧ h.cables.queue = [] ∧
  (∀ e, h.engine e = none) ∧ h.cables.faults = [] ∧ h.cables.nextRecord = 0 ∧
  h.encoder.counter = 0 ∧ h.encoder.errors = 0 ∧
  (∀ l, (h.line l).filter = 10 ∧ (h.line l).level = (h.line l).input ∧ (h.line l).filtering = none ∧
    (h.line l).accepted = 0 ∧ (h.line l).glitches = 0) ∧
  (∀ v, vget h.view.views v =
    { valid := false, x0 := 0, y0 := 0, w := 1, h := 1, stepH := 1024, stepV := 1024, filterH := .nearest
      filterV := .nearest, depth := .pix12, interval := 1000, group := .low }) ∧
  h.admissionTotal = 0 ∧ h.view.selected = 0 ∧ h.view.cursor = 0 ∧ h.view.discards = 0 ∧
  (∀ t, (vget h.view.coefs t).toList.map BitVec.toInt =
    [0, 64, 0, 0, 0, 56, 8, 0, 0, 48, 16, 0, 0, 40, 24, 0, 0, 32, 32, 0, 0, 24, 40, 0, 0, 16, 48, 0, 0, 8, 56, 0]) ∧
  h.trunk.up = false ∧ h.trunk.replies = [] ∧ h.trunk.replyGroup = .high ∧ h.trunk.replyBurst = 4 ∧
  h.trunk.lowShare = 4 ∧ h.trunk.highRun = 0 ∧ h.trunk.lastHigh = none ∧ h.trunk.lastLow = none ∧
  h.trunk.grant = none ∧ (∀ q, vget h.trunk.sent q = 0) ∧ h.trunk.losses = 0 ∧ h.trunk.discarded = 0 ∧
  h.mgmt.requests = [] ∧ h.mgmt.taking = .ready ∧ h.mgmt.overflow = 0 ∧ (∀ i, vget h.mgmt.slots i = .free) ∧
  h.mgmt.lateReplies = 0 ∧ h.mgmt.partFlags = 0 ∧ h.mgmt.enables = 0 ∧ h.mgmt.unsent = 0

/-! ## The laws of every state -/

/-- The two equations of R120 on one port's counters. -/
def PortTrigger.Balanced (t : PortTrigger) : Prop :=
  t.issued = t.matched + t.timedOut + t.aborted + t.hand.outstandingOne ∧
    t.requested = t.issued + t.lostLink + t.lostOver + t.hand.deferredOne

/-- Every port's trigger counters balance (R120). -/
def Hub.TriggersBalance (h : Hub) : Prop := ∀ p, (h.tg p).Balanced

/-- An allowance is held only while its port is ON (R42), a port with an axis in motion holds its allowance (R86), and the
granted total fits the budget (R38). -/
def Hub.BudgetHolds (h : Hub) : Prop :=
  (∀ p, (h.pw p).allowanceHeld = true → (h.pw p).state = .on) ∧
    (∀ p, (h.ln p).anyMotion = true → (h.pw p).allowanceHeld = true) ∧ h.grantedTotal ≤ h.cell.budget

/-- A port whose effective isolation is set is OFF or LOCKED (R9). -/
def Hub.IsolationHolds (h : Hub) : Prop :=
  ∀ p, h.effectiveIso p = true → (h.pw p).state = .off ∨ (h.pw p).state = .locked

/-- Fault isolation is set exactly while the fault list holds an OPEN record of the port (R5). -/
def Hub.FaultsIsolate (h : Hub) : Prop :=
  ∀ p, (h.cb p).faultIsolation = h.cables.faults.any fun f => f.opensPort p

/-- A link that is not DOWN has its port ON (R17, R20); a port with an axis in motion, a trigger in hand or a slot WAITING
on it has its link UP or DEGRADED (R86, R114, R170). -/
def Hub.LinksHold (h : Hub) : Prop :=
  (∀ p, (h.lk p).state ≠ .down → (h.pw p).state = .on) ∧
    (∀ p, (h.ln p).anyMotion = true → (h.lk p).established = true) ∧
      (∀ p, (h.tg p).hand ≠ .none → (h.lk p).established = true) ∧
        ∀ i p, (vget h.mgmt.slots i).waitsOn p = true → (h.lk p).established = true

/-- The sweep queue, the engines and the sweep statuses agree (R65), and a port being swept or waiting for its sweep is
not powered and has its link DOWN (R68). -/
def Hub.SweepsHold (h : Hub) : Prop :=
  (h.cables.queue.map (·.port)).Nodup ∧
    (∀ p, (h.cb p).sweepStatus = .queued ↔ p ∈ h.cables.queue.map (·.port)) ∧
      (∀ p, (h.cb p).sweepStatus = .running ↔ ∃ e c, h.engine e = some c ∧ c.port = p) ∧
        (∀ c c', h.engine 0 = some c → h.engine 1 = some c' → c.port ≠ c'.port) ∧
          (∀ p, (h.lk p).state ≠ .down → (h.pw p).state = .on) ∧
            ∀ p, (h.cb p).sweepStatus ≠ .idle → (h.pw p).powered = false

/-- An axis's known position lies in its travel, and the ends of a move too (R86). -/
def Axis.InTravel (a : Axis) : Prop :=
  (∀ q, a.position = some q → q ≤ a.max) ∧ (a.motion = .moving → a.start ≤ a.max ∧ a.target ≤ a.max)

/-- Every known lens position lies between 0 and its axis's max (R86). -/
def Hub.LensesInTravel (h : Hub) : Prop := ∀ p x, (h.ax p x).InTravel

/-- The slots that keep a reply are the ANSWERED ones, each once in the order of answers (R171; that order is the model's
own list, log entry 19). -/
def Hub.KeptReplies (h : Hub) : Prop :=
  h.mgmt.answered.Nodup ∧ ∀ i, i ∈ h.mgmt.answered ↔ ∃ reply, vget h.mgmt.slots i = .answered reply

/-- The queues and lists of the hub keep their bounds: requests 16 (R168), replies 32 (R158), sweep entries 8 (R65), fault
records 16 with at most one OPEN record of a port and pair (R76), commands 8 (R27), drop records 16 (R22), trips 3 (R48),
image queues 65,536 bytes (R157), work items 10 of which 2 resends (R146). The kept replies are those of the ANSWERED slots,
and none is kept while the trunk is DOWN (R171). -/
def Hub.QueuesBounded (h : Hub) : Prop :=
  h.mgmt.requests.length ≤ 16 ∧ h.trunk.replies.length ≤ 32 ∧ h.KeptReplies ∧
    (h.trunk.up = false → h.mgmt.answered = []) ∧
    h.cables.queue.length ≤ 8 ∧ h.cables.faults.length ≤ 16 ∧
    (∀ p pair, (h.cables.faults.filter fun f => f.opens p pair).length ≤ 1) ∧
    ∀ p, (h.lk p).queue.length ≤ 8 ∧ (h.lk p).history.length ≤ 16 ∧ (h.pw p).trips.length ≤ 3 ∧
      occupancy (vget h.trunk.images p) ≤ 65536 ∧ (h.pl p).work.length ≤ 10 ∧
      ((h.pl p).work.filter fun item => item.resend.isSome).length ≤ 2

/-- The frame records of a port lie in its ring, apart from one another; at most 8, at most 4 of them held (R124); and
no two share the serial by which the model names them (log entry 19). -/
def PortFrames.Placed (f : PortFrames) : Prop :=
  (f.table.map (·.serial)).Nodup ∧ (∀ r ∈ f.table, r.serial < f.nextSerial) ∧ f.table.length ≤ 8 ∧ f.heldCount ≤ 4 ∧
    (∀ r ∈ f.table, r.offset + r.size ≤ f.ringBytes) ∧
    f.table.Pairwise fun r r' => r.offset + r.size ≤ r'.offset ∨ r'.offset + r'.size ≤ r.offset

/-- No two ports' rings share frame memory (R123), and every port's records are placed in its own (R124). -/
def Hub.FramesHold (h : Hub) : Prop :=
  (∀ p q, p ≠ q →
    ringsOverlap (h.fr p).ringStart (h.fr p).ringLength (h.fr q).ringStart (h.fr q).ringLength = false) ∧
      ∀ p, (h.fr p).Placed

/-- A port's work list and its frame table agree (R130, R132, R146): a live item stands behind no other item of its frame;
every item's frame is present, not FILLING and not retained, and not SENT where the item is live; only a SENT record is
retained; and the pending resends of a record are the views of its resend items, in their order. An IDLE pipeline has no output plan
(Table 8-5). -/
def Hub.WorkHolds (h : Hub) : Prop :=
  ∀ p, ((h.pl p).phase = .idle → (h.pl p).plan = none) ∧
    ((h.pl p).work.Pairwise fun a b => b.resend = none → a.serial ≠ b.serial) ∧
    (∀ item ∈ (h.pl p).work, ∃ r ∈ (h.fr p).table, r.serial = item.serial ∧ r.retained = false ∧
      (r.state = .complete ∨ r.state = .sending ∨ r.state = .sent ∧ item.resend ≠ none)) ∧
    ∀ r ∈ (h.fr p).table, (r.retained = true → r.state = .sent) ∧
      ((h.pl p).work.filter fun item => item.serial = r.serial).filterMap (·.resend) = r.resends

/-- The admission total stays within the bandwidth reserved for images (R141). -/
def Hub.AdmissionHolds (h : Hub) : Prop := h.admissionTotal ≤ imageBandwidth

end Sys2Proof.Machine
end

