-- ==== Sys2Proof/Certificates/Slice0/Obligations.lean ====
section
/-! DEFINITION. The statements about the hub: what each command does, what every step keeps, and how packets are
coded. In a statement about a request, `s.asksPort i pkt p` (or `asksHub`) says that the request i is the head packet
pkt, for port p (or the hub), and may be taken; `s.Answers i pkt h reply` that its next state has the owner's hub h with
the reply offered; `s.Does i h` that an event's next state has the hub h (Sys2Proof/Safety.lean). -/

open Sys2Proof Sys2Proof.Machine

/-! ## The step and the resets -/

/-- The step takes the command at the front of the queue and is its meaning on the rest; with none waiting, one
microsecond passes, and the FRAME_CLOSEs taken before are no longer of the present time (R167; the tick is the model's choice,
log entry 1, and so is that mark, log entry 36). -/
def Obligations.StepRunsTheFrontCommand : Prop :=
  ∀ s : State,
    (∀ i rest, s.pending = i :: rest → step s = exec i { s with pending := rest }) ∧
    (s.pending = [] →
      step s = .next { s with hub := { s.hub with
        time := s.hub.time + 1, pipe := s.hub.pipe.map fun q => { q with closed := [] } } })

/-- A cold reset sets every item of every unit to its cold-reset value and leaves frame memory (R2, R122); the machine
starts at the same values. The model's choice are: frame memory with nothing listed at the start (log entry 8), no command
waiting at the start (log entry 5), and that a cold reset keeps the waiting commands (log entry 23) and the levels of the
pins (log entries 7 and 23). -/
def Obligations.ColdResetSetsEveryUnit : Prop :=
  (State.reset.hub.AtColdReset ∧ State.reset.pending = [] ∧ State.reset.dram = []) ∧
    ∀ s : State, ∃ t, exec .coldReset s = .next t ∧ t.hub.AtColdReset ∧ t.pending = s.pending ∧ t.dram = s.dram ∧
      t.hub.encoder.a = s.hub.encoder.a ∧ t.hub.encoder.b = s.hub.encoder.b ∧
      ∀ l, (t.hub.line l).input = (s.hub.line l).input

/-- A PART_RESET taken while the trunk is UP is answered OK and leaves the unit RESETTING; the hub goes through a cold
reset when that reply has left, is removed by a loss of the trunk, or, while the trunk is DOWN, at once (R176). -/
def Obligations.PartResetResets : Prop :=
  ∀ (s : State) (r : ReqHeader) (pkt reply : Packet),
    (s.asksHub (.partReset r) pkt = true → s.hub.trunk.up = true →
      s.Answers (.partReset r) pkt (s.hub.popRequest.modMgmt fun m => { m with taking := .resetting }) (okWith [])) ∧
    (s.asksHub (.partReset r) pkt = true → s.hub.trunk.up = false → exec (.partReset r) s = exec .coldReset s) ∧
    (s.hub.mgmt.taking = .resetting → isResetReply reply = true → s.hub.trunk.lane = some (8, reply) →
      exec .packetSendEnd s = exec .coldReset s) ∧
    (s.hub.mgmt.taking = .resetting → isResetReply reply = true → s.hub.trunk.up = true →
      reply ∈ s.hub.trunk.replies ∨ s.hub.trunk.lane = some (8, reply) → exec .trunkLoss s = exec .coldReset s)

/-! ## Packets -/

/-- Every trunk packet reads back from its bytes (R178), and every upstream packet of the data pair from its own; no run
of bytes that carries another CRC-16 is read as a packet, and a deliberately bad send is always found out (R16, R179). The
training pattern is its type byte and its six bytes with the CRC-16 of the seven (R179; that the whole packet is what
repeats, log entry 31). -/
def Obligations.PacketsReadBack : Prop :=
  (∀ p : Packet, p.wf = true → readPacket (packetBytes p) = some p) ∧
    (∀ q : UpPacket, q.wf = true → readUp q.bytes = some q) ∧
    (∀ (body : List Byte) (a b : Byte), [a, b] ≠ u16 (crc16 body).toNat → readUp (body ++ [a, b]) = none) ∧
    (∀ body : List Byte, readUp (withBadCrc body) = none) ∧
    trainingBytes = [0x80, 0x55, 0xAA, 0x55, 0xAA, 0x0F, 0xF0] ++
      u16 (crc16 [0x80, 0x55, 0xAA, 0x55, 0xAA, 0x0F, 0xF0]).toNat

/-- Every well-formed request has one packet that spells it, and a packet spells at most one well-formed request: no bit
of a parameter is dropped (R177, R178). -/
def Obligations.RequestsAreSpelledOnce : Prop :=
  (∀ i c r ps, i.wf = true → requestPartsOf i = some (c, r, ps) → spells (requestPacket c r ps) c r ps = true) ∧
    ∀ i j c r ps c' r' ps' pkt, i.wf = true → j.wf = true → requestPartsOf i = some (c, r, ps) →
      requestPartsOf j = some (c', r', ps') → spells pkt c r ps = true → spells pkt c' r' ps' = true → i = j

/-! ## What every step keeps -/

/-- Frame memory keeps its canonical form (the model's, log entry 8). -/
def Obligations.MemoryFormKept : Prop :=
  ∀ s t : State, s.dram.wf = true → step s = .next t → t.dram.wf = true

/-- The trigger counters of every port balance (R120). -/
def Obligations.TriggerCountersBalance : Prop :=
  ∀ s t : State, s.hub.TriggersBalance → step s = .next t → t.hub.TriggersBalance

/-- The granted total never exceeds the cell budget, an allowance is held only while its port is ON and always while an axis
of the port is in motion (R38, R42, R86), and the admission total never exceeds 1,100,000,000 bytes per second (R141). -/
def Obligations.TotalsFitTheirLimits : Prop :=
  ∀ s t : State, s.hub.BudgetHolds → s.hub.AdmissionHolds → step s = .next t →
    t.hub.BudgetHolds ∧ t.hub.AdmissionHolds

/-- Fault isolation is set exactly while the fault list holds an OPEN record of the port (R5), and a port whose effective
isolation is set is OFF or LOCKED (R9). -/
def Obligations.IsolationFollowsFaults : Prop :=
  ∀ s t : State, s.hub.FaultsIsolate → s.hub.IsolationHolds → step s = .next t →
    t.hub.FaultsIsolate ∧ t.hub.IsolationHolds

/-- A link that is not DOWN has its port ON; axes in motion, triggers in hand and waiting slots have their link UP or
DEGRADED (R17, R20, R86, R114, R170). -/
def Obligations.LinksFollowPower : Prop :=
  ∀ s t : State, s.hub.LinksHold → step s = .next t → t.hub.LinksHold

/-- Sweep queue, engines and sweep statuses agree; a port queued or swept is unpowered with its link DOWN (R65, R68). -/
def Obligations.SweepsKeepTheirPlaces : Prop :=
  ∀ s t : State, s.hub.SweepsHold → step s = .next t → t.hub.SweepsHold

/-- Every known lens position lies between 0 and its axis's max (R86). -/
def Obligations.LensPositionsInTravel : Prop :=
  ∀ s t : State, s.hub.LensesInTravel → step s = .next t → t.hub.LensesInTravel

/-- The request queue, the reply queue, the sweep queue, the fault list, the command queues, the drop histories, the trip
histories, the image queues and the work lists keep their bounds, the fault list has at most one OPEN record of a port and
pair, and no reply is kept while the trunk is DOWN (R168, R158, R65, R76, R27, R22, R48, R157, R146, R171). The bounds of the
sweep queue and of the work lists rest on the laws of SweepsKeepTheirPlaces and FrameRecordsStayApart. -/
def Obligations.QueuesKeepTheirBounds : Prop :=
  ∀ s t : State, s.hub.QueuesBounded → s.hub.SweepsHold → s.hub.FramesHold → s.hub.WorkHolds → step s = .next t →
    t.hub.QueuesBounded

/-- No two rings share frame memory, and a port's frame records, at most 8 and at most 4 held, lie in its ring apart
from one another (R123, R124); a port's work list agrees with its records: a live item for a frame that is COMPLETE or
SENDING, one resend item for each pending resend of a record, and no output plan while it is IDLE (R130, R132, R146). -/
def Obligations.FrameRecordsStayApart : Prop :=
  ∀ s t : State, s.hub.FramesHold → step s = .next t →
    t.hub.FramesHold ∧ (s.hub.WorkHolds → t.hub.WorkHolds)

/-- The laws that every step keeps hold of the machine right after reset. -/
def Obligations.ResetMeetsEveryLaw : Prop :=
  State.reset.dram.wf = true ∧ State.reset.hub.TriggersBalance ∧ State.reset.hub.BudgetHolds ∧
    State.reset.hub.IsolationHolds ∧ State.reset.hub.FaultsIsolate ∧ State.reset.hub.LinksHold ∧
    State.reset.hub.SweepsHold ∧ State.reset.hub.LensesInTravel ∧ State.reset.hub.QueuesBounded ∧
    State.reset.hub.FramesHold ∧ State.reset.hub.WorkHolds ∧ State.reset.hub.AdmissionHolds

/-! ## The taking of requests -/

/-- A request whose target is not of a kind it takes is refused BAD_TARGET, and nothing else changes (R169, check 3). One
that is not the head, or that may not be taken, changes nothing (the model's choice, log entries 3 and 4); while the
taking state is not READY no request is taken (R169, R176). -/
def Obligations.RequestsAreCheckedFirst : Prop :=
  (∀ (i : Instr) (s : State) (pkt : Packet) (c : ReqCode) (r : ReqHeader) (ps : List Byte),
    requestPartsOf i = some (c, r, ps) → s.asks i pkt = true → targetFits c pkt.port = false →
    s.Refuses i pkt .badTarget) ∧
  ∀ (i : Instr) (s : State), (requestPartsOf i).isSome = true →
    ((∀ pkt, s.asks i pkt = false) → exec i s = .next s) ∧
    (s.hub.mgmt.taking ≠ .ready → exec i s = .next s ∧ exec .badRequest s = .next s)

/-- A request taken leaves the head of the request queue; no request but PART_RESET changes frame memory, hub time, the
overflow count or the trunk's state. -/
def Obligations.TakingsLeaveTheRest : Prop :=
  ∀ (i : Instr) (s t : State) (pkt : Packet), (∀ r, i ≠ .partReset r) → s.asks i pkt = true → exec i s = .next t →
    t.hub.mgmt.requests = s.hub.mgmt.requests.tail ∧ t.pending = s.pending ∧ t.dram = s.dram ∧
    t.hub.time = s.hub.time ∧ t.hub.mgmt.overflow = s.hub.mgmt.overflow ∧ t.hub.trunk.up = s.hub.trunk.up ∧
    t.hub.trunk.losses = s.hub.trunk.losses ∧ t.hub.encoder.errors = s.hub.encoder.errors ∧
    ∀ l, (t.hub.line l).input = (s.hub.line l).input

/-- Every request taken while the trunk is UP, but for the pass-through requests, has its reply, with its code, tag and
target, in the reply queue or on the lane at the end of its taking (R169). -/
def Obligations.EveryRequestIsAnswered : Prop :=
  ∀ (i : Instr) (s t : State) (pkt : Packet) (c : ReqCode) (r : ReqHeader) (ps : List Byte),
    requestPartsOf i = some (c, r, ps) → c ≠ .attrRead → c ≠ .attrWrite → s.asks i pkt = true →
    s.hub.trunk.up = true → exec i s = .next t →
    ∃ reply : Reply, replyPacket pkt.port pkt.tag (u16 (codeNumber c)) reply ∈ t.hub.trunk.replies ∨
      t.hub.trunk.lane = some (8, replyPacket pkt.port pkt.tag (u16 (codeNumber c)) reply)

/-- A request packet joins the tail of the request queue, or, where 16 wait, is discarded and counted with REQ_OVERFLOW;
nothing is received while the trunk is DOWN (R168, R156). A head packet that is no request, or whose length does not fit
its code, is refused BAD_REQUEST; a code byte that it does not hold is free (R169, log entry 16). -/
def Obligations.RequestsAreQueued : Prop :=
  (∀ (s : State) (pkt : Packet),
    (s.hub.trunk.up = true → s.hub.mgmt.requests.length < 16 →
      s.Does (.requestPacketReceived pkt) (s.hub.modMgmt fun m => { m with requests := m.requests ++ [pkt] })) ∧
    (s.hub.trunk.up = true → 16 ≤ s.hub.mgmt.requests.length →
      s.Does (.requestPacketReceived pkt)
        ((s.hub.modMgmt fun m => { m with overflow := m.overflow + 1 }).flagPart fReqOverflow)) ∧
    (s.hub.trunk.up = false → exec (.requestPacketReceived pkt) s = .next s)) ∧
  ∀ (s : State) (pkt : Packet) (rest : List Packet),
    s.hub.mgmt.requests = pkt :: rest → s.hub.mayTake = true → requestOf pkt = none →
    ∃ (code : List Byte) (free : Nat), code.length = 2 ∧ code.take pkt.payload.length = pkt.payload.take 2 ∧
      (2 ≤ pkt.payload.length → free = s.hub.freeCount) ∧
      exec .badRequest s = .next { s with
        hub := (({ s.hub.popRequest with freeCount := free }.replyDue).answer s.hub.trunk.replies.length
          (replyPacket pkt.port pkt.tag code (refuse .badRequest))).settle s.dram }

/-- The flags of an event are set and stay set; one notice with the state after the event is offered where a flag of an
enabled kind rises, behind the replies that answered slots keep (R171; none kept, the queue is as it was), and a full reply
queue leaves it unsent and counted (R172, R174). -/
def Obligations.FlagsRaiseNotices : Prop :=
  ∀ (h : Hub) (p : Port) (port part : BitVec 16),
    let due := (h.setFlags p port part).offerDue
    (h.mgmt.answered = [] → due.trunk = h.trunk) ∧
    vget (h.raise p port part).mgmt.portFlags p = vget h.mgmt.portFlags p ||| port ∧
    (∀ q, q ≠ p → vget (h.raise p port part).mgmt.portFlags q = vget h.mgmt.portFlags q) ∧
    (h.raise p port part).mgmt.partFlags = h.mgmt.partFlags ||| part ∧
    (h.rising p port part &&& h.mgmt.enables = 0#16 →
      (h.raise p port part).trunk = h.trunk ∧ (h.raise p port part).mgmt.unsent = h.mgmt.unsent) ∧
    (h.rising p port part &&& h.mgmt.enables ≠ 0#16 → h.trunk.up = true → due.replyRoom = true →
      (h.raise p port part).trunk =
        { due.trunk with replies := due.trunk.replies ++ [(h.raise p port part).noticePacket] } ∧
      (h.raise p port part).mgmt.unsent = h.mgmt.unsent) ∧
    (h.rising p port part &&& h.mgmt.enables ≠ 0#16 → h.trunk.up = true → due.replyRoom = false →
      (h.raise p port part).trunk = due.trunk ∧ (h.raise p port part).mgmt.unsent = h.mgmt.unsent + 1) ∧
    (h.rising p port part &&& h.mgmt.enables ≠ 0#16 → h.trunk.up = false →
      (h.raise p port part).trunk = { due.trunk with discarded := due.trunk.discarded + 1 } ∧
      (h.raise p port part).mgmt.unsent = h.mgmt.unsent)

/-- A grant decision, made at the end of an event with the trunk UP, no grant in progress and the lane free: the group
by the table of R160, the queue first in ring order after the group's last granted one (R161), the burst fixed (R162),
and the send of its head begun: the packet leaves its queue, and a packet that waits at the queue's pipeline is taken in
the event where the room now suffices (R159, R157). With the trunk DOWN, a grant in progress, the lane sending or no queue
waiting, nothing is granted. After every event the taking state is RESETTING where it was, else HELD where the trunk is UP
with 32 replies queued, else READY (R169, R176). -/
def Obligations.ArbiterGrantsInTurn : Prop :=
  ∀ (h : Hub) (m : Memory) (g : Group) (run : Nat) (q : QueueNo) (pkt : Packet) (rest : List Packet),
    (h.trunk.up = true → h.trunk.grant = none → h.trunk.lane = none →
      (g, run) =
        (if h.groupWaits .high = true ∧ h.groupWaits .low = true then
          if h.trunk.highRun < h.trunk.lowShare then (Group.high, h.trunk.highRun + 1) else (.low, 0)
        else if h.groupWaits .high = true then (.high, 0) else (.low, 0)) →
      h.queuePackets q = pkt :: rest → h.groupOf q = g →
      (∀ q' : QueueNo, h.queuePackets q' ≠ [] → h.groupOf q' = g →
        match (if g = .high then h.trunk.lastHigh else h.trunk.lastLow) with
        | none => q.val ≤ q'.val
        | some l => (q.val + 8 - l.val) % 9 ≤ (q'.val + 8 - l.val) % 9) →
      (h.settle m).trunk.lane = some (q, pkt) ∧
      (h.settle m).trunk.grant = some { queue := q, burst := h.burstOf q, sent := 1 } ∧
      (h.settle m).trunk.highRun = run ∧
      (h.settle m).trunk.lastHigh = (if g = .high then some q else h.trunk.lastHigh) ∧
      (h.settle m).trunk.lastLow = (if g = .low then some q else h.trunk.lastLow) ∧
      vget (h.settle m).trunk.sent q = vget h.trunk.sent q + 1 ∧
      (∀ q', q' ≠ q → vget (h.settle m).trunk.sent q' = vget h.trunk.sent q' ∧
        (h.settle m).queuePackets q' = h.queuePackets q') ∧
      h.SendBegun (h.settle m) m q rest) ∧
    (h.trunk.up = false ∨ h.trunk.grant ≠ none ∨ h.trunk.lane ≠ none ∨ (∀ q', h.queuePackets q' = []) →
      (h.settle m).trunk = h.trunk ∧ (h.settle m).pipe = h.pipe ∧ (h.settle m).frames = h.frames) ∧
    (h.settle m).mgmt = { h.mgmt with
      taking :=
        if h.mgmt.taking = .resetting then .resetting
        else if h.trunk.up = true ∧ 32 ≤ (h.settle m).trunk.replies.length then .held
        else .ready }

/-! ## Reads and the Management Unit's settings -/

/-- The requests that only read answer OK with what they read, and change nothing but the queue that held them (R13,
R36, R83, R104, R121, R136, R175). The model's are: the layout of the hub's FAULT_READ reply (log entry 16); the items of
FAULT_READ, LENS_READ and TRIGGER_READ that are not meaningful in their state (log entry 21); the bytes of a pair that was
not swept, of a stop that is not loaded and of a line's filter phase (log entry 26). -/
def Obligations.ReadsAnswerAndChangeNothing : Prop :=
  ∀ (s : State) (r : ReqHeader) (pkt : Packet) (p : Port),
    (s.asksHub (.identify r) pkt = true →
      s.Answers (.identify r) pkt s.hub.popRequest
        (okWith (u16 0x0C08 ++ u8 1 ++ [8, 4, 2, 16, 4, 4096, 8, 8, 16, 16, 32, 4].flatMap u16))) ∧
    (s.asksHub (.timeRead r) pkt = true →
      s.Answers (.timeRead r) pkt s.hub.popRequest (okWith (w32 s.hub.time))) ∧
    (s.asksPort (.portRead r) pkt p = true →
      s.Answers (.portRead r) pkt s.hub.popRequest (okWith (s.hub.portBytes p))) ∧
    (s.asksPort (.dropHistoryRead r) pkt p = true →
      s.Answers (.dropHistoryRead r) pkt s.hub.popRequest (okWith (s.hub.lk p).historyBytes)) ∧
    (s.asksPort (.lensRead r) pkt p = true →
      s.Answers (.lensRead r) pkt s.hub.popRequest (okWith (s.hub.lensBytes p))) ∧
    (s.asksHub (.triggerRead r) pkt = true →
      s.Answers (.triggerRead r) pkt s.hub.popRequest (okWith (s.hub.triggerBytes none))) ∧
    (s.asksPort (.triggerRead r) pkt p = true →
      s.Answers (.triggerRead r) pkt s.hub.popRequest (okWith (s.hub.triggerBytes (some p)))) ∧
    (s.asksHub (.faultRead r) pkt = true →
      s.Answers (.faultRead r) pkt s.hub.popRequest (okWith (s.hub.faultReadBytes none))) ∧
    (s.asksPort (.faultRead r) pkt p = true →
      s.Answers (.faultRead r) pkt s.hub.popRequest (okWith (s.hub.faultReadBytes (some p)))) ∧
    (s.asksPort (.frameList r) pkt p = true →
      s.Answers (.frameList r) pkt s.hub.popRequest (okWith (s.hub.fr p).listBytes))

/-- READ_EVENTS returns the flags of its target with the three counts and clears the flags it returns, no others (R173);
NOTICE_SET replaces the sixteen enables and sends no notice (R174). -/
def Obligations.EventFlagsReadAndEnabled : Prop :=
  ∀ (s : State) (r : ReqHeader) (pkt : Packet) (p : Port) (kinds : Nat),
    (s.asksHub (.readEvents r) pkt = true →
      s.Answers (.readEvents r) pkt
        (s.hub.popRequest.modMgmt fun m => { m with partFlags := 0, portFlags := Vector.replicate 8 0 })
        (okWith (u16 s.hub.mgmt.partFlags.toNat ++
          ([0, 1, 2, 3, 4, 5, 6, 7].flatMap fun q : Port => u16 (vget s.hub.mgmt.portFlags q).toNat) ++
          w32 s.hub.time ++ w32 s.hub.mgmt.overflow ++ w32 s.hub.mgmt.lateReplies ++ w32 s.hub.mgmt.unsent))) ∧
    (s.asksPort (.readEvents r) pkt p = true →
      s.Answers (.readEvents r) pkt
        (s.hub.popRequest.modMgmt fun m => { m with portFlags := vset m.portFlags p 0 })
        (okWith (u16 (vget s.hub.mgmt.portFlags p).toNat ++
          w32 s.hub.time ++ w32 s.hub.mgmt.overflow ++ w32 s.hub.mgmt.lateReplies ++ w32 s.hub.mgmt.unsent))) ∧
    (s.asksHub (.noticeSet r kinds) pkt = true → kinds < 65536 →
      s.Answers (.noticeSet r kinds) pkt
        (s.hub.popRequest.modMgmt fun m => { m with enables := BitVec.ofNat 16 kinds }) (okWith (u16 kinds)))

/-- ISOLATE sets or clears requested isolation alone; a rise of effective isolation turns a port in DETECTING, RAMPING,
ON or COOLDOWN off with cause ISOLATE, from ON with every consequence of leaving it, leaves one that is OFF or LOCKED as it
is, and a fall changes no power state (R6, R7, R9, R10, R50, R20, R22). -/
def Obligations.IsolateActs : Prop :=
  ∀ (s : State) (r : ReqHeader) (pkt : Packet) (p : Port) (action : Nat),
    s.asksPort (.isolate r action) pkt p = true →
    (2 ≤ action → s.Refuses (.isolate r action) pkt .range) ∧
    (action = 1 →
      s.Answers (.isolate r action) pkt { s.hub.popRequest with requestedIso := vset s.hub.requestedIso p false }
        (okWith (u8 0 ++ yesNo (s.hub.cb p).faultIsolation ++ yesNo (s.hub.cb p).faultIsolation ++
          powerCode (s.hub.pw p).state))) ∧
    (action = 0 →
      s.hub.effectiveIso p = true ∨ (s.hub.pw p).state = .off ∨ (s.hub.pw p).state = .locked →
      s.Answers (.isolate r action) pkt { s.hub.popRequest with requestedIso := vset s.hub.requestedIso p true }
        (okWith (u8 1 ++ yesNo (s.hub.cb p).faultIsolation ++ u8 1 ++ powerCode (s.hub.pw p).state))) ∧
    (action = 0 → s.hub.effectiveIso p = false → (s.hub.pw p).state ≠ .off → (s.hub.pw p).state ≠ .locked →
      ∃ h', s.Answers (.isolate r action) pkt h' (okWith (u8 1 ++ u8 0 ++ u8 1 ++ powerCode .off)) ∧
        h'.requestedIso = vset s.hub.requestedIso p true ∧ h'.cable = s.hub.cable ∧ h'.cables = s.hub.cables ∧
        (h'.pw p).trips = (s.hub.pw p).trips ∧ s.hub.TurnedOff h' p .isolate)

/-! ## Pass-through requests -/

/-- A pass-through request within its word count takes the lowest FREE slot and joins the camera command queue with the
port's next attribute number; it is refused RANGE, BUSY, LINK_DOWN or QUEUE_FULL by the first check that fails (R170,
R27). -/
def Obligations.PassThroughTaken : Prop :=
  ∀ (s : State) (r : ReqHeader) (pkt : Packet) (p : Port) (address count : Nat) (words : List Nat) (i : SlotNo),
    (s.asksPort (.attrRead r address count) pkt p = true →
      (¬ (1 ≤ count ∧ count ≤ 16) → s.Refuses (.attrRead r address count) pkt .range) ∧
      (1 ≤ count ∧ count ≤ 16 → (∀ j, vget s.hub.mgmt.slots j ≠ .free) →
        s.Refuses (.attrRead r address count) pkt .busy) ∧
      (1 ≤ count ∧ count ≤ 16 → vget s.hub.mgmt.slots i = .free → (∀ j, j < i → vget s.hub.mgmt.slots j ≠ .free) →
        ((s.hub.lk p).established = false → s.Refuses (.attrRead r address count) pkt .linkDown) ∧
        ((s.hub.lk p).established = true → 8 ≤ (s.hub.lk p).queue.length →
          s.Refuses (.attrRead r address count) pkt .queueFull) ∧
        ((s.hub.lk p).established = true → (s.hub.lk p).queue.length < 8 →
          s.Does (.attrRead r address count)
            (((s.hub.popRequest.modLink p fun l => LinkCtl.pump { l with
              queue := l.queue ++ [.attrRead i l.nextAttr address count], nextAttr := l.nextAttr + 1 }).setSlot i
              (.waiting pkt.tag p .read (s.hub.lk p).nextAttr (s.hub.time + 100000))).replyDue)))) ∧
    (s.asksPort (.attrWrite r address words) pkt p = true →
      (¬ (1 ≤ words.length ∧ words.length ≤ 16) → s.Refuses (.attrWrite r address words) pkt .range) ∧
      (1 ≤ words.length ∧ words.length ≤ 16 → (∀ j, vget s.hub.mgmt.slots j ≠ .free) →
        s.Refuses (.attrWrite r address words) pkt .busy) ∧
      (1 ≤ words.length ∧ words.length ≤ 16 → vget s.hub.mgmt.slots i = .free →
          (∀ j, j < i → vget s.hub.mgmt.slots j ≠ .free) →
        ((s.hub.lk p).established = false → s.Refuses (.attrWrite r address words) pkt .linkDown) ∧
        ((s.hub.lk p).established = true → 8 ≤ (s.hub.lk p).queue.length →
          s.Refuses (.attrWrite r address words) pkt .queueFull) ∧
        ((s.hub.lk p).established = true → (s.hub.lk p).queue.length < 8 →
          s.Does (.attrWrite r address words)
            (((s.hub.popRequest.modLink p fun l => LinkCtl.pump { l with
              queue := l.queue ++ [.attrWrite i l.nextAttr address words], nextAttr := l.nextAttr + 1 }).setSlot i
              (.waiting pkt.tag p .write (s.hub.lk p).nextAttr (s.hub.time + 100000))).replyDue))))

/-- A waiting slot is answered by an ATTR_REPLY with its port and attribute number, or by its deadline, with the status
and results of the table of R171; a reply that finds no such slot is late; a kept reply is offered when a place is free
or the trunk is DOWN, and all that are kept, in the order of the answers and as far as there is room, before any notice or
later slot's reply is (R171; the row of its own and the order within a drop, log entry 12; the lower of two slots with one
attribute number, log entry 35). -/
def Obligations.PassThroughAnswered : Prop :=
  ∀ (s : State) (p : Port) (i : SlotNo) (tag : BitVec 16) (kind : PassKind) (attr : BitVec 8) (deadline : HubTime)
    (status : Nat) (words : List Nat),
    (vget s.hub.mgmt.slots i = .waiting tag p kind attr deadline → 100000 ≤ elapsed s.hub.time (deadline - 100000) →
      ∃ h', s.Does (.passThroughTimeout i) h' ∧
        s.hub.SlotReplied h' i (replyPacket (BitVec.ofNat 8 p.val) tag (u16 (codeNumber (passCode kind))) (refuse .timeout))) ∧
    (vget s.hub.mgmt.slots i = .waiting tag p kind attr deadline → elapsed s.hub.time (deadline - 100000) < 100000 →
      exec (.passThroughTimeout i) s = .next s) ∧
    ((s.hub.lk p).established = true → vget s.hub.mgmt.slots i = .waiting tag p kind attr deadline →
      (∀ j, j < i → (vget s.hub.mgmt.slots j).waitsFor p attr = false) →
      ∃ h', s.Does (.attrReply p attr.toNat status words) h' ∧
        s.hub.SlotReplied h' i (replyPacket (BitVec.ofNat 8 p.val) tag (u16 (codeNumber (passCode kind)))
          (if status ≠ 0 then { status := .cameraError, results := u8 status }
          else if kind = .read then okWith (u8 words.length ++ words.flatMap u16) else okWith []))) ∧
    ((s.hub.lk p).established = true → (∀ j, (vget s.hub.mgmt.slots j).waitsFor p attr = false) →
      s.Does (.attrReply p attr.toNat status words)
        ((s.hub.modMgmt fun m => { m with lateReplies := m.lateReplies + 1 }).flag p fPassLate)) ∧
    ((s.hub.lk p).established = false → exec (.attrReply p attr.toNat status words) s = .next s) ∧
    (∀ reply rest, s.hub.mgmt.answered = i :: rest → vget s.hub.mgmt.slots i = .answered reply →
      s.hub.trunk.up = false ∨ s.hub.replyRoom = true →
      s.Does .answeredSlotReplyOffer
        ((s.hub.modTrunk fun t =>
          if t.up then { t with replies := t.replies ++ [reply] } else { t with discarded := t.discarded + 1 }).modMgmt
          fun m => { m with slots := vset m.slots i .free, answered := rest })) ∧
    (s.hub.trunk.up = true → s.hub.replyRoom = false → exec .answeredSlotReplyOffer s = .next s) ∧
    ∀ h : Hub,
      (h.mgmt.answered = [] → h.offerDue = h) ∧ (h.trunk.up = true → h.replyRoom = false →
        (∀ j ∈ h.mgmt.answered, ∃ reply, vget h.mgmt.slots j = .answered reply) → h.offerDue = h) ∧
      ∀ reply rest, h.mgmt.answered = i :: rest → vget h.mgmt.slots i = .answered reply →
        h.trunk.up = false ∨ h.replyRoom = true →
        h.offerDue = ((h.modTrunk fun t =>
          if t.up then { t with replies := t.replies ++ [reply] } else { t with discarded := t.discarded + 1 }).modMgmt
          fun m => { m with slots := vset m.slots i .free, answered := rest }).offerDue

/-! ## Camera power -/

/-- BUDGET_SET takes the budget, clamped to 200,000 mW, and sheds ports in the order of R41 until the granted total fits:
the ports shed are OFF with cause SHED, lowest priority first and the higher number among equals, no more of them than it
takes, each that was ON with every consequence of leaving ON; every other port keeps its power, link and lens items (R40,
R41, R50). -/
def Obligations.BudgetSetSheds : Prop :=
  ∀ (s : State) (r : ReqHeader) (pkt : Packet) (budget : Nat),
    s.asksHub (.budgetSet r budget) pkt = true →
    (∀ p, (s.hub.pw p).allowanceHeld = true → (s.hub.pw p).state = .on) →
    ∃ (h' : Hub) (shed : List Port),
      s.Answers (.budgetSet r budget) pkt h'
        { status := if 200000 < budget then .clamped else .ok
          results := u32 (Nat.min budget 200000) ++ u32 h'.grantedTotal ++ (u8 shed.length ++ shed.flatMap fun p => u8 p.val) ++
            u16 s.hub.cell.supplySample ++ supplyCode s.hub.cell.monitor } ∧
      h'.cell = { s.hub.cell with budget := Nat.min budget 200000 } ∧ h'.grantedTotal ≤ h'.cell.budget ∧
      (s.hub.grantedTotal ≤ Nat.min budget 200000 → shed = [] ∧
        h' = s.hub.popRequest.modCell fun c => { c with budget := Nat.min budget 200000 }) ∧
      (shed ≠ [] → h'.mgmt.partFlags &&& fShed = fShed) ∧
      (∀ p, p ∉ shed → h'.pw p = s.hub.pw p ∧ h'.lk p = s.hub.lk p ∧ h'.ln p = s.hub.ln p ∧ h'.tg p = s.hub.tg p ∧
        h'.fr p = s.hub.fr p) ∧
      (∀ front last, shed = front ++ [last] →
        Nat.min budget 200000 < h'.grantedTotal + (s.hub.pw last).grant +
          (if (s.hub.pw last).allowanceHeld then (s.hub.pw last).allowance else 0)) ∧
      (∀ p, p ∈ shed → (s.hub.pw p).powered = true ∧ (h'.pw p).state = .off ∧ (h'.pw p).cause = .shed ∧
        (h'.pw p).allowanceHeld = false ∧ (h'.pw p).trips = (s.hub.pw p).trips ∧
        vget h'.mgmt.portFlags p &&& fPower = fPower ∧
        ((s.hub.pw p).state = .on → (s.hub.lk p).history.length ≤ 16 → s.hub.LeftOn h' p) ∧
        ((s.hub.pw p).state ≠ .on → h'.lk p = s.hub.lk p ∧ h'.ln p = s.hub.ln p ∧ h'.fr p = s.hub.fr p)) ∧
      (shed.Pairwise fun a b => (s.hub.pw a).priority < (s.hub.pw b).priority ∨
        (s.hub.pw a).priority = (s.hub.pw b).priority ∧ b < a) ∧
      ∀ a b, a ∈ shed → b ∉ shed → (s.hub.pw b).powered = true →
        (s.hub.pw a).priority < (s.hub.pw b).priority ∨ (s.hub.pw a).priority = (s.hub.pw b).priority ∧ b < a

/-- PORT_POWER_SET is refused RANGE, then POWERED while the port is DETECTING, RAMPING or ON, and otherwise replaces the
four values together (R43). -/
def Obligations.PortPowerSetReplacesFour : Prop :=
  ∀ (s : State) (r : ReqHeader) (pkt : Packet) (p : Port) (g l pr a : Nat),
    s.asksPort (.portPowerSet r g l pr a) pkt p = true →
    (¬ (1000 ≤ g ∧ g ≤ 25000 ∧ 100 ≤ l ∧ l ≤ 1200 ∧ pr ≤ 7 ∧ a ≤ 10000) →
      s.Refuses (.portPowerSet r g l pr a) pkt .range) ∧
    (1000 ≤ g ∧ g ≤ 25000 ∧ 100 ≤ l ∧ l ≤ 1200 ∧ pr ≤ 7 ∧ a ≤ 10000 →
      ((s.hub.pw p).state = .detecting ∨ (s.hub.pw p).state = .ramping ∨ (s.hub.pw p).state = .on →
        s.Refuses (.portPowerSet r g l pr a) pkt .powered) ∧
      ((s.hub.pw p).state = .off ∨ (s.hub.pw p).state = .cooldown ∨ (s.hub.pw p).state = .locked →
        s.Answers (.portPowerSet r g l pr a) pkt
          (s.hub.popRequest.modPower p fun q => { q with grant := g, limit := l, priority := pr, allowance := a })
          (okWith (u16 g ++ u16 l ++ u8 pr ++ u16 a))))

/-- POWER_ON makes its six checks in order; the one that is accepted enters DETECTING with cause NONE for 20,000 µs and
sets POWER, every other leaves the hub as it is, and every reply carries power state, off cause and granted total as
the request leaves them (R44). -/
def Obligations.PowerOnChecksInOrder : Prop :=
  ∀ (s : State) (r : ReqHeader) (pkt : Packet) (p : Port),
    s.asksPort (.powerOn r) pkt p = true →
    let reply (status : Status) (h' : Hub) : Reply :=
      { status := status
        results := powerCode (h'.pw p).state ++ causeCode (h'.pw p).cause ++ u32 h'.grantedTotal }
    let stays (status : Status) : Prop :=
      s.Answers (.powerOn r) pkt s.hub.popRequest (reply status s.hub)
    (s.hub.effectiveIso p = true → stays .isolated) ∧
    (s.hub.effectiveIso p = false →
      ((s.hub.cb p).sweepStatus ≠ .idle → stays .sweeping) ∧
      ((s.hub.cb p).sweepStatus = .idle →
        ((s.hub.pw p).state = .locked → stays .locked) ∧
        ((s.hub.pw p).powered = true → stays .ok) ∧
        ((s.hub.pw p).state = .off ∨ (s.hub.pw p).state = .cooldown →
          (s.hub.cell.budget < s.hub.grantedTotal + (s.hub.pw p).grant → stays .noBudget) ∧
          (s.hub.grantedTotal + (s.hub.pw p).grant ≤ s.hub.cell.budget →
            ∃ h', h' = ((s.hub.popRequest.modPower p fun q =>
                { q with state := .detecting, cause := .none, phaseEnd := s.hub.time + 20000, postponed := false }).flag p
                fPower) ∧
              s.Answers (.powerOn r) pkt h' (reply .ok h')))))

/-- POWER_OFF is answered OK with OFF and REQUESTED in every state: an OFF port takes the cause alone and no flag; any
other is turned off, from ON with every consequence of leaving it, its trip history emptied from LOCKED and kept from every
other state (R54, R50, R20, R22). -/
def Obligations.PowerOffActs : Prop :=
  ∀ (s : State) (r : ReqHeader) (pkt : Packet) (p : Port),
    s.asksPort (.powerOff r) pkt p = true →
    ((s.hub.pw p).state = .off →
      s.Answers (.powerOff r) pkt (s.hub.popRequest.modPower p fun q => { q with cause := .requested })
        (okWith (powerCode .off ++ causeCode .requested))) ∧
    ((s.hub.pw p).state ≠ .off →
      ∃ h', s.Answers (.powerOff r) pkt h' (okWith (powerCode .off ++ causeCode .requested)) ∧
        s.hub.TurnedOff h' p .requested ∧ h'.cable = s.hub.cable ∧ h'.cables = s.hub.cables ∧
        (h'.pw p).trips = if (s.hub.pw p).state = .locked then [] else (s.hub.pw p).trips)

/-- The end of DETECTING (R45), the output of a soft start reaching 90% of the supply sample (R46) and the end of a
COOLDOWN (R51): each happens in its own state once its time has come, and takes the port on, or OFF with the cause the
rule gives. -/
def Obligations.PowerPhasesEnd : Prop :=
  ∀ (s : State) (p : Port) (load output : Nat),
    ((s.hub.pw p).state = .detecting → 20000 ≤ elapsed s.hub.time ((s.hub.pw p).phaseEnd - 20000) →
      (10000 ≤ load → load ≤ 50000000 →
        s.Does (.detectionEnd p load)
          ((s.hub.modPower p fun q => { q with state := .ramping, phaseEnd := s.hub.time + 10000 }).flag p fPower)) ∧
      ((s.hub.cb p).onDetectFail = false →
        (load < 10000 → ∃ h', s.Does (.detectionEnd p load) h' ∧ s.hub.TurnedOff h' p .detectShort ∧
          h'.cable = s.hub.cable ∧ (h'.pw p).trips = (s.hub.pw p).trips) ∧
        (50000000 < load → ∃ h', s.Does (.detectionEnd p load) h' ∧ s.hub.TurnedOff h' p .detectOpen ∧
          h'.cable = s.hub.cable ∧ (h'.pw p).trips = (s.hub.pw p).trips)) ∧
      ((s.hub.cb p).onDetectFail = true → (s.hub.cb p).sweepStatus = .idle → load < 10000 ∨ 50000000 < load →
        ∃ h', s.Does (.detectionEnd p load) h' ∧ (h'.pw p).state = .off ∧
          (h'.pw p).cause = (if load < 10000 then .detectShort else .detectOpen) ∧
          (h'.cb p).sweepStatus ≠ .idle ∧ ∀ q, q ≠ p → h'.pw q = s.hub.pw q ∧ h'.lk q = s.hub.lk q)) ∧
    ((s.hub.pw p).state = .ramping → s.hub.cell.supplySample * 9 ≤ output * 10 → (s.hub.lk p).state = .down →
      s.Does (.rampOutputReached p output)
        ((((s.hub.modPower p fun q => { q with state := .on, overSince := none }).flag p fPower).modLink p fun l =>
          { l with state := .training, attempt := 1, attemptStart := s.hub.time, channel := .training trainingBytes }).flag p
            fLink)) ∧
    ((s.hub.pw p).state = .cooldown → (s.hub.pw p).postponed = false →
      500000 ≤ elapsed s.hub.time ((s.hub.pw p).cooldownEnd - 500000) →
      ((s.hub.cb p).sweepStatus ≠ .idle →
        s.Does (.cooldownEnd p) (s.hub.modPower p fun q => { q with postponed := true })) ∧
      ((s.hub.cb p).sweepStatus = .idle → s.hub.effectiveIso p = false →
        (s.hub.grantedTotal + (s.hub.pw p).grant ≤ s.hub.cell.budget →
          s.Does (.cooldownEnd p)
            ((s.hub.modPower p fun q =>
              { q with state := .detecting, cause := .none, phaseEnd := s.hub.time + 20000, postponed := false }).flag p
              fPower)) ∧
        (s.hub.cell.budget < s.hub.grantedTotal + (s.hub.pw p).grant →
          ∃ h', s.Does (.cooldownEnd p) h' ∧ s.hub.TurnedOff h' p .noBudget ∧ h'.cable = s.hub.cable ∧
            (h'.pw p).trips = (s.hub.pw p).trips)))

/-- While the port is ON, a current that rises above the limit starts an excursion, one that falls to it or below ends
the excursion, and the end of the 2 ms finds nothing to trip where the current is no longer above the limit (R47; a current
above twice the limit is a HARD_SHORT by TripsCoolOrLock). -/
def Obligations.OvercurrentExcursions : Prop :=
  ∀ (s : State) (p : Port) (current : Nat), (s.hub.pw p).state = .on → current ≤ 2 * (s.hub.pw p).limit →
    ((s.hub.pw p).limit < current → (s.hub.pw p).overSince = none →
      s.Does (.overcurrentRise p current) (s.hub.modPower p fun q => { q with overSince := some s.hub.time })) ∧
    ((s.hub.pw p).limit < current → (s.hub.pw p).overSince ≠ none → exec (.overcurrentRise p current) s = .next s) ∧
    (current ≤ (s.hub.pw p).limit → exec (.overcurrentRise p current) s = .next s) ∧
    (current ≤ (s.hub.pw p).limit →
      s.Does (.overcurrentFall p current) (s.hub.modPower p fun q => { q with overSince := none })) ∧
    ((s.hub.pw p).limit < current → exec (.overcurrentFall p current) s = .next s) ∧
    (current ≤ (s.hub.pw p).limit ∨ (s.hub.pw p).overSince = none ∨
        (∃ t, (s.hub.pw p).overSince = some t ∧ elapsed s.hub.time t < 2000) → exec (.trip p current) s = .next s) ∧
    exec (.hardShort p current) s = .next s

/-- A trip by any of its three causes: the history keeps the last three times; the port enters LOCKED by a hard short or
by three trips within 10 s, else COOLDOWN for 500,000 µs; TRIP and POWER are set, and LOCK with LOCKED; a port that was
ON leaves it with every consequence, a POWER_LOST drop of an established link among them; no other port changes (R47, R48,
R50, R20). A current above twice the limit is a hard short at once, whatever overcurrent since holds, by whichever row it
is reported (R47; of a row whose own condition does not hold, log entry 32). -/
def Obligations.TripsCoolOrLock : Prop :=
  ∀ (s : State) (p : Port) (i : Instr) (cause : OffCause) (x : Nat),
    (i = .rampFail p x ∧ cause = .rampFail ∧ (s.hub.pw p).state = .ramping ∧
        10000 ≤ elapsed s.hub.time ((s.hub.pw p).phaseEnd - 10000) ∧ x * 10 < s.hub.cell.supplySample * 9) ∨
      (i = .trip p x ∧ cause = .trip ∧ (s.hub.pw p).state = .on ∧ (s.hub.pw p).limit < x ∧ x ≤ 2 * (s.hub.pw p).limit ∧
        ∃ t, (s.hub.pw p).overSince = some t ∧ 2000 ≤ elapsed s.hub.time t) ∨
      ((i = .hardShort p x ∨ i = .trip p x ∨ i = .overcurrentRise p x ∨ i = .overcurrentFall p x) ∧ cause = .hardShort ∧
        (s.hub.pw p).state = .on ∧ 2 * (s.hub.pw p).limit < x) →
    (s.hub.pw p).trips.length ≤ 3 →
    ∃ (h' : Hub) (locks : Bool),
      s.Does i h' ∧
      (h'.pw p).trips = ((s.hub.pw p).trips.drop ((s.hub.pw p).trips.length - 2)) ++ [s.hub.time] ∧
      (locks = true ↔ cause = .hardShort ∨
        (2 ≤ (s.hub.pw p).trips.length ∧
          elapsed s.hub.time (((s.hub.pw p).trips.drop ((s.hub.pw p).trips.length - 2)).headD 0) < 10000000)) ∧
      (h'.pw p).state = (if locks then .locked else .cooldown) ∧ (h'.pw p).cause = cause ∧
      (h'.pw p).allowanceHeld = false ∧
      (locks = false → (h'.pw p).cooldownEnd = s.hub.time + 500000 ∧ (h'.pw p).postponed = false) ∧
      (let flags := fTrip ||| fPower ||| (if locks then fLock else 0)
       vget h'.mgmt.portFlags p &&& flags = flags) ∧
      ((s.hub.pw p).state = .on → (s.hub.lk p).history.length ≤ 16 → s.hub.LeftOn h' p) ∧
      ((s.hub.pw p).state ≠ .on → h'.lk p = s.hub.lk p ∧ h'.ln p = s.hub.ln p ∧ h'.fr p = s.hub.fr p) ∧
      (∀ q, q ≠ p → h'.pw q = s.hub.pw q ∧ h'.lk q = s.hub.lk q ∧ h'.ln q = s.hub.ln q ∧ h'.tg q = s.hub.tg q ∧
        h'.fr q = s.hub.fr q) ∧
      ((s.hub.cb p).onHardShort = false → (s.hub.cb p).onLock = false → h'.cable = s.hub.cable) ∧
      ((s.hub.cb p).sweepStatus = .idle →
        ((h'.cb p).sweepStatus ≠ .idle ↔ cause = .hardShort ∧ (s.hub.cb p).onHardShort = true ∨
          locks = true ∧ (s.hub.cb p).onLock = true))

/-- The supply monitor: NORMAL to LOW at a sample below 20,000 mV, back at one that is not, LOW to SAG with a shed 2,000
µs into the run, and in SAG one shed each 5,000 µs; a shed turns off the powered port of lowest priority, the higher
number among equals, with cause UNDERVOLT and, from ON, with every consequence of leaving it (R57, R58, R41, R50). -/
def Obligations.SupplyMonitorSheds : Prop :=
  ∀ (s : State) (mv : Nat),
    (20000 ≤ mv →
      s.Does (.supplySample mv) (s.hub.modCell fun c => { c with supplySample := mv, monitor := .normal })) ∧
    (mv < 20000 →
      (s.hub.cell.monitor = .normal →
        s.Does (.supplySample mv)
          (s.hub.modCell fun c => { c with supplySample := mv, monitor := .low, lowSince := s.hub.time })) ∧
      (s.hub.cell.monitor = .low → elapsed s.hub.time s.hub.cell.lowSince < 2000 →
        s.Does (.supplySample mv) (s.hub.modCell fun c => { c with supplySample := mv })) ∧
      (s.hub.cell.monitor = .sag → elapsed s.hub.time (s.hub.cell.nextShed - 5000) < 5000 →
        s.Does (.supplySample mv) (s.hub.modCell fun c => { c with supplySample := mv })) ∧
      (s.hub.cell.monitor = .low ∧ 2000 ≤ elapsed s.hub.time s.hub.cell.lowSince ∨
          s.hub.cell.monitor = .sag ∧ 5000 ≤ elapsed s.hub.time (s.hub.cell.nextShed - 5000) →
        ∃ h', s.Does (.supplySample mv) h' ∧
          h'.cell = { s.hub.cell with
            supplySample := mv, monitor := .sag
            nextShed := (if s.hub.cell.monitor = .low then s.hub.time else s.hub.cell.nextShed) + 5000 } ∧
          (s.hub.cell.monitor = .low → h'.mgmt.partFlags &&& fUndervolt = fUndervolt) ∧
          ((∀ p, (s.hub.pw p).powered = false) → h'.power = s.hub.power) ∧
          ∀ p, (s.hub.pw p).powered = true →
            (∀ q, (s.hub.pw q).powered = true → q ≠ p →
              (s.hub.pw p).priority < (s.hub.pw q).priority ∨
                (s.hub.pw p).priority = (s.hub.pw q).priority ∧ q < p) →
            (h'.pw p).state = .off ∧ (h'.pw p).cause = .undervolt ∧ (h'.pw p).allowanceHeld = false ∧
            h'.mgmt.partFlags &&& fUndervolt = fUndervolt ∧ vget h'.mgmt.portFlags p &&& fPower = fPower ∧
            ((s.hub.pw p).state = .on → (s.hub.lk p).history.length ≤ 16 → s.hub.LeftOn h' p) ∧
            ∀ q, q ≠ p → h'.pw q = s.hub.pw q ∧ h'.lk q = s.hub.lk q ∧ h'.ln q = s.hub.ln q ∧ h'.fr q = s.hub.fr q))

/-! ## Camera link -/

/-- LINK_SET replaces both thresholds or is refused RANGE (R26); LINK_TEST sets the test count while the link is UP or
DEGRADED, or is refused RANGE, then LINK_DOWN (R32). Neither changes anything else. -/
def Obligations.LinkSettingsReplaced : Prop :=
  ∀ (s : State) (r : ReqHeader) (pkt : Packet) (p : Port) (e d n : Nat),
    (s.asksPort (.linkSet r e d) pkt p = true →
      (1 ≤ e ∧ e ≤ 255 ∧ 1 ≤ d ∧ d ≤ 15 →
        s.Answers (.linkSet r e d) pkt (s.hub.popRequest.modLink p fun l => { l with degradeAt := e, dropAt := d })
          (okWith (u8 e ++ u8 d))) ∧
      (¬ (1 ≤ e ∧ e ≤ 255 ∧ 1 ≤ d ∧ d ≤ 15) → s.Refuses (.linkSet r e d) pkt .range)) ∧
    (s.asksPort (.linkTest r n) pkt p = true →
      (¬ (1 ≤ n ∧ n ≤ 15) → s.Refuses (.linkTest r n) pkt .range) ∧
      (1 ≤ n → n ≤ 15 → (s.hub.lk p).established = false → s.Refuses (.linkTest r n) pkt .linkDown) ∧
      (1 ≤ n → n ≤ 15 → (s.hub.lk p).established = true →
        s.Answers (.linkTest r n) pkt (s.hub.popRequest.modLink p fun l => { l with testCount := n }) (okWith (u8 n))))

/-- Training: an attempt of 200 ms is followed by the next, the third by DOWN with TRAIN_FAIL and, with ON_LINK_FAIL, an
automatic sweep that powers the port down; a lock reply brings the link UP with a new error window, and elsewhere does
nothing (R17, R18, R19, R16). -/
def Obligations.TrainingEndsInLockOrFailure : Prop :=
  ∀ (s : State) (p : Port),
    ((s.hub.lk p).state = .training → 200000 ≤ elapsed s.hub.time (s.hub.lk p).attemptStart →
      ((s.hub.lk p).attempt < 3 →
        s.Does (.trainingAttemptEnd p)
          (s.hub.modLink p fun l => { l with attempt := l.attempt + 1, attemptStart := s.hub.time })) ∧
      (3 ≤ (s.hub.lk p).attempt → (s.hub.cb p).onLinkFail = false →
        s.Does (.trainingAttemptEnd p)
          ((s.hub.modLink p fun l => { l with state := .down, note := .trainFail, channel := .idle }).flag p fLink)) ∧
      (3 ≤ (s.hub.lk p).attempt → (s.hub.cb p).onLinkFail = true → (s.hub.cb p).sweepStatus = .idle →
          (s.hub.pw p).state = .on →
        ∃ h', s.Does (.trainingAttemptEnd p) h' ∧ (h'.lk p).state = .down ∧ (h'.lk p).note = .trainFail ∧
          (h'.lk p).drops = (s.hub.lk p).drops ∧ (h'.lk p).history = (s.hub.lk p).history ∧
          (h'.pw p).state = .off ∧ (h'.pw p).cause = .sweep ∧ (h'.cb p).sweepStatus ≠ .idle ∧
          ∀ q, q ≠ p → h'.pw q = s.hub.pw q ∧ h'.lk q = s.hub.lk q)) ∧
    ((s.hub.lk p).state = .training → elapsed s.hub.time (s.hub.lk p).attemptStart < 200000 →
      exec (.trainingAttemptEnd p) s = .next s) ∧
    ((s.hub.lk p).state = .training →
      s.Does (.lockReply p)
        ((s.hub.modLink p fun l =>
          { l with
            state := .up, channel := .idle, windowStart := s.hub.time, windowErrors := 0, sequence := false
            sendCount := 0, note := .none }).flag p fLink)) ∧
    ((s.hub.lk p).state ≠ .training → exec (.lockReply p) s = .next s)

/-- Link errors: a bad packet is counted and is one error of the window; E errors degrade the link in the same event and
mark the frame being filled; at a window's end the errors become 0, the start advances by 100,000 µs, and a DEGRADED
link whose window saw none enters UP (R16, R24, R25, R128). -/
def Obligations.LinkErrorsDegrade : Prop :=
  ∀ (s : State) (p : Port) (bytes : List Byte),
    ((s.hub.lk p).established = true → readUp bytes = none →
      ((s.hub.lk p).state = .degraded ∨ Nat.min 65535 ((s.hub.lk p).windowErrors + 1) < (s.hub.lk p).degradeAt →
        s.Does (.badUpstreamPacket p bytes)
          (s.hub.modLink p fun l =>
            { l with crcErrors := l.crcErrors + 1, windowErrors := Nat.min 65535 (l.windowErrors + 1) })) ∧
      ((s.hub.lk p).state = .up → (s.hub.lk p).degradeAt ≤ Nat.min 65535 ((s.hub.lk p).windowErrors + 1) →
        s.Does (.badUpstreamPacket p bytes)
          (((s.hub.modLink p fun l =>
            { l with
              crcErrors := l.crcErrors + 1, windowErrors := Nat.min 65535 (l.windowErrors + 1)
              state := .degraded }).flag p fDegrade).modFrames p fun f =>
            { f with
              table := f.table.map fun x =>
                if x.state = .filling then { x with flags := x.flags ||| flagDegradedLink } else x }))) ∧
    ((s.hub.lk p).established = false ∨ readUp bytes ≠ none → exec (.badUpstreamPacket p bytes) s = .next s) ∧
    ((s.hub.lk p).established = true → 100000 ≤ elapsed s.hub.time (s.hub.lk p).windowStart →
      ((s.hub.lk p).state = .degraded → (s.hub.lk p).windowErrors = 0 →
        s.Does (.errorWindowEnd p)
          ((s.hub.modLink p fun l =>
            { l with windowErrors := 0, windowStart := l.windowStart + 100000, state := .up }).flag p fDegrade)) ∧
      ((s.hub.lk p).state = .up ∨ (s.hub.lk p).windowErrors ≠ 0 →
        s.Does (.errorWindowEnd p)
          (s.hub.modLink p fun l => { l with windowErrors := 0, windowStart := l.windowStart + 100000 }))) ∧
    ((s.hub.lk p).established = false ∨ elapsed s.hub.time (s.hub.lk p).windowStart < 100000 →
      exec (.errorWindowEnd p) s = .next s)

/-- Loss of lock is a drop: its record joins the history, the command queue is flushed, the context closed, TRAINING
entered with attempt 1; the axes in motion are lost, the trigger in hand is counted and given up, the frame being filled
removed, and every slot waiting on the port answered; idle axes and other ports stay. With ON_DROPS and D such drops in
10 s the port is powered down for a sweep instead (R21, R22, R23, R97, R119, R131, R171). -/
def Obligations.LossOfLockDropsTheLink : Prop :=
  ∀ (s : State) (p : Port),
    ((s.hub.lk p).established = false → exec (.lossOfLock p) s = .next s) ∧
    ((s.hub.lk p).established = true → (s.hub.lk p).history.length ≤ 16 →
      let history := (s.hub.lk p).historyWith (s.hub.dropSeen p .lossOfLock)
      let recent := (history.filter fun r => r.cause = .lossOfLock && decide (elapsed s.hub.time r.time < 10000000)).length
      ((s.hub.cb p).onDrops = false ∨ recent < (s.hub.lk p).dropAt →
        ∃ h', s.Does (.lossOfLock p) h' ∧
          h'.lk p = { s.hub.lk p with
            state := .training, attempt := 1, attemptStart := s.hub.time, channel := .training trainingBytes
            history := history, drops := (s.hub.lk p).drops + 1, testCount := 0, pendingTrigger := none, queue := [], sendCount := 0
            ackWait := none, waitEnded := false, context := none } ∧
          s.hub.LinkDropped h' p .lossOfLock ∧
          (∀ x, (s.hub.ax p x).moving = false → (h'.ax p x).position = (s.hub.ax p x).position ∧
            (h'.ax p x).motion = .idle ∧ (h'.ax p x).outcome = (s.hub.ax p x).outcome) ∧
          (∀ i, (vget s.hub.mgmt.slots i).waitsOn p = false → vget h'.mgmt.slots i = vget s.hub.mgmt.slots i ∨
            (∃ reply, vget s.hub.mgmt.slots i = .answered reply) ∧ vget h'.mgmt.slots i = .free) ∧
          (h'.pw p).state = (s.hub.pw p).state ∧ vget h'.mgmt.portFlags p &&& fLink = fLink ∧ h'.cable = s.hub.cable ∧
          ∀ q, q ≠ p → h'.pw q = s.hub.pw q ∧ h'.lk q = s.hub.lk q ∧ h'.ln q = s.hub.ln q ∧ h'.tg q = s.hub.tg q ∧
            h'.fr q = s.hub.fr q) ∧
      ((s.hub.cb p).onDrops = true → (s.hub.lk p).dropAt ≤ recent → (s.hub.cb p).sweepStatus = .idle →
          (s.hub.pw p).state = .on →
        ∃ h', s.Does (.lossOfLock p) h' ∧ (h'.lk p).state = .down ∧ (h'.lk p).note = .powerLost ∧
          s.hub.LinkDropped h' p .lossOfLock ∧ (∀ x, (h'.ax p x).position = none ∧ (h'.ax p x).motion = .idle) ∧
          (h'.pw p).state = .off ∧ (h'.pw p).cause = .sweep ∧ (h'.pw p).allowanceHeld = false ∧
          (h'.cb p).sweepStatus ≠ .idle ∧ ∀ q, q ≠ p → h'.pw q = s.hub.pw q ∧ h'.lk q = s.hub.lk q ∧ h'.fr q = s.hub.fr q))

/-- Acknowledgements: an ACK with the sequence of the command in flight completes it, any other is stray; a wait that
ends after the first or second send resends the command, after the third fails it with NO_ACK, one link error: the slot that
waits for it produces its NO_ACK reply, and an axis in motion with no later command is lost (R28, R29, R30, R32, R93, R171;
an ACK after the wait has ended behind a trigger, log entry 27). -/
def Obligations.CommandsAreAcknowledged : Prop :=
  ∀ (s : State) (p : Port) (sequence : Nat) (c : Command) (rest : List Command),
    ((s.hub.lk p).established = true →
      (s.hub.lk p).sendCount = 0 ∨ (s.hub.lk p).queue = [] ∨ (s.hub.lk p).sequence ≠ decide (sequence % 2 = 1) →
      s.Does (.ack p sequence) (s.hub.modLink p fun l => { l with strayAcks := l.strayAcks + 1 })) ∧
    ((s.hub.lk p).established = true → 0 < (s.hub.lk p).sendCount → (s.hub.lk p).queue = c :: rest →
      (s.hub.lk p).sequence = decide (sequence % 2 = 1) →
      ∃ h', s.Does (.ack p sequence) h' ∧ (h'.lk p).queue = rest ∧ (h'.lk p).sequence = !(s.hub.lk p).sequence ∧
        (h'.lk p).ackWait = none ∧ (h'.lk p).strayAcks = (s.hub.lk p).strayAcks ∧
        (h'.lk p).resends = (s.hub.lk p).resends ∧ (h'.lk p).noAcks = (s.hub.lk p).noAcks ∧
        (h'.lk p).sendCount =
          (if (s.hub.lk p).channel = .idle ∧ (s.hub.lk p).pendingTrigger = none ∧ rest ≠ [] then 1 else 0) ∧
        h'.mgmt = s.hub.mgmt ∧ h'.trig = s.hub.trig ∧ h'.power = s.hub.power ∧
        (∀ x, (∃ target, c = .lensMove x target) ∨ c = .lensHome x ∨ c = .lensStop x →
          h'.ax p x = { s.hub.ax p x with pending := (s.hub.ax p x).pending - 1 } ∧
          ∀ y, y ≠ x → h'.ax p y = s.hub.ax p y) ∧
        ((∃ slot attr address count, c = .attrRead slot attr address count) ∨
          (∃ slot attr address words, c = .attrWrite slot attr address words) → h'.lens = s.hub.lens)) ∧
    (∀ start, (s.hub.lk p).ackWait = some start → 2000 ≤ elapsed s.hub.time start → (s.hub.lk p).channel = .idle →
      (s.hub.lk p).pendingTrigger = none → 0 < (s.hub.lk p).sendCount → (s.hub.lk p).queue = c :: rest →
      ((s.hub.lk p).sendCount < 3 →
        s.Does (.ackWaitEnd p)
          (s.hub.modLink p fun l =>
            { l with
              channel := .command (if 0 < l.testCount then withBadCrc (c.body l.sequence true)
                else withCrc (c.body l.sequence true))
              testCount := l.testCount - 1, sendCount := l.sendCount + 1, ackWait := none, waitEnded := false
              resends := l.resends + 1 })) ∧
      (3 ≤ (s.hub.lk p).sendCount →
        ∃ h', s.Does (.ackWaitEnd p) h' ∧ (h'.lk p).queue = rest ∧ (h'.lk p).sequence = !(s.hub.lk p).sequence ∧
          (h'.lk p).noAcks = (s.hub.lk p).noAcks + 1 ∧
          (h'.lk p).windowErrors = Nat.min 65535 ((s.hub.lk p).windowErrors + 1) ∧
          (h'.lk p).resends = (s.hub.lk p).resends ∧
          (∀ slot attr address count, c = .attrRead slot attr address count →
            (vget h'.mgmt.slots slot).waitsFor p attr = false) ∧
          (∀ slot attr address words, c = .attrWrite slot attr address words →
            (vget h'.mgmt.slots slot).waitsFor p attr = false) ∧
          (∀ slot attr tag kind deadline, c.isFor slot attr = true →
            vget s.hub.mgmt.slots slot = .waiting tag p kind attr deadline →
            s.hub.SlotAnswered h' slot
              (replyPacket (BitVec.ofNat 8 p.val) tag (u16 (codeNumber (passCode kind))) (refuse .noAck))) ∧
          (∀ slot, (∀ attr, c.isFor slot attr = true → (vget s.hub.mgmt.slots slot).waitsFor p attr = false) →
            vget h'.mgmt.slots slot = vget s.hub.mgmt.slots slot ∨
            (∃ reply, vget s.hub.mgmt.slots slot = .answered reply) ∧ vget h'.mgmt.slots slot = .free) ∧
          ∀ x, (∃ target, c = .lensMove x target) ∨ c = .lensHome x ∨ c = .lensStop x →
            (s.hub.ax p x).moving = true → (s.hub.ax p x).pending ≤ 1 →
            (h'.ax p x).position = none ∧ (h'.ax p x).motion = .idle ∧ (h'.ax p x).outcome = .link ∧
            vget h'.mgmt.portFlags p &&& fLensFault = fLensFault)) ∧
    (∀ start, (s.hub.lk p).ackWait = some start → 2000 ≤ elapsed s.hub.time start → (s.hub.lk p).channel ≠ .idle →
      s.Does (.ackWaitEnd p) (s.hub.modLink p fun l => { l with ackWait := none, waitEnded := true })) ∧
    (∀ start, (s.hub.lk p).ackWait = some start → elapsed s.hub.time start < 2000 →
      exec (.ackWaitEnd p) s = .next s)

/-- The end of a downstream message: a command in flight begins its 2 ms wait; a pending trigger is sent next, ahead of
any command; a command whose wait ended behind a trigger is resent when the trigger ends, or fails there after three sends,
also where a further trigger goes onto the channel first (log entry 17); with no command in flight the head of the queue is
sent as a new command (R28, R30, R31). -/
def Obligations.MessagesLeaveInTurn : Prop :=
  ∀ (s : State) (p : Port) (sent : List Byte),
    ((s.hub.lk p).channel = .command sent → 0 < (s.hub.lk p).sendCount → (s.hub.lk p).pendingTrigger = none →
      (s.hub.lk p).waitEnded = false →
      s.Does (.downstreamMessageSent p)
        (s.hub.modLink p fun l => { l with channel := .idle, ackWait := some s.hub.time })) ∧
    (∀ id, (s.hub.lk p).established = true → (s.hub.lk p).pendingTrigger = some id →
      ((s.hub.lk p).channel = .command sent → 0 < (s.hub.lk p).sendCount →
          (s.hub.lk p).waitEnded = false ∨ (s.hub.lk p).sendCount < 3 →
        s.Does (.downstreamMessageSent p)
          (s.hub.modLink p fun l =>
            { l with
              channel := .trigger (withCrc [0x86, id]), pendingTrigger := none, ackWait := some s.hub.time })) ∧
      ((s.hub.lk p).channel = .trigger sent → (s.hub.lk p).waitEnded = false ∨ (s.hub.lk p).sendCount < 3 →
        s.Does (.downstreamMessageSent p)
          (s.hub.modLink p fun l => { l with channel := .trigger (withCrc [0x86, id]), pendingTrigger := none }))) ∧
    (∀ c rest, (s.hub.lk p).established = true → (s.hub.lk p).channel = .trigger sent →
      (s.hub.lk p).pendingTrigger = none → (s.hub.lk p).queue = c :: rest →
      ((s.hub.lk p).waitEnded = true → 0 < (s.hub.lk p).sendCount → (s.hub.lk p).sendCount < 3 →
        s.Does (.downstreamMessageSent p)
          (s.hub.modLink p fun l =>
            { l with
              channel := .command (if 0 < l.testCount then withBadCrc (c.body l.sequence true)
                else withCrc (c.body l.sequence true))
              testCount := l.testCount - 1, sendCount := l.sendCount + 1, ackWait := none, waitEnded := false
              resends := l.resends + 1 })) ∧
      ((s.hub.lk p).waitEnded = false → (s.hub.lk p).sendCount = 0 →
        s.Does (.downstreamMessageSent p)
          (s.hub.modLink p fun l =>
            { l with
              channel := .command (if 0 < l.testCount then withBadCrc (c.body l.sequence false)
                else withCrc (c.body l.sequence false))
              testCount := l.testCount - 1, sendCount := 1, ackWait := none, waitEnded := false }))) ∧
    (∀ c rest, (s.hub.lk p).established = true → (s.hub.lk p).channel = .trigger sent → (s.hub.lk p).queue = c :: rest →
      (s.hub.lk p).waitEnded = true → 3 ≤ (s.hub.lk p).sendCount →
      ∃ h', s.Does (.downstreamMessageSent p) h' ∧ (h'.lk p).queue = rest ∧
        (h'.lk p).sequence = !(s.hub.lk p).sequence ∧ (h'.lk p).noAcks = (s.hub.lk p).noAcks + 1 ∧
        (h'.lk p).windowErrors = Nat.min 65535 ((s.hub.lk p).windowErrors + 1) ∧
        (h'.lk p).resends = (s.hub.lk p).resends ∧ (h'.lk p).waitEnded = false ∧ (h'.lk p).ackWait = none ∧
        (∀ id, (s.hub.lk p).pendingTrigger = some id →
          (h'.lk p).channel = .trigger (withCrc [0x86, id]) ∧ (h'.lk p).sendCount = 0) ∧
        ((s.hub.lk p).pendingTrigger = none → (s.hub.lk p).windowErrors + 1 < (s.hub.lk p).degradeAt →
          (∀ f, (s.hub.tg p).hand ≠ .deferred f) →
          (rest = [] → (h'.lk p).channel = .idle ∧ (h'.lk p).sendCount = 0) ∧
          ∀ d more, rest = d :: more → (h'.lk p).sendCount = 1 ∧
            (h'.lk p).channel = .command (if 0 < (s.hub.lk p).testCount then withBadCrc (d.body (!(s.hub.lk p).sequence) false)
              else withCrc (d.body (!(s.hub.lk p).sequence) false)))) ∧
    ((s.hub.lk p).channel = .idle ∨ (s.hub.lk p).channel = .training sent →
      exec (.downstreamMessageSent p) s = .next s)

/-! ## Cable test -/

/-- The cable settings and the fault list's clearing: CABLE_TYPE_SET, PORT_CABLE_SET and AUTO_SWEEP_SET replace their
values together or are refused RANGE; FAULT_CLEAR clears every OPEN record of the port with its fault isolation, and is
refused SWEEPING while a sweep is RUNNING (R62, R63, R64, R80). -/
def Obligations.CableSettingsReplaced : Prop :=
  ∀ (s : State) (r : ReqHeader) (pkt : Packet) (p : Port) (type speed polarity threshold length tolerance offset flags : Nat)
    (q : SweepParamsRaw),
    (s.asksHub (.cableTypeSet r type speed polarity threshold) pkt = true →
      (∀ ht : type < 4, 100 ≤ speed ∧ speed ≤ 300 ∧ polarity ≤ 2 ∧ 1 ≤ threshold ∧ threshold ≤ 255 →
        s.Answers (.cableTypeSet r type speed polarity threshold) pkt
          (s.hub.popRequest.modCables fun u =>
            { u with
              types := vset u.types ⟨type, ht⟩
                { speed := speed
                  polarity := if polarity = 0 then some .pos else if polarity = 1 then some .neg else none
                  threshold := threshold } })
          (okWith (u16 speed ++ u8 polarity ++ u8 threshold))) ∧
      (¬ (type < 4 ∧ 100 ≤ speed ∧ speed ≤ 300 ∧ polarity ≤ 2 ∧ 1 ≤ threshold ∧ threshold ≤ 255) →
        s.Refuses (.cableTypeSet r type speed polarity threshold) pkt .range)) ∧
    (s.asksPort (.portCableSet r type length tolerance offset) pkt p = true →
      (∀ ht : type < 4, 1 ≤ length ∧ length ≤ 100000 ∧ tolerance ≤ 5000 ∧ offset ≤ 4095 →
        s.Answers (.portCableSet r type length tolerance offset) pkt
          (s.hub.popRequest.modCable p fun c =>
            { c with type := ⟨type, ht⟩, length := length, tolerance := tolerance, offset := offset })
          (okWith (u8 type ++ u32 length ++ u16 tolerance ++ u16 offset))) ∧
      (¬ (type < 4 ∧ 1 ≤ length ∧ length ≤ 100000 ∧ tolerance ≤ 5000 ∧ offset ≤ 4095) →
        s.Refuses (.portCableSet r type length tolerance offset) pkt .range)) ∧
    (s.asksPort (.autoSweepSet r flags q) pkt p = true →
      let fits : Prop :=
        flags < 32 ∧ q.pair ≤ 2 ∧ q.k ≤ 6 ∧ 1 ≤ q.repeats ∧ q.repeats ≤ 16 ∧ 10 ≤ q.interval ∧ q.interval ≤ 1000 ∧
          q.width ≤ 15 ∧ q.scale ≤ 3
      (fits →
        s.Answers (.autoSweepSet r flags q) pkt
          (s.hub.popRequest.modCable p fun c =>
            { c with
              onDetectFail := flags.testBit 0, onHardShort := flags.testBit 1, onLock := flags.testBit 2
              onLinkFail := flags.testBit 3, onDrops := flags.testBit 4
              auto :=
                { pair := if q.pair = 0 then .data else if q.pair = 1 then .power else .both
                  k := q.k, repeats := q.repeats, interval := q.interval, width := q.width, scale := q.scale } })
          (okWith (u8 flags ++ u8 q.pair ++ u8 q.k ++ u8 q.repeats ++ u16 q.interval ++ u8 q.width ++ u8 q.scale))) ∧
      (¬ fits → s.Refuses (.autoSweepSet r flags q) pkt .range)) ∧
    (s.asksPort (.faultClear r) pkt p = true →
      ((s.hub.cb p).sweepStatus = .running → s.Refuses (.faultClear r) pkt .sweeping) ∧
      ((s.hub.cb p).sweepStatus ≠ .running →
        s.Answers (.faultClear r) pkt
          ((s.hub.popRequest.modCables fun u =>
            { u with
              faults := u.faults.map fun f =>
                if f.isOpen = true ∧ f.port = p then { f with isOpen := false, updated := s.hub.time } else f }).modCable p
            fun c => { c with faultIsolation := false })
          (okWith (u8 (s.hub.cables.faults.filter fun f => f.isOpen && decide (f.port = p)).length))))

/-- SWEEP_REQUEST is refused RANGE, SWEEPING or POWERED by the first check that fails; accepted, it powers a powered port
down with cause SWEEP, and its entry is taken by the first idle engine of an empty queue, E0 before E1, or joins the
tail (R66, R68). The bytes of the reply, the status and one byte of place or engine, are the model's (log entry 16). -/
def Obligations.SweepRequestsQueueOrRun : Prop :=
  ∀ (s : State) (r : ReqHeader) (pkt : Packet) (p : Port) (q : SweepParamsRaw) (first : Nat) (params : SweepParams),
    s.asksPort (.sweepRequest r q first) pkt p = true →
    (readSweepParams q = none ∨ 2 ≤ first → s.Refuses (.sweepRequest r q first) pkt .range) ∧
    (readSweepParams q = some params → first < 2 →
      ((s.hub.cb p).sweepStatus ≠ .idle → s.Refuses (.sweepRequest r q first) pkt .sweeping) ∧
      ((s.hub.cb p).sweepStatus = .idle → (s.hub.pw p).powered = true → first = 0 →
        s.Refuses (.sweepRequest r q first) pkt .powered) ∧
      ((s.hub.cb p).sweepStatus = .idle → (s.hub.pw p).powered = false ∨ first = 1 →
        (∀ e c, s.hub.engine e = some c → c.port ≠ p) → p ∉ s.hub.cables.queue.map (·.port) →
        ∃ (h' : Hub) (reply : List Byte), s.Answers (.sweepRequest r q first) pkt h' (okWith reply) ∧
          ((s.hub.pw p).powered = true → (h'.pw p).state = .off ∧ (h'.pw p).cause = .sweep ∧
            (h'.pw p).allowanceHeld = false ∧ (h'.pw p).trips = (s.hub.pw p).trips ∧
            ((s.hub.pw p).state = .on → (s.hub.lk p).history.length ≤ 16 → s.hub.LeftOn h' p)) ∧
          ((s.hub.pw p).powered = false → h'.pw p = s.hub.pw p ∧ h'.lk p = s.hub.lk p) ∧
          (∀ o, o ≠ p → h'.pw o = s.hub.pw o ∧ h'.lk o = s.hub.lk o) ∧ h'.cables.faults = s.hub.cables.faults ∧
          (s.hub.cables.queue = [] → s.hub.engine 0 = none →
            (h'.cb p).sweepStatus = .running ∧ h'.engine 0 = some (s.hub.sweepContext ⟨p, params, .requested⟩) ∧
            h'.cables.queue = [] ∧ reply = sweepStatusCode .running ++ u8 0) ∧
          (s.hub.cables.queue = [] → s.hub.engine 0 ≠ none → s.hub.engine 1 = none →
            (h'.cb p).sweepStatus = .running ∧ h'.engine 1 = some (s.hub.sweepContext ⟨p, params, .requested⟩) ∧
            h'.engine 0 = s.hub.engine 0 ∧ h'.cables.queue = [] ∧ reply = sweepStatusCode .running ++ u8 1) ∧
          (s.hub.engine 0 ≠ none → s.hub.engine 1 ≠ none →
            (h'.cb p).sweepStatus = .queued ∧ h'.cables.queue = s.hub.cables.queue ++ [⟨p, params, .requested⟩] ∧
            h'.cables.engines = s.hub.cables.engines ∧
            reply = sweepStatusCode .queued ++ u8 (s.hub.cables.queue.length + 1))))

/-- SWEEP_CANCEL removes a QUEUED entry, stops a RUNNING engine at the end of its shot or at once, and leaves an IDLE
port; nothing is recorded, and the sweep's end resumes a postponed COOLDOWN retry (R79, R52; the bytes of
the reply, log entry 16). -/
def Obligations.SweepCancelRecordsNothing : Prop :=
  ∀ (s : State) (r : ReqHeader) (pkt : Packet) (p : Port) (e : EngineNo) (c : SweepContext),
    s.asksPort (.sweepCancel r) pkt p = true →
    ((s.hub.cb p).sweepStatus = .idle →
      s.Answers (.sweepCancel r) pkt s.hub.popRequest (okWith (sweepStatusCode .idle))) ∧
    ((s.hub.cb p).sweepStatus = .queued →
      ∃ h', s.Answers (.sweepCancel r) pkt h' (okWith (sweepStatusCode .queued)) ∧
        h'.cables = { s.hub.cables with queue := s.hub.cables.queue.filter fun x => x.port ≠ p } ∧
        h'.cb p = { s.hub.cb p with sweepStatus := .idle } ∧ vget h'.mgmt.portFlags p &&& fSweep = fSweep ∧
        s.hub.RetryResumed h' p ∧
        ∀ o, o ≠ p → h'.cb o = s.hub.cb o ∧ h'.pw o = s.hub.pw o) ∧
    ((s.hub.cb p).sweepStatus = .running → s.hub.engine e = some c → c.port = p →
      (∀ e' c', e' ≠ e → s.hub.engine e' = some c' → c'.port ≠ p) → p ∉ s.hub.cables.queue.map (·.port) →
      (c.phase = .shooting →
        s.Answers (.sweepCancel r) pkt (s.hub.popRequest.setEngine e (some { c with cancelling := true }))
          (okWith (sweepStatusCode .running))) ∧
      (c.phase ≠ .shooting →
        ∃ h', s.Answers (.sweepCancel r) pkt h' (okWith (sweepStatusCode .running)) ∧
          h'.cb p = { s.hub.cb p with sweepStatus := .idle } ∧ h'.cables.faults = s.hub.cables.faults ∧
          h'.cables.nextRecord = s.hub.cables.nextRecord ∧ vget h'.mgmt.portFlags p &&& fSweep = fSweep ∧
          s.hub.RetryResumed h' p ∧
          (s.hub.cables.queue = [] → h'.engine e = none ∧ h'.cables.queue = []) ∧
          ((∀ e', s.hub.engine e' ≠ none) → h'.cables.queue = s.hub.cables.queue.tail)))

/-- A shot's echo is the first crossing of a threshold from the end of blanking, pulse width + 4 ticks, to tick 1,023, with
the polarity of the threshold crossed, and none where nothing crosses (R70; what a crossing is, log entry 14). An engine's
phases: 10 ms of settling, then a repeat of 2^k shots 4 µs apart, each adding its echo, then its interval; a cancelled
sweep ends with its shot, records nothing and resumes a postponed retry (R69, R70, R79, R52). -/
def Obligations.EnginePhasesFollow : Prop :=
  (∀ (c : SweepContext) (trace : List (Nat × Int)),
    let crosses (front : List (Nat × Int)) (tick : Nat) (v : Int) : Option Polarity :=
      let level : Int := (front.getLast?.map (·.2)).getD 0
      if tick < (1 + c.params.width) * 2 ^ c.params.scale + 4 ∨ 1023 < tick then none
      else if (c.threshold : Int) < v ∧ level ≤ c.threshold then some .pos
      else if v < -(c.threshold : Int) ∧ -(c.threshold : Int) ≤ level then some .neg
      else none
    (∀ front tick v back pol, trace = front ++ (tick, v) :: back → crosses front tick v = some pol →
      (∀ a t w b, front = a ++ (t, w) :: b → crosses a t w = none) → c.echo trace = some (pol, tick)) ∧
    ((∀ front tick v back, trace = front ++ (tick, v) :: back → crosses front tick v = none) → c.echo trace = none)) ∧
  ∀ (s : State) (e : EngineNo) (c : SweepContext) (trace : List (Nat × Int)), s.hub.engine e = some c →
    (c.phase = .settling → 10000 ≤ elapsed s.hub.time c.phaseStart →
      s.Does (.settlingEnd e)
        (s.hub.setEngine e
          (some { c with phase := .shooting, phaseStart := c.phaseStart + 10000, repeatNo := 1, shotNo := 1 }))) ∧
    (c.phase = .settling → elapsed s.hub.time c.phaseStart < 10000 → exec (.settlingEnd e) s = .next s) ∧
    (c.phase = .waiting → c.params.interval * 1000 ≤ elapsed s.hub.time c.phaseStart →
      s.Does (.repeatIntervalEnd e)
        (s.hub.setEngine e
          (some { c with
            phase := .shooting, phaseStart := c.phaseStart + BitVec.ofNat 32 (c.params.interval * 1000)
            repeatNo := c.repeatNo + 1, shotNo := 1 }))) ∧
    (c.phase = .shooting → 4 ≤ elapsed s.hub.time c.phaseStart → c.cancelling = false → c.shotNo < 2 ^ c.params.k →
      (c.echo trace = none →
        s.Does (.shot e trace)
          (s.hub.setEngine e (some { c with shotNo := c.shotNo + 1, phaseStart := c.phaseStart + 4 }))) ∧
      (∀ tick, c.echo trace = some (.pos, tick) →
        s.Does (.shot e trace)
          (s.hub.setEngine e
            (some { c with
              posHits := c.posHits + 1, posSum := c.posSum + tick, shotNo := c.shotNo + 1
              phaseStart := c.phaseStart + 4 }))) ∧
      (∀ tick, c.echo trace = some (.neg, tick) →
        s.Does (.shot e trace)
          (s.hub.setEngine e
            (some { c with
              negHits := c.negHits + 1, negSum := c.negSum + tick, shotNo := c.shotNo + 1
              phaseStart := c.phaseStart + 4 })))) ∧
    (c.phase = .shooting → 4 ≤ elapsed s.hub.time c.phaseStart → c.cancelling = true →
      c.port ∉ s.hub.cables.queue.map (·.port) →
      ∃ h', s.Does (.shot e trace) h' ∧ h'.cb c.port = { s.hub.cb c.port with sweepStatus := .idle } ∧
        h'.cables.faults = s.hub.cables.faults ∧ h'.cables.nextRecord = s.hub.cables.nextRecord ∧
        vget h'.mgmt.portFlags c.port &&& fSweep = fSweep ∧ s.hub.RetryResumed h' c.port)

/-- A repeat's evaluation: the polarity with more hits wins, NEG on a tie; its hits are a valid echo where they are at
least half the shots; the echo's average and distance follow, and its class: a break before L - T, of a kind given by
the polarity, BEYOND after L + T, and between them AT_END where the polarity is the type's (R71, R72, R73). No average
passes 16,368, and no distance 383,625 mm at the speeds a cable type may have. -/
def Obligations.RepeatsAreClassified : Prop :=
  ∀ c : SweepContext,
    let hits := if c.negHits < c.posHits then c.posHits else c.negHits
    let sum := if c.negHits < c.posHits then c.posSum else c.negSum
    let won : Polarity := if c.negHits < c.posHits then .pos else .neg
    let avg := sum * 16 / hits
    let d := if avg ≤ c.offset then 0 else (avg - c.offset) * c.speed * 5 / 64
    (hits * 2 < 2 ^ c.params.k → c.evaluate = (.none, { polarity := won, hits := hits, echo := none })) ∧
    (2 ^ c.params.k ≤ hits * 2 →
      c.evaluate.2 = { polarity := won, hits := hits, echo := some (avg, d) } ∧
      (d + c.tolerance < c.length → c.evaluate.1 = if c.negHits < c.posHits then .breakOpen else .breakShort) ∧
      (c.length + c.tolerance < d → c.evaluate.1 = .beyond) ∧
      (c.length ≤ d + c.tolerance → d ≤ c.length + c.tolerance →
        c.evaluate.1 = if c.polarity = some won then .atEnd else .endMismatch)) ∧
    (c.posSum ≤ 1023 * c.posHits → c.negSum ≤ 1023 * c.negHits → c.speed ≤ 300 →
      ∀ a x, c.evaluate.2.echo = some (a, x) → a ≤ 16368 ∧ x ≤ 383625)

/-- The last shot of a repeat: its result joins those of its pair, and there follows the interval, the other pair's
settling, or the end of the sweep: the summary is written, each pair that saw a BREAK, DATA before POWER, is merged into its
OPEN record or recorded anew, and isolates its port; the sweep status becomes IDLE, SWEEP is set, and where no pair broke a
postponed COOLDOWN retry is resumed (R69, R74, R75, R5, R77, R78, R52). -/
def Obligations.RepeatsAndSweepsEnd : Prop :=
  ∀ (s : State) (e : EngineNo) (c : SweepContext) (trace : List (Nat × Int)), s.hub.engine e = some c →
    c.phase = .shooting → 4 ≤ elapsed s.hub.time c.phaseStart → c.cancelling = false → 2 ^ c.params.k ≤ c.shotNo →
    let last := c.addEcho (c.echo trace)
    let result := (c.result c.pair).add last.evaluate.1 last.evaluate.2
    let done : SweepContext :=
      { c with
        posHits := 0, negHits := 0, posSum := 0, negSum := 0
        dataResult := if c.pair = .data then result else c.dataResult
        powerResult := if c.pair = .power then result else c.powerResult }
    (c.repeatNo < c.params.repeats →
      s.Does (.shot e trace)
        (s.hub.setEngine e (some { done with phase := .waiting, phaseStart := c.phaseStart + 4, shotNo := 0 }))) ∧
    (c.params.repeats ≤ c.repeatNo → c.params.pair = .both → c.pair = .data →
      s.Does (.shot e trace)
        (s.hub.setEngine e
          (some { done with
            pair := .power, phase := .settling, phaseStart := c.phaseStart + 4, repeatNo := 0, shotNo := 0 }))) ∧
    (c.params.repeats ≤ c.repeatNo → c.params.pair ≠ .both ∨ c.pair = .power →
      c.port ∉ s.hub.cables.queue.map (·.port) →
      ∃ h', s.Does (.shot e trace) h' ∧ (h'.cb c.port).sweepStatus = .idle ∧
        (h'.cb c.port).summary = some (done.summarise e s.hub.time) ∧
        vget h'.mgmt.portFlags c.port &&& fSweep = fSweep ∧
        (s.hub.cables.queue = [] → h'.engine e = none) ∧
        ((∀ pair, tests c.params.pair pair = true → (done.result pair).span = none) →
          h'.cables.faults = s.hub.cables.faults ∧ h'.cables.nextRecord = s.hub.cables.nextRecord ∧
          (h'.cb c.port).faultIsolation = (s.hub.cb c.port).faultIsolation) ∧
        (∃ mid midNo,
          FaultPassed s.hub.cables.faults mid s.hub.cables.nextRecord midNo done .data s.hub.time ∧
          FaultPassed mid h'.cables.faults midNo h'.cables.nextRecord done .power s.hub.time) ∧
        ((∀ pair, tests c.params.pair pair = true → (done.result pair).span = none) →
          s.hub.RetryResumed h' c.port) ∧
        (∀ pair x, tests c.params.pair pair = true → (done.result pair).span = some x →
          (h'.cb c.port).faultIsolation = true ∧ vget h'.mgmt.portFlags c.port &&& fFault = fFault ∧
          (∃ f ∈ h'.cables.faults, f.opens c.port pair = true ∧ f.kind = (done.result pair).latest ∧
            f.lastMm = x.last ∧ f.updated = s.hub.time) ∧
          (s.hub.effectiveIso c.port = false → (s.hub.pw c.port).state = .cooldown →
            (h'.pw c.port).state = .off ∧ (h'.pw c.port).cause = .isolate)) ∧
        ((s.hub.pw c.port).state = .off → h'.power = s.hub.power) ∧
        ((s.hub.pw c.port).powered = false →
          h'.link = s.hub.link ∧ h'.lens = s.hub.lens ∧ h'.trig = s.hub.trig ∧ h'.frames = s.hub.frames))

/-! ## Lenses -/

/-- LENS_PROFILE_LOAD is refused RANGE, then BUSY while an axis is in motion, and else replaces all twelve values, the
positions becoming UNKNOWN and the last outcomes NONE (R85); FOCUS_TABLE_LOAD makes its four checks and replaces or
unloads its stop (R100). -/
def Obligations.LensSettingsReplaced : Prop :=
  ∀ (s : State) (r : ReqHeader) (pkt : Packet) (p : Port) (f z ir : ProfileParams) (stop zoom : Nat)
    (points : List (Nat × Nat)),
    let fits (q : ProfileParams) : Prop :=
      q.present ≤ 1 ∧ 1 ≤ q.max ∧ q.max ≤ 65535 ∧ 10 ≤ q.rate ∧ q.rate ≤ 20000 ∧ q.tolerance ≤ 255
    let load (q : ProfileParams) (a : Axis) : Axis :=
      { a with
        present := decide (q.present = 1), max := q.max, rate := q.rate, tolerance := q.tolerance
        position := none, outcome := .none }
    (s.asksPort (.lensProfileLoad r f z ir) pkt p = true →
      (¬ (fits f ∧ fits z ∧ fits ir) → s.Refuses (.lensProfileLoad r f z ir) pkt .range) ∧
      (fits f → fits z → fits ir → (s.hub.ln p).anyMotion = true →
        s.Refuses (.lensProfileLoad r f z ir) pkt .busy) ∧
      (fits f → fits z → fits ir → (s.hub.ln p).anyMotion = false →
        s.Answers (.lensProfileLoad r f z ir) pkt
          (s.hub.popRequest.modLens p fun l =>
            { l with focus := load f l.focus, zoom := load z l.zoom, iris := load ir l.iris })
          (okWith (profileBytes f ++ profileBytes z ++ profileBytes ir)))) ∧
    (s.asksPort (.focusTableLoad r stop zoom points) pkt p = true →
      (4 ≤ stop ∨ points.length = 1 ∨ 16 < points.length → s.Refuses (.focusTableLoad r stop zoom points) pkt .range) ∧
      (∀ hs : stop < 4, points.length ≠ 1 → points.length ≤ 16 →
        (points ≠ [] → (s.hub.ln p).focus.present = false → s.Refuses (.focusTableLoad r stop zoom points) pkt .noTable) ∧
        (points = [] ∨ (s.hub.ln p).focus.present = true →
          let good : Prop :=
            (∀ q ∈ points, 1 ≤ q.1 ∧ q.1 ≤ 65535 ∧ q.2 ≤ (s.hub.ln p).focus.max) ∧
              points.Pairwise fun a b => a.1 < b.1
          let h' := s.hub.popRequest.modLens p fun l =>
            { l with stops := vset l.stops ⟨stop, hs⟩ (if points = [] then none else some { zoom := zoom, points := points }) }
          (¬ good → s.Refuses (.focusTableLoad r stop zoom points) pkt .range) ∧
          (good →
            s.Answers (.focusTableLoad r stop zoom points) pkt h'
              (okWith (u8 stop ++ u8 points.length ++
                u8 ([0, 1, 2, 3].filter fun n => (vget (h'.ln p).stops n).isSome).length))))))

/-- Lens commands: the checks in their order, and the axis, its deadline, the allowance and the queue of a command that
is accepted: a homing (R89), a move from IDLE (R90), a retarget from where the motor is estimated to be (R91), a stop
(R92); a move to where the axis is or goes sends nothing. A command that the queue refuses with no axis in motion gives its
allowance back, and a deferred trigger of the port with it; with none deferred nothing changes (R87, R42). The results of an accepted
LENS_STOP and of a LENS_MOVE with nothing sent are the model's (log entry 16). -/
def Obligations.LensCommandsMove : Prop :=
  ∀ (s : State) (r : ReqHeader) (pkt : Packet) (p : Port) (n target : Nat) (x : AxisId),
    (3 ≤ n →
      (s.asksPort (.lensHome r n) pkt p = true → s.Refuses (.lensHome r n) pkt .range) ∧
      (s.asksPort (.lensMove r n target) pkt p = true → s.Refuses (.lensMove r n target) pkt .range) ∧
      (s.asksPort (.lensStop r n) pkt p = true → s.Refuses (.lensStop r n) pkt .range)) ∧
    (readAxis n = some x →
    let a := s.hub.ax p x
    let now := s.hub.time
    let deadline (steps : Nat) : HubTime :=
      now + BitVec.ofNat 32 (Nat.min ((steps * 1000 + a.rate - 1) / a.rate + 200) 2000000 * 1000)
    let noBudget : Prop :=
      (s.hub.lk p).established = true ∧ (s.hub.ln p).anyMotion = false ∧
        ¬ ((s.hub.pw p).state = .on ∧ s.hub.grantedTotal + (s.hub.pw p).allowance ≤ s.hub.cell.budget)
    let noRoom : Prop :=
      (s.hub.lk p).established = true ∧ (s.hub.ln p).anyMotion = true ∧ 8 ≤ (s.hub.lk p).queue.length
    let givesBack (i : Instr) : Prop :=
      (s.hub.lk p).established = true → (s.hub.ln p).anyMotion = false → (s.hub.pw p).state = .on →
      s.hub.grantedTotal + (s.hub.pw p).allowance ≤ s.hub.cell.budget → 8 ≤ (s.hub.lk p).queue.length →
      s.Answers i pkt ((s.hub.popRequest.modPower p fun q => { q with allowanceHeld := false }).releaseDeferred p)
        (refuse .queueFull) ∧
      ((s.hub.pw p).allowanceHeld = false → (∀ f, (s.hub.tg p).hand ≠ .deferred f) → s.Refuses i pkt .queueFull)
    (s.asksPort (.lensHome r n) pkt p = true →
      ((s.hub.lk p).established = false → s.Refuses (.lensHome r n) pkt .linkDown) ∧
      ((s.hub.lk p).established = true → a.present = false → s.Refuses (.lensHome r n) pkt .noTable) ∧
      ((s.hub.lk p).established = true → a.present = true → a.motion = .homing ∨ a.motion = .stopping →
        s.Refuses (.lensHome r n) pkt .busy) ∧
      (a.present = true → a.motion = .idle ∨ a.motion = .moving →
        (noBudget → s.Refuses (.lensHome r n) pkt .noBudget) ∧ (noRoom → s.Refuses (.lensHome r n) pkt .queueFull) ∧
        givesBack (.lensHome r n) ∧
        (s.hub.LensAccepts p →
          s.Answers (.lensHome r n) pkt
            ((s.hub.popRequest.lensSent p (.lensHome x)).modAxis p x fun a =>
              { a with
                pending := a.pending + 1, startTime := now, position := none, motion := .homing
                deadline := deadline a.max })
            (okWith (motionCode .homing ++ w32 (deadline a.max)))))) ∧
    (s.asksPort (.lensMove r n target) pkt p = true →
      let goal := Nat.min target a.max
      let status : Status := if a.max < target then .clamped else .ok
      let reply (b : Axis) : Reply := { status := status, results := motionCode b.motion ++ u16 b.target ++ w32 b.deadline }
      ((s.hub.lk p).established = false → s.Refuses (.lensMove r n target) pkt .linkDown) ∧
      ((s.hub.lk p).established = true → a.present = false → s.Refuses (.lensMove r n target) pkt .noTable) ∧
      ((s.hub.lk p).established = true → a.present = true →
        (a.motion = .homing ∨ a.motion = .idle ∧ a.position = none → s.Refuses (.lensMove r n target) pkt .noPosition) ∧
        (a.motion = .stopping → s.Refuses (.lensMove r n target) pkt .busy) ∧
        (a.motion = .idle ∧ a.position = some goal ∨ a.motion = .moving ∧ a.target = goal →
          s.Answers (.lensMove r n target) pkt s.hub.popRequest (reply a)) ∧
        (a.motion = .idle ∧ a.position ≠ none ∧ a.position ≠ some goal ∨ a.motion = .moving ∧ a.target ≠ goal →
          (noBudget → s.Refuses (.lensMove r n target) pkt .noBudget) ∧
          (noRoom → s.Refuses (.lensMove r n target) pkt .queueFull) ∧ givesBack (.lensMove r n target)) ∧
        (∀ start, a.motion = .idle → a.position = some start → start ≠ goal → s.hub.LensAccepts p →
          let b : Axis :=
            { a with
              pending := a.pending + 1, startTime := now, motion := .moving, start := start, target := goal
              deadline := deadline ((goal - start) + (start - goal)) }
          s.Answers (.lensMove r n target) pkt
            ((s.hub.popRequest.lensSent p (.lensMove x goal)).modAxis p x fun _ => b) (reply b)) ∧
        (a.motion = .moving → a.target ≠ goal → s.hub.LensAccepts p →
          let run := elapsed now a.startTime / 1000 * a.rate / 1000
          let place := if a.start < a.target then Nat.min (a.start + run) a.target else Nat.max (a.start - run) a.target
          let b : Axis :=
            { a with
              pending := a.pending + 1, startTime := now, start := place, position := some place, target := goal
              deadline := deadline ((goal - place) + (place - goal)) }
          s.Answers (.lensMove r n target) pkt
            ((s.hub.popRequest.lensSent p (.lensMove x goal)).modAxis p x fun _ => b) (reply b)))) ∧
    (s.asksPort (.lensStop r n) pkt p = true →
      (a.present = false → s.Refuses (.lensStop r n) pkt .noTable) ∧
      (a.present = true → a.motion = .idle ∨ a.motion = .stopping →
        s.Answers (.lensStop r n) pkt s.hub.popRequest (okWith (motionCode a.motion))) ∧
      (a.present = true → a.motion = .moving ∨ a.motion = .homing →
        (noRoom → s.Refuses (.lensStop r n) pkt .queueFull) ∧
        (s.hub.LensAccepts p →
          s.Answers (.lensStop r n) pkt
            ((s.hub.popRequest.lensSent p (.lensStop x)).modAxis p x fun a =>
              { a with
                pending := a.pending + 1, startTime := now, fromHoming := decide (a.motion = .homing)
                motion := .stopping, deadline := now + 200000#32 })
            (okWith (motionCode .stopping))))))

/-- An axis returns to IDLE by the report that Table 5-3 applies, or at its deadline; the last axis's return releases the
allowance and a deferred trigger; every other report is counted late or ignored and changes nothing else (R86, R94, R95,
R96; a kind outside Table 11-5 on an axis at rest, log entry 28; a pending trigger replaced, log entry 17). -/
def Obligations.LensMotionsEnd : Prop :=
  ∀ (s : State) (p : Port) (n position kind : Nat) (x : AxisId),
    let a := s.hub.ax p x
    let ends (i : Instr) (pos : Option Nat) (flag : BitVec 16) (outcome : LensOutcome) : Prop :=
      s.Does i
        (((s.hub.modAxis p x fun a => { a with position := pos, motion := .idle, outcome := outcome }).flag p
          flag).reportIdle p)
    let known : Option Nat := if position ≤ a.max then some position else none
    (readAxis n = some x → (s.hub.lk p).established = true → a.present = true →
      let ignored : Prop :=
        s.Does (.lensReport p n position kind)
          (s.hub.modLens p fun l => { l with ignoredReports := l.ignoredReports + 1 })
      (a.motion ≠ .idle → a.pending = 0 →
        (kind = 2 → a.motion = .homing ∨ a.motion = .stopping ∧ a.fromHoming = true →
          ends (.lensReport p n position kind) (some 0) fLensDone .finished) ∧
        (kind = 2 → a.motion = .moving ∨ a.motion = .stopping ∧ a.fromHoming = false → ignored) ∧
        (kind = 1 → a.motion = .homing ∨ a.motion = .stopping ∧ a.fromHoming = true →
          ends (.lensReport p n position kind) none fLensFault .stall) ∧
        (kind = 1 → a.motion = .moving ∨ a.motion = .stopping ∧ a.fromHoming = false →
          ends (.lensReport p n position kind) known fLensFault .stall) ∧
        (kind = 0 → a.motion = .homing → ignored) ∧
        (kind = 0 → a.motion = .stopping → a.fromHoming = true →
          ends (.lensReport p n position kind) none fLensDone .finished) ∧
        (kind = 0 → a.motion = .moving → a.tolerance < (position - a.target) + (a.target - position) →
          ends (.lensReport p n position kind) known fLensFault .slip) ∧
        (kind = 0 → a.motion = .moving ∧ (position - a.target) + (a.target - position) ≤ a.tolerance ∨
            a.motion = .stopping ∧ a.fromHoming = false →
          (position ≤ a.max → ends (.lensReport p n position kind) (some position) fLensDone .finished) ∧
          (a.max < position → ends (.lensReport p n position kind) none fLensFault .slip))) ∧
      (a.motion ≠ .idle → 0 < a.pending → ignored) ∧ (2 < kind → ignored) ∧
      (a.motion = .idle → kind ≤ 2 →
        s.Does (.lensReport p n position kind) (s.hub.modLens p fun l => { l with lateReports := l.lateReports + 1 }))) ∧
    ((s.hub.lk p).established = true → readAxis n = none ∨ readAxis n = some x ∧ a.present = false →
      s.Does (.lensReport p n position kind)
        (s.hub.modLens p fun l => { l with ignoredReports := l.ignoredReports + 1 })) ∧
    ((s.hub.lk p).established = false → exec (.lensReport p n position kind) s = .next s) ∧
    (a.motion ≠ .idle → elapsed a.deadline a.startTime ≤ elapsed s.hub.time a.startTime →
      ends (.lensDeadline p x) none fLensFault .timeout) ∧
    (a.motion = .idle ∨ elapsed s.hub.time a.startTime < elapsed a.deadline a.startTime →
      exec (.lensDeadline p x) s = .next s) ∧
    ∀ h : Hub,
      ((h.ln p).anyMotion = true → h.reportIdle p = h) ∧
      ((h.ln p).anyMotion = false →
        (h.reportIdle p).power = vmod h.power p (fun q => { q with allowanceHeld := false }) ∧
        ((∀ f, (h.tg p).hand ≠ .deferred f) → (h.reportIdle p).trig = h.trig ∧ (h.reportIdle p).mgmt = h.mgmt) ∧
        ∀ f, (h.tg p).hand = .deferred f → (h.lk p).established = true →
          (h.reportIdle p).tg p = { h.tg p with
            issued := (h.tg p).issued + 1, nextId := if (h.tg p).nextId = 255 then 1 else (h.tg p).nextId + 1
            hand := .outstanding f (h.tg p).nextId false h.time
              (h.time + BitVec.ofNat 32 ((h.tg p).timeout * 1000)) } ∧
          (h.reportIdle p).lk p = LinkCtl.pump { h.lk p with pendingTrigger := some (h.tg p).nextId })

/-- The focus of a distance: the first point's at or below its distance, the last point's at or above its own, and on the
line between two neighbours otherwise, truncated toward zero; it never leaves the span of the points' positions (R102).
LENS_FOCUS_DISTANCE makes its four checks, takes the loaded stop nearest the reference zoom position, the lowest among
equals (R101), and goes on as a LENS_MOVE of FOCUS to that focus, replying with the stop and the target (R103; where the
clamp of R102 and a refused move meet, log entry 25). -/
def Obligations.FocusFollowsDistance : Prop :=
  (∀ (d : Nat) (d0 f0 : Nat) (rest : List (Nat × Nat)), d ≤ d0 → focusOn d ((d0, f0) :: rest) = f0) ∧
  (∀ (d : Nat) (front : List (Nat × Nat)) (dn fn : Nat),
    (front ++ [(dn, fn)]).Pairwise (fun a b => a.1 < b.1) → dn ≤ d → focusOn d (front ++ [(dn, fn)]) = fn) ∧
  (∀ (d : Nat) (front back : List (Nat × Nat)) (d0 f0 d1 f1 : Nat),
    (front ++ (d0, f0) :: (d1, f1) :: back).Pairwise (fun a b => a.1 < b.1) → d0 ≤ d → d < d1 →
    focusOn d (front ++ (d0, f0) :: (d1, f1) :: back) =
      f0 + (((d : Int) - d0) * ((f1 : Int) - f0)).tdiv ((d1 : Int) - d0)) ∧
  (∀ (d lo hi : Nat) (points : List (Nat × Nat)), points ≠ [] → (∀ q ∈ points, lo ≤ q.2 ∧ q.2 ≤ hi) →
    (lo : Int) ≤ focusOn d points ∧ focusOn d points ≤ hi) ∧
  ∀ (s : State) (r : ReqHeader) (pkt : Packet) (p : Port) (d : Nat),
    s.asksPort (.lensFocusDistance r d) pkt p = true →
    let l := s.hub.ln p
    let blocked : Prop := l.focus.motion = .homing ∨ l.focus.motion = .idle ∧ l.focus.position = none
    let referenced (ref : Option Nat) : Prop :=
      (l.zoom.present = false → ref = some 0) ∧
      (l.zoom.present = true → l.zoom.motion = .moving → ref = some l.zoom.target) ∧
      (l.zoom.present = true → l.zoom.motion = .idle → ref = l.zoom.position) ∧
      (l.zoom.present = true → l.zoom.motion ≠ .moving → l.zoom.motion ≠ .idle → ref = none)
    (¬ (1 ≤ d ∧ d ≤ 65535) → s.Refuses (.lensFocusDistance r d) pkt .range) ∧
    (1 ≤ d → d ≤ 65535 → l.focus.present = false → s.Refuses (.lensFocusDistance r d) pkt .noTable) ∧
    (1 ≤ d → d ≤ 65535 → l.focus.present = true →
      (blocked ∨ referenced none → s.Refuses (.lensFocusDistance r d) pkt .noPosition) ∧
      ∀ ref, ¬ blocked → referenced (some ref) →
        ((∀ i, vget l.stops i = none) → s.Refuses (.lensFocusDistance r d) pkt .noTable) ∧
        ∀ i st, vget l.stops i = some st →
          (∀ j st', j ≠ i → vget l.stops j = some st' →
            distance st.zoom ref < distance st'.zoom ref ∨ distance st.zoom ref = distance st'.zoom ref ∧ i < j) →
          let focus := focusOn d st.points
          let target := Nat.min focus.toNat l.focus.max
          let moved := s.hub.popRequest.moveAxis p .focus target
          s.Answers (.lensFocusDistance r d) pkt moved.1
            { status := if (target : Int) ≠ focus ∧ (moved.2 = .ok ∨ moved.2 = .clamped) then .clamped else moved.2
              results := u8 i.val ++ u16 target })

/-! ## Triggers -/

/-- ENCODER_SET, TRIGGER_LINE_SET and TRIGGER_SET replace what they name or are refused RANGE (R106, R108, R110); a
line's rise begins a filter time, its fall ends one as a glitch or lowers the level (R107); an outstanding trigger's
deadline counts it timed out (R118). -/
def Obligations.TriggerSettingsAndLines : Prop :=
  ∀ (s : State) (r : ReqHeader) (pkt : Packet) (p : Port) (l : LineNo) (value line filter : Nat)
    (source pitch phase direction policy timeout : Nat) (src : TriggerSource) (dir : TriggerDirection)
    (pol : TriggerPolicy),
    (s.asksHub (.encoderSet r value) pkt = true → value < 4294967296 →
      s.Answers (.encoderSet r value) pkt
        { s.hub.popRequest with
          encoder := { s.hub.encoder with counter := BitVec.ofNat 32 value }
          trig := s.hub.trig.map fun t => { t with lastFired := none } }
        (okWith (u32 value))) ∧
    (s.asksHub (.triggerLineSet r line filter) pkt = true →
      (¬ (line < 4 ∧ 1 ≤ filter ∧ filter ≤ 255) → s.Refuses (.triggerLineSet r line filter) pkt .range) ∧
      (line = l.val → 1 ≤ filter → filter ≤ 255 →
        s.Answers (.triggerLineSet r line filter) pkt (s.hub.popRequest.modLine l fun t => { t with filter := filter })
          (okWith (u8 line ++ u8 filter ++ yesNo (s.hub.line l).level ++ w32 (s.hub.line l).accepted ++
            w32 (s.hub.line l).glitches)))) ∧
    (s.asksPort (.triggerSet r source pitch phase direction policy timeout) pkt p = true →
      (6 ≤ source ∨ 3 ≤ direction ∨ 2 ≤ policy ∨ ¬ (1 ≤ pitch ∧ pitch ≤ 16777216) ∨ pitch ≤ phase ∨
          ¬ (1 ≤ timeout ∧ timeout ≤ 2000) →
        s.Refuses (.triggerSet r source pitch phase direction policy timeout) pkt .range) ∧
      (([.none, .encoder, .line 0, .line 1, .line 2, .line 3] : List TriggerSource)[source]? = some src →
        ([.fwd, .rev, .both] : List TriggerDirection)[direction]? = some dir →
        ([.flag, .defer] : List TriggerPolicy)[policy]? = some pol →
        1 ≤ pitch → pitch ≤ 16777216 → phase < pitch → 1 ≤ timeout → timeout ≤ 2000 →
        s.Answers (.triggerSet r source pitch phase direction policy timeout) pkt
          (s.hub.popRequest.modTrig p fun t =>
            { t with
              source := src, pitch := pitch, phase := phase, direction := dir, policy := pol, timeout := timeout
              lastFired := none })
          (okWith (u8 source ++ u32 pitch ++ u32 phase ++ u8 direction ++ u8 policy ++ u16 timeout)))) ∧
    ((s.hub.line l).input = false →
      ((s.hub.line l).filtering = none → (s.hub.line l).level = false →
        s.Does (.triggerLineRise l)
          (s.hub.modLine l fun t => { t with input := true, filtering := some (s.hub.time, t.filter) })) ∧
      ((s.hub.line l).filtering ≠ none ∨ (s.hub.line l).level = true →
        s.Does (.triggerLineRise l) (s.hub.modLine l fun t => { t with input := true })) ∧
      exec (.triggerLineFall l) s = .next s) ∧
    ((s.hub.line l).input = true →
      ((s.hub.line l).filtering ≠ none →
        s.Does (.triggerLineFall l)
          (s.hub.modLine l fun t => { t with input := false, filtering := none, glitches := t.glitches + 1 })) ∧
      ((s.hub.line l).filtering = none →
        s.Does (.triggerLineFall l) (s.hub.modLine l fun t => { t with input := false, level := false })) ∧
      exec (.triggerLineRise l) s = .next s) ∧
    (∀ fired id moving sent deadline, (s.hub.tg p).hand = .outstanding fired id moving sent deadline →
      (elapsed deadline sent ≤ elapsed s.hub.time sent →
        s.Does (.triggerTimeout p)
          ((s.hub.modTrig p fun t => { t with hand := .none, timedOut := t.timedOut + 1 }).flag p fTrigLost)) ∧
      (elapsed s.hub.time sent < elapsed deadline sent → exec (.triggerTimeout p) s = .next s)) ∧
    ((∀ fired id moving sent deadline, (s.hub.tg p).hand ≠ .outstanding fired id moving sent deadline) →
      exec (.triggerTimeout p) s = .next s)

/-- Triggers fire on exactly the ports that the encoder's step, an accepted edge or a TRIGGER_SOFT mask reaches, with the
outcome of R114 and the message of R115; every other port, and all but triggers, stays (R105, R107, R111, R112, R113; the
sense of the encoder, log entry 13). The bytes of the TRIGGER_SOFT reply (log entry 16), and that a newer pending trigger
replaces an older one (log entry 17), are the model's. -/
def Obligations.TriggersFire : Prop :=
  ∀ (s : State) (r : ReqHeader) (pkt : Packet) (mask : Nat) (a b : Bool) (l : LineNo),
    (s.asksHub (.triggerSoft r mask) pkt = true →
      ((∀ p : Port, mask.testBit p.val = false) → s.Refuses (.triggerSoft r mask) pkt .range) ∧
      ((∃ p : Port, mask.testBit p.val = true) →
        ∃ (h' : Hub) (outcomes : List FireOutcome),
          s.Answers (.triggerSoft r mask) pkt h' (okWith (u8 outcomes.length ++ outcomes.flatMap fireOutcomeBytes)) ∧
          outcomes = ([0, 1, 2, 3, 4, 5, 6, 7].filter fun p : Port => mask.testBit p.val).map (fun p =>
            if (s.hub.lk p).established = false then .lostLink
            else if (s.hub.tg p).hand ≠ .none then .lostOver
            else if (s.hub.ln p).anyMotion = true ∧ (s.hub.tg p).policy = .defer then .deferred
            else .sent (s.hub.tg p).nextId) ∧
          (∀ p : Port, mask.testBit p.val = true → s.hub.FiredOn h' p) ∧
          (∀ p : Port, mask.testBit p.val = false → h'.tg p = s.hub.tg p ∧ h'.lk p = s.hub.lk p) ∧
          h'.encoder = s.hub.encoder ∧ h'.lines = s.hub.lines ∧ s.hub.popRequest.TriggersOnly h')) ∧
    (∀ start time, (s.hub.line l).filtering = some (start, time) → (s.hub.line l).input = true →
      time ≤ elapsed s.hub.time start →
      ∃ h', s.Does (.filterTimeEnd l) h' ∧
        h'.line l = { s.hub.line l with level := true, filtering := none, accepted := (s.hub.line l).accepted + 1 } ∧
        (∀ k, k ≠ l → h'.line k = s.hub.line k) ∧
        (∀ p, (s.hub.tg p).source = .line l → s.hub.FiredOn h' p) ∧
        (∀ p, (s.hub.tg p).source ≠ .line l → h'.tg p = s.hub.tg p ∧ h'.lk p = s.hub.lk p) ∧
        h'.encoder = s.hub.encoder ∧ s.hub.TriggersOnly h') ∧
    (((s.hub.line l).filtering = none ∨ (s.hub.line l).input = false) → exec (.filterTimeEnd l) s = .next s) ∧
    (a = s.hub.encoder.a → b = s.hub.encoder.b → s.Does (.encoderStep a b) s.hub) ∧
    (a ≠ s.hub.encoder.a → b ≠ s.hub.encoder.b →
      s.Does (.encoderStep a b)
        { s.hub with encoder := { s.hub.encoder with a := a, b := b, errors := s.hub.encoder.errors + 1 } }) ∧
    (a ≠ s.hub.encoder.a ∧ b = s.hub.encoder.b ∨ a = s.hub.encoder.a ∧ b ≠ s.hub.encoder.b →
      let forward := if a = s.hub.encoder.a then decide (b = a) else decide (a ≠ b)
      let c := if forward then s.hub.encoder.counter + 1 else s.hub.encoder.counter - 1
      let h1 : Hub := { s.hub with encoder := { s.hub.encoder with a := a, b := b, counter := c } }
      let fires (p : Port) : Prop :=
        (s.hub.tg p).source = .encoder ∧ (c.toInt - (s.hub.tg p).phase) % ((s.hub.tg p).pitch : Int) = 0 ∧
          ((s.hub.tg p).direction = .both ∨ (s.hub.tg p).direction = .fwd ∧ forward = true ∨
            (s.hub.tg p).direction = .rev ∧ forward = false) ∧
          (s.hub.tg p).lastFired ≠ some c
      ∃ h', s.Does (.encoderStep a b) h' ∧ h'.encoder = h1.encoder ∧ h'.lines = s.hub.lines ∧
        (∀ p, fires p → (h1.modTrig p fun t => { t with lastFired := some c }).FiredOn h' p) ∧
        (∀ p, ¬ fires p → h'.tg p = s.hub.tg p ∧ h'.lk p = s.hub.lk p) ∧ s.hub.TriggersOnly h')

/-! ## Frame memory -/

/-- A FRAME_START outside the frame packets' ranges is ignored and is a link error, which may degrade the link (R33, R25,
R128); any other opens a context, has its id resolved (R117), and is dropped for the first reason that applies or admitted at
the cursor or at offset 0, with the record of R127 (R125, R126, R127). One that finds a context open first ends that frame:
its FILLING record is completed TRUNCATED, its missing lines concealed, and joins the pipeline's work list unless it is set
aside; the new frame is then taken as with no context open (R33, R129, R130). -/
def Obligations.FramesAdmitted : Prop :=
  ∀ (s : State) (p : Port) (number w ht id : Nat),
    let l := s.hub.lk p
    let f := s.hub.fr p
    (l.established = false → exec (.frameStart p number w ht id) s = .next s) ∧
    (l.established = true → w = 0 ∨ ht = 0 → l.state = .degraded ∨ Nat.min 65535 (l.windowErrors + 1) < l.degradeAt →
      s.Does (.frameStart p number w ht id)
        (s.hub.modLink p fun l =>
          { l with ignoredPackets := l.ignoredPackets + 1, windowErrors := Nat.min 65535 (l.windowErrors + 1) })) ∧
    (l.state = .up → w = 0 ∨ ht = 0 → l.degradeAt ≤ Nat.min 65535 (l.windowErrors + 1) →
      s.Does (.frameStart p number w ht id)
        (((s.hub.modLink p fun l =>
          { l with
            ignoredPackets := l.ignoredPackets + 1, windowErrors := Nat.min 65535 (l.windowErrors + 1)
            state := .degraded }).flag p fDegrade).modFrames p fun f =>
          { f with
            table := f.table.map fun x =>
              if x.state = .filling then { x with flags := x.flags ||| flagDegradedLink } else x })) ∧
    (l.established = true → 0 < w → 0 < ht → l.context = none →
      let kept := f.table.filter fun r => !(r.retained && !r.held && r.resends.isEmpty)
      let size := (w * ht * 2 + 4095) / 4096 * 4096
      let offset := if f.ringLength * 65536 < f.cursor + size then 0 else f.cursor
      let tooLarge : Prop := 4096 < w ∨ 4096 < ht ∨ f.ringLength * 65536 < size
      let noSpace : Prop := ∃ r ∈ kept, offset < r.offset + r.size ∧ r.offset < offset + size
      let hits : Prop := ∃ fired moving sent deadline,
        id ≠ 0 ∧ (s.hub.tg p).hand = .outstanding fired (BitVec.ofNat 8 id) moving sent deadline ∧ id < 256
      ∃ h', s.Does (.frameStart p number w ht id) h' ∧
        h'.lk p = { l with context := some { number := number, width := w, height := ht, received := [] } } ∧
        (hits → h'.tg p = { s.hub.tg p with hand := .none, matched := (s.hub.tg p).matched + 1 }) ∧
        (¬ hits → h'.tg p = s.hub.tg p) ∧
        (∀ q, q ≠ p → h'.fr q = s.hub.fr q ∧ h'.lk q = s.hub.lk q ∧ h'.tg q = s.hub.tg q) ∧
        h'.power = s.hub.power ∧ h'.lens = s.hub.lens ∧ h'.view = s.hub.view ∧ h'.pipe = s.hub.pipe ∧
        (f.ringLength = 0 ∨ tooLarge ∨ 8 ≤ kept.length ∨ noSpace →
          vget h'.mgmt.portFlags p &&& fFrameDrop = fFrameDrop ∧
          (f.ringLength = 0 →
            h'.fr p = { f with table := kept, intake := .discarding, noRing := f.noRing + 1 }) ∧
          (f.ringLength ≠ 0 → tooLarge →
            h'.fr p = { f with table := kept, intake := .discarding, tooLarge := f.tooLarge + 1 }) ∧
          (f.ringLength ≠ 0 → ¬ tooLarge → 8 ≤ kept.length →
            h'.fr p = { f with table := kept, intake := .discarding, noRecord := f.noRecord + 1 }) ∧
          (f.ringLength ≠ 0 → ¬ tooLarge → kept.length < 8 → noSpace →
            h'.fr p = { f with table := kept, intake := .discarding, noSpace := f.noSpace + 1 })) ∧
        (f.ringLength ≠ 0 → ¬ tooLarge → kept.length < 8 → ¬ noSpace →
          ∃ (record : FrameRecord) (limited : Bool),
            let live := (vget s.hub.view.bindings p).view
            (limited = true ↔ ∃ v t, live = some v ∧ f.lastOutput = some t ∧
              elapsed s.hub.time t < (vget s.hub.view.views v).interval) ∧
            h'.fr p = { f with
              table := kept ++ [record], nextSerial := f.nextSerial + 1, admitted := f.admitted + 1, intake := .filling
              skipped := if limited then f.skipped + 1 else f.skipped
              lastOutput := if live ≠ none ∧ limited = false then some s.hub.time else f.lastOutput
              cursor := if offset + size = f.ringLength * 65536 then 0 else offset + size } ∧
            h'.mgmt = s.hub.mgmt ∧ h'.trunk = s.hub.trunk ∧
            record.serial = f.nextSerial ∧ record.number = number ∧ record.triggerId = id ∧ record.width = w ∧
            record.height = ht ∧
            record.arrival = s.hub.time ∧ record.fillDeadline = s.hub.time + BitVec.ofNat 32 (f.timeout * 1000) ∧
            record.offset = offset ∧ record.size = size ∧ record.state = .filling ∧ record.held = false ∧
            record.retained = false ∧ record.view = live ∧ record.concealed = 0 ∧ record.cameraEnd = none ∧
            record.resends = [] ∧ record.written = [] ∧ (¬ hits → record.trigger = none) ∧
            (∀ fired moving sent deadline, hits →
              (s.hub.tg p).hand = .outstanding fired (BitVec.ofNat 8 id) moving sent deadline →
              record.trigger = some fired ∧ (hasFlag record.flags flagLensMoving = true ↔ moving = true)) ∧
            (¬ hits → hasFlag record.flags flagLensMoving = false) ∧
            (hasFlag record.flags flagUnmatched = true ↔ id ≠ 0 ∧ ¬ hits) ∧
            (hasFlag record.flags flagDegradedLink = true ↔ l.state = .degraded) ∧
            (hasFlag record.flags flagNoView = true ↔ live = none) ∧
            (hasFlag record.flags flagSkipped = true ↔ limited = true) ∧
            record.flags &&&
              ~~~(flagLensMoving ||| flagUnmatched ||| flagDegradedLink ||| flagNoView ||| flagSkipped) = 0)) ∧
    (l.established = true → 0 < w → 0 < ht → l.context ≠ none →
      let closed := s.hub.modLink p fun l => { l with context := none }
      (f.filling = none →
        exec (.frameStart p number w ht id) s =
          exec (.frameStart p number w ht id) { s with hub := closed.modFrames p fun f => { f with intake := .idle } }) ∧
      ∀ r, f.filling = some r →
        let missing := ((List.range r.height).filter fun n => n ∉ r.written).length
        let flags := r.flags ||| flagTruncated ||| (if 0 < missing then flagConcealed else 0)
        let aside := hasFlag flags flagSkipped || hasFlag flags flagNoView
        let done : FrameRecord :=
          { r with
            flags := flags, concealed := missing, cameraEnd := none
            state := if aside then .sent else .complete, retained := aside || r.retained }
        let m := f.conceal r s.dram
        let stored := closed.modFrames p fun f =>
          { f with table := f.table.map fun x => if x.serial = r.serial then done else x, intake := .idle }
        let queued := stored.modPipe p fun q => { q with work := q.work ++ [{ serial := r.serial, resend := none }] }
        exec (.frameStart p number w ht id) s =
          exec (.frameStart p number w ht id) { s with
            dram := m
            hub :=
              if aside then stored else if (s.hub.pl p).phase = .idle then queued.pipeAct m p else queued })

/-- A LINE belongs to the open context or is ignored and counted; one that belongs is written at its place in the frame's
region, two bytes a pixel of 12 bits, and nowhere else; in LATE it is counted late (R34, R128). That a pixel's first byte is
the most significant one, and that addresses are taken modulo 256 MiB, is the model's (log entry 8). -/
def Obligations.LinesStored : Prop :=
  ∀ (s : State) (p : Port) (n : Nat) (pixels : List Nat),
    let l := s.hub.lk p
    let f := s.hub.fr p
    (l.established = false → exec (.line p n pixels) s = .next s) ∧
    (l.established = true →
        l.context = none ∨ (∃ c, l.context = some c ∧ (c.height ≤ n ∨ pixels.length ≠ c.width ∨ n ∈ c.received)) →
      s.Does (.line p n pixels) (s.hub.modLink p fun l => { l with ignoredLines := l.ignoredLines + 1 })) ∧
    ∀ c, l.established = true → l.context = some c → n < c.height → pixels.length = c.width → n ∉ c.received →
      let opened := s.hub.modLink p fun l => { l with context := some { c with received := n :: c.received } }
      (f.intake = .late → s.Does (.line p n pixels) (opened.modFrames p fun f => { f with late := f.late + 1 })) ∧
      (f.intake = .discarding ∨ f.intake = .idle → s.Does (.line p n pixels) opened) ∧
      ∀ r, f.intake = .filling → f.filling = some r →
        let start := f.ringStart * 65536 + r.offset + n * r.width * 2
        ∃ m : Memory,
          exec (.line p n pixels) s =
            .next { s with
              dram := m
              hub := (opened.modFrames p fun f =>
                { f with
                  table := f.table.map fun x => if x.serial = r.serial then { x with written := n :: x.written } else x
                }).settle m } ∧
          (∀ a, (∀ i, i < 2 * pixels.length → a ≠ (start + i) % 268435456) → m.read a = s.dram.read a) ∧
          (s.dram.wf = true → 2 * pixels.length ≤ 268435456 → m.wf = true ∧
            ∀ (i : Nat) (hi : i < pixels.length),
              (m.read ((start + 2 * i) % 268435456)).toNat = pixels[i] % 4096 / 256 ∧
              (m.read ((start + 2 * i + 1) % 268435456)).toNat = pixels[i] % 256)

/-- A frame is completed by its FRAME_END or at its fill deadline, TRUNCATED: missing lines are concealed, line 0 with
zeros and any other with the line before it, and nothing else of frame memory changes; a record with SKIPPED or NO_VIEW
becomes SENT and retained, any other COMPLETE and a live item of its pipeline (R35, R129, R130). Where no record is being
filled, a FRAME_END in LATE is counted and the intake becomes IDLE. -/
def Obligations.FramesComplete : Prop :=
  ∀ (s : State) (p : Port) (linesSent status : Nat),
    let l := s.hub.lk p
    let f := s.hub.fr p
    let closed := s.hub.modLink p fun l => { l with context := none }
    (l.established = false → exec (.frameEnd p linesSent status) s = .next s) ∧
    (l.established = true → l.context = none →
      s.Does (.frameEnd p linesSent status)
        (s.hub.modLink p fun l => { l with ignoredPackets := l.ignoredPackets + 1 })) ∧
    (l.established = true → l.context ≠ none → f.filling = none →
      s.Does (.frameEnd p linesSent status)
        (closed.modFrames p fun f =>
          { f with intake := .idle, late := if f.intake = .late then f.late + 1 else f.late })) ∧
    (f.filling = none → exec (.fillDeadline p) s = .next s) ∧
    ∀ r, f.filling = some r →
      (elapsed s.hub.time r.arrival < elapsed r.fillDeadline r.arrival → exec (.fillDeadline p) s = .next s) ∧
      ∃ m : Memory,
        (∀ (i : Instr) (before : Hub) (cameraEnd : Option (Nat × Nat)) (flag : BitVec 32) (intake : Intake),
          i = .frameEnd p linesSent status ∧ before = closed ∧ cameraEnd = some (linesSent, status) ∧ flag = 0 ∧
              intake = .idle ∧ l.established = true ∧ l.context ≠ none ∨
            i = .fillDeadline p ∧ before = s.hub ∧ cameraEnd = none ∧ flag = flagTruncated ∧ intake = .late ∧
              elapsed r.fillDeadline r.arrival ≤ elapsed s.hub.time r.arrival →
          let missing := ((List.range r.height).filter fun n => n ∉ r.written).length
          let flags := r.flags ||| flag ||| (if 0 < missing then flagConcealed else 0)
          let aside := hasFlag flags flagSkipped || hasFlag flags flagNoView
          let done : FrameRecord :=
            { r with
              flags := flags, concealed := missing, cameraEnd := cameraEnd
              state := if aside then .sent else .complete, retained := aside || r.retained }
          let stored := before.modFrames p fun f =>
            { f with table := f.table.map fun x => if x.serial = r.serial then done else x, intake := intake }
          let queued := stored.modPipe p fun q => { q with work := q.work ++ [{ serial := r.serial, resend := none }] }
          (aside = true → exec i s = .next { s with dram := m, hub := stored.settle m }) ∧
          (aside = false → (s.hub.pl p).phase ≠ .idle → exec i s = .next { s with dram := m, hub := queued.settle m }) ∧
          (aside = false → (s.hub.pl p).phase = .idle →
            exec i s = .next { s with dram := m, hub := (queued.pipeAct m p).settle m })) ∧
        (s.dram.wf = true → f.ringStart * 65536 + r.offset + r.height * (r.width * 2) ≤ 268435456 →
          let base := f.ringStart * 65536 + r.offset
          m.wf = true ∧
          (∀ a, a < base ∨ base + r.height * (r.width * 2) ≤ a → m.read a = s.dram.read a) ∧
          ∀ n i, n < r.height → i < r.width * 2 →
            let at' := base + n * (r.width * 2) + i
            (n ∈ r.written → m.read at' = s.dram.read at') ∧
            (n ∉ r.written → n = 0 → m.read at' = 0) ∧
            (n ∉ r.written → n ≠ 0 → m.read at' = m.read (base + (n - 1) * (r.width * 2) + i)))

/-- RING_SET makes its three checks and replaces the ring (R123); FRAME_HOLD holds the record of a number that arrived
last, and FRAME_RELEASE gives it up, the record leaving the table where nothing else keeps it (R124, R133, R134, R135). The
results of RING_SET and of a FRAME_HOLD on a record already held are the model's (log entry 16), and so is the byte by which
FRAME_RELEASE says what it did (log entry 26). -/
def Obligations.FrameRequestsAct : Prop :=
  ∀ (s : State) (r : ReqHeader) (pkt : Packet) (p : Port) (start length timeout number : Nat) (x : FrameRecord)
    (older newer : List FrameRecord),
    let f := s.hub.fr p
    (s.asksPort (.ringSet r start length timeout) pkt p = true →
      let fits : Prop := start ≤ 4095 ∧ length ≤ 4096 ∧ 1 ≤ timeout ∧ timeout ≤ 2000 ∧ start + length ≤ 4096
      let shared : Prop := ∃ q, q ≠ p ∧ ∃ unit, start ≤ unit ∧ unit < start + length ∧
        (s.hub.fr q).ringStart ≤ unit ∧ unit < (s.hub.fr q).ringStart + (s.hub.fr q).ringLength
      (¬ fits → s.Refuses (.ringSet r start length timeout) pkt .range) ∧
      (fits → f.table ≠ [] → s.Refuses (.ringSet r start length timeout) pkt .busy) ∧
      (fits → f.table = [] → shared → s.Refuses (.ringSet r start length timeout) pkt .inUse) ∧
      (fits → f.table = [] → ¬ shared →
        s.Answers (.ringSet r start length timeout) pkt
          (s.hub.popRequest.modFrames p fun f =>
            { f with ringStart := start, ringLength := length, timeout := timeout, cursor := 0 })
          (okWith (u16 start ++ u16 length)))) ∧
    (s.asksPort (.frameHold r number) pkt p = true →
      ((∀ y ∈ f.table, y.number ≠ number) → s.Refuses (.frameHold r number) pkt .noFrame) ∧
      (f.table = older ++ x :: newer → x.number = number → (∀ y ∈ newer, y.number ≠ number) →
          (f.table.map (·.serial)).Nodup →
        let held := (f.table.filter (·.held)).length
        (x.state = .filling → s.Refuses (.frameHold r number) pkt .busy) ∧
        (x.state ≠ .filling → x.held = true →
          s.Answers (.frameHold r number) pkt s.hub.popRequest (okWith (frameStateCode x.state ++ u8 held))) ∧
        (x.state ≠ .filling → x.held = false → 4 ≤ held → s.Refuses (.frameHold r number) pkt .limit) ∧
        (x.state ≠ .filling → x.held = false → held < 4 →
          s.Answers (.frameHold r number) pkt
            (s.hub.popRequest.modFrames p fun f =>
              { f with table := older ++ { x with held := true, retained := false } :: newer })
            (okWith (frameStateCode x.state ++ u8 (held + 1)))))) ∧
    (s.asksPort (.frameRelease r number) pkt p = true →
      ((∀ y ∈ f.table, y.number ≠ number) → s.Refuses (.frameRelease r number) pkt .noFrame) ∧
      (f.table = older ++ x :: newer → x.number = number → (∀ y ∈ newer, y.number ≠ number) →
          (f.table.map (·.serial)).Nodup →
        (x.held = false →
          s.Answers (.frameRelease r number) pkt s.hub.popRequest (okWith (u8 0 ++ frameStateCode x.state))) ∧
        (x.held = true → x.state = .sent → x.resends = [] → x.retained = false →
          s.Answers (.frameRelease r number) pkt
            (s.hub.popRequest.modFrames p fun f => { f with table := older ++ newer })
            (okWith (u8 1 ++ frameStateCode x.state))) ∧
        (x.held = true → x.state ≠ .sent ∨ x.resends ≠ [] ∨ x.retained = true →
          s.Answers (.frameRelease r number) pkt
            (s.hub.popRequest.modFrames p fun f => { f with table := older ++ { x with held := false } :: newer })
            (okWith (u8 0 ++ frameStateCode x.state)))))

/-! ## Views and pipelines -/

/-- The requests of the View Table: VIEW_LOAD's ranges, use and clamp (R137 to R140), the admission of a VIEW_BIND and
its end by VIEW_UNBIND (R141, R142), and the loading of coefficient tables, the values beyond the cursor's end discarded
and counted (R143 to R145). EGRESS_SET replaces the settings its target names (R163). The bytes of the VIEW_LOAD and
EGRESS_SET replies are the model's (log entry 16), and so is a BANDWIDTH refusal without results (log entry 26). -/
def Obligations.ViewAndEgressRequestsAct : Prop :=
  ∀ (s : State) (r : ReqHeader) (pkt : Packet) (p : Port) (view table : Nat) (n : Fin 16) (t : Fin 4) (q : ViewParams)
    (fh fv : Filter) (depth : Depth) (group : Group) (values : List Nat) (k g b : Nat),
    let inUse (n : Fin 16) : Prop :=
      (∃ o, (vget s.hub.view.bindings o).view = some n) ∨
        ∃ o, ∃ x ∈ (s.hub.fr o).table, x.view = some n ∧ x.state ≠ .sent ∨ n ∈ x.resends
    let tableInUse (t : Fin 4) : Prop :=
      ∃ n, inUse n ∧ ((vget s.hub.view.views n).filterH = .table t ∨ (vget s.hub.view.views n).filterV = .table t)
    let old := vget s.hub.view.views n
    let others := s.hub.admissionTotal - (vget s.hub.view.bindings p).load
    (s.asksHub (.viewLoad r view q) pkt = true →
      let fits : Prop :=
        q.x0 + q.w ≤ 4096 ∧ q.y0 + q.h ≤ 4096 ∧ 1 ≤ q.w ∧ 1 ≤ q.h ∧ 256 ≤ q.stepH ∧ q.stepH ≤ 8192 ∧ 256 ≤ q.stepV ∧
          q.stepV ≤ 8192 ∧ q.interval ≤ 10000000 ∧ (q.w - 1) * 1024 / q.stepH + 1 ≤ 4096 ∧
          (q.h - 1) * 1024 / q.stepV + 1 ≤ 4096
      let v : View :=
        { valid := true, x0 := q.x0, y0 := q.y0, w := q.w, h := q.h, stepH := q.stepH, stepV := q.stepV, filterH := fh
          filterV := fv, depth := depth, interval := if q.interval < 1000 then 1000 else q.interval, group := group }
      let given : Prop :=
        readFilter q.filterH = some fh ∧ readFilter q.filterV = some fv ∧ readDepth q.depth = some depth ∧
          readGroup q.group = some group
      (16 ≤ view ∨ 2 ≤ q.valid → s.Refuses (.viewLoad r view q) pkt .range) ∧
      (q.valid = 1 → 5 ≤ q.filterH ∨ 5 ≤ q.filterV ∨ 3 ≤ q.depth ∨ 2 ≤ q.group ∨ ¬ fits →
        s.Refuses (.viewLoad r view q) pkt .range) ∧
      (view = n.val → q.valid = 1 → fits → given → inUse n → s.Refuses (.viewLoad r view q) pkt .inUse) ∧
      (view = n.val → q.valid = 1 → fits → given → ¬ inUse n →
        s.Answers (.viewLoad r view q) pkt
          (s.hub.popRequest.modView fun x => { x with views := vset x.views n v })
          { status := if q.interval < 1000 then .clamped else .ok, results := v.bytes }) ∧
      (view = n.val → q.valid = 0 → inUse n → s.Refuses (.viewLoad r view q) pkt .inUse) ∧
      (view = n.val → q.valid = 0 → ¬ inUse n →
        s.Answers (.viewLoad r view q) pkt
          (s.hub.popRequest.modView fun x => { x with views := vset x.views n { old with valid := false } })
          (okWith { old with valid := false }.bytes))) ∧
    (s.asksPort (.viewBind r view) pkt p = true →
      let bpp := if old.depth = .pix12 then 2 else 1
      let outW := (old.w - 1) * 1024 / old.stepH + 1
      let outH := (old.h - 1) * 1024 / old.stepV + 1
      let load := ((outW * bpp + 32) * outH * 1000000 + old.interval - 1) / old.interval
      (16 ≤ view → s.Refuses (.viewBind r view) pkt .range) ∧
      (view = n.val → old.valid = false → s.Refuses (.viewBind r view) pkt .noView) ∧
      (view = n.val → old.valid = true → 1100000000 < others + load → s.Refuses (.viewBind r view) pkt .bandwidth) ∧
      (view = n.val → old.valid = true → others + load ≤ 1100000000 →
        s.Answers (.viewBind r view) pkt
          (s.hub.popRequest.modView fun x => { x with bindings := vset x.bindings p { view := some n, load := load } })
          (okWith (u8 view ++ u32 load ++ u32 (others + load))))) ∧
    (s.asksPort (.viewUnbind r) pkt p = true →
      s.Answers (.viewUnbind r) pkt
        (s.hub.popRequest.modView fun x => { x with bindings := vset x.bindings p { view := none, load := 0 } })
        (okWith (u32 others))) ∧
    (s.asksHub (.coefSelect r table) pkt = true →
      (4 ≤ table → s.Refuses (.coefSelect r table) pkt .range) ∧
      (table = t.val → tableInUse t → s.Refuses (.coefSelect r table) pkt .inUse) ∧
      (table = t.val → ¬ tableInUse t →
        s.Answers (.coefSelect r table) pkt (s.hub.popRequest.modView fun x => { x with selected := t, cursor := 0 })
          (okWith (u8 table ++ u8 0 ++ (vget s.hub.view.coefs t).toList)))) ∧
    (s.asksHub (.coefWrite r values) pkt = true →
      let room := 32 - s.hub.view.cursor
      let written := Nat.min values.length room
      (values.length = 0 ∨ 32 < values.length → s.Refuses (.coefWrite r values) pkt .range) ∧
      (1 ≤ values.length → values.length ≤ 32 → tableInUse s.hub.view.selected →
        s.Refuses (.coefWrite r values) pkt .inUse) ∧
      (1 ≤ values.length → values.length ≤ 32 → ¬ tableInUse s.hub.view.selected → s.hub.view.cursor ≤ 32 →
        ∃ table' : CoefTable,
          s.Answers (.coefWrite r values) pkt
            (s.hub.popRequest.modView fun x =>
              { x with
                coefs := vset x.coefs x.selected table', cursor := x.cursor + written
                discards := x.discards + BitVec.ofNat 32 (values.length - written) })
            (okWith (u8 written ++ u8 (values.length - written) ++ u8 (s.hub.view.cursor + written) ++
              w32 (s.hub.view.discards + BitVec.ofNat 32 (values.length - written)))) ∧
          ∀ i : Fin 32, vget table' i =
            if s.hub.view.cursor ≤ i.val ∧ i.val < s.hub.view.cursor + written then
              BitVec.ofNat 8 (values.getD (i.val - s.hub.view.cursor) 0)
            else vget (vget s.hub.view.coefs s.hub.view.selected) i)) ∧
    (s.asksHub (.egressSet r (.hub k g b)) pkt = true →
      (¬ (1 ≤ k ∧ k ≤ 16 ∧ g ≤ 1 ∧ 1 ≤ b ∧ b ≤ 16) → s.Refuses (.egressSet r (.hub k g b)) pkt .range) ∧
      (1 ≤ k ∧ k ≤ 16 ∧ g ≤ 1 ∧ 1 ≤ b ∧ b ≤ 16 →
        let h' := s.hub.popRequest.modTrunk fun x =>
          { x with lowShare := k, replyGroup := if g = 0 then .high else .low, replyBurst := b }
        s.Answers (.egressSet r (.hub k g b)) pkt h' (okWith h'.egressBytes))) ∧
    (s.asksPort (.egressSet r (.port b)) pkt p = true →
      (¬ (1 ≤ b ∧ b ≤ 16) → s.Refuses (.egressSet r (.port b)) pkt .range) ∧
      (1 ≤ b ∧ b ≤ 16 →
        let h' := s.hub.popRequest.modTrunk fun x => { x with bursts := vset x.bursts p b }
        s.Answers (.egressSet r (.port b)) pkt h' (okWith h'.egressBytes)))

/-- An IDLE pipeline takes its head item: the record becomes SENDING, with CROP_EMPTY where the crop lies outside the
frame, and the plan holds the view, the effective crop and the output size of R138 (R147); while the trunk is DOWN the item
ends at once (R154; its flags, log entry 30). The packet it offers waits for room or joins its image queue: FRAME_OPEN, of an
empty crop followed at once by FRAME_CLOSE, the IMAGE_LINEs of 32 + out_w × bpp bytes, their pixels the output line of the
crop in frame memory (its byte order and addresses, log entry 8), and FRAME_CLOSE, each with the fields of Table 11-3,
whose taking ends the item and lets the next be taken (R151, R157; one packet an event, log entry 11). FRAME_RESEND makes its checks and adds its item
(R152); PIPE_RESET ends the item in process, takes every waiting item and empties the image queue (R153). -/
def Obligations.PipelinesSendItems : Prop :=
  ∀ (s : State) (r : ReqHeader) (pkt : Packet) (p : Port) (item : WorkItem) (rest : List WorkItem) (x : FrameRecord)
    (plan : OutputPlan) (number view : Nat) (v : Fin 16) (older newer : List FrameRecord),
    let f := s.hub.fr p
    let q := s.hub.pl p
    (q.phase = .idle → exec (.imageQueueTakesPacket p) s = .next s) ∧
    (q.phase ≠ .idle → s.Does (.imageQueueTakesPacket p) (s.hub.pipeAct s.dram p)) ∧
    (∀ (h : Hub) (m : Memory), ((h.pl p).work = [] → h.pipeAct m p = h) ∧
      ((h.pl p).work = item :: rest → (h.fr p).record item.serial = some x →
      let change (g : FrameRecord → FrameRecord) : Hub :=
        h.modFrames p fun f => { f with table := f.table.map fun y => if y.serial = item.serial then g y else y }
      let ends (h : Hub) (flag : BitVec 32) : Hub :=
        (h.modFrames p fun f =>
          { f with
            table := (f.table.map fun y =>
              if y.serial = item.serial then
                { y with
                  state := .sent, flags := y.flags ||| flag
                  resends := if item.resend ≠ none then y.resends.tail else y.resends }
              else y).filter fun y =>
                !(y.serial = item.serial && !y.held && y.resends.isEmpty && !y.retained) }).modPipe p fun y =>
          { y with phase := .idle, work := rest, plan := none }
      ((h.pl p).phase = .idle → h.trunk.up = false → h.pipeAct m p = (ends h flagTrunkLost).pipeAct m p) ∧
      ((h.pl p).phase = .idle → h.trunk.up = true →
        let n := item.resend.getD (x.view.getD 0)
        let w := vget h.view.views n
        let outside : Prop := x.width ≤ w.x0 ∨ x.height ≤ w.y0
        ∃ made : OutputPlan, made.view = n ∧ made.x0 = w.x0 ∧ made.y0 = w.y0 ∧ made.opened = false ∧ made.nextLine = 0 ∧
          (made.empty = true ↔ outside) ∧
          (¬ outside →
            made.cropW = Nat.min w.w (x.width - w.x0) ∧ made.cropH = Nat.min w.h (x.height - w.y0) ∧
            made.outW = (made.cropW - 1) * 1024 / w.stepH + 1 ∧ made.outH = (made.cropH - 1) * 1024 / w.stepV + 1) ∧
          ∃ free, (¬ outside → free = h.freeCount) ∧
            h.pipeAct m p =
              ({ (change fun y =>
                    { y with state := .sending, flags := y.flags ||| (if made.empty then flagCropEmpty else 0) }).modPipe p
                  fun q => { q with phase := .running, plan := some made } with freeCount := free }).pipeAct m p) ∧
      ((h.pl p).phase ≠ .idle → (h.pl p).plan = some plan →
        let offered := h.emission m p plan item x
        let held := (vget h.trunk.images p).map fun o => 8 + o.payload.length
        let fits : Prop := held.sum + 8 + offered.payload.length ≤ 65536
        let taken := h.modTrunk fun y => { y with images := vset y.images p (vget y.images p ++ [offered]) }
        let opened := taken.modPipe p fun y => { y with phase := .running, plan := some { plan with opened := true } }
        let closed := taken.modPipe p fun y => { y with closed := y.closed ++ [item.serial] }
        let w := vget h.view.views plan.view
        let flags := x.flags ||| (if item.resend ≠ none then flagResend else 0)
        let carries (kind : Byte) (payload : List Byte) : Prop :=
          offered = { kind := kind, port := BitVec.ofNat 8 p.val, tag := 0, flags := if item.resend ≠ none then 1 else 0
                      payload := payload }
        let pixel (column line : Nat) : Nat :=
          let place := (h.fr p).ringStart * 65536 + x.offset + ((plan.y0 + line) * x.width + (plan.x0 + column)) * 2
          (Memory.read m (place % 268435456)).toNat * 256 + (Memory.read m ((place + 1) % 268435456)).toNat
        (¬ fits → h.pipeAct m p = h.modPipe p fun y => { y with phase := .waiting }) ∧
        (plan.opened = false →
          carries kindFrameOpen
            (u16 x.number ++ u8 x.triggerId ++
              (match x.trigger with
                | some fired => u8 1 ++ w32 fired.encoder ++ w32 fired.time
                | none => List.replicate 9 0) ++
              w32 x.arrival ++ u16 x.width ++ u16 x.height ++ u16 x.concealed ++ w32 flags ++ u8 plan.view.val ++
              depthCode w.depth ++ u16 plan.x0 ++ u16 plan.y0 ++ u16 plan.cropW ++ u16 plan.cropH ++ u16 plan.outW ++
              u16 plan.outH) ∧
          (plan.empty = false → fits → h.pipeAct m p = opened) ∧
          (plan.empty = true → fits → h.pipeAct m p = opened.pipeAct m p)) ∧
        (plan.opened = true → plan.empty = false → plan.nextLine < plan.outH →
          carries kindImageLine
            (u16 x.number ++ u16 plan.nextLine ++ u16 plan.outW ++ u16 plan.outH ++ depthCode w.depth ++
              u8 plan.view.val ++ u16 0 ++ w32 flags ++ w32 x.arrival ++ w32 h.time ++
              (outputLine h.view.coefs w plan.cropW plan.cropH plan.outW plan.nextLine pixel).flatMap fun v =>
                if w.depth = .pix12 then u16 v else u8 v) ∧
          8 + offered.payload.length =
            32 + plan.outW * (if (vget h.view.views plan.view).depth = .pix12 then 2 else 1) ∧
          (fits →
            h.pipeAct m p = taken.modPipe p fun y =>
              { y with phase := .running, plan := some { plan with nextLine := plan.nextLine + 1 } })) ∧
        (plan.opened = true → plan.empty = true ∨ plan.outH ≤ plan.nextLine →
          carries kindFrameClose
            (u16 x.number ++ w32 flags ++ u16 x.concealed ++ u16 (if plan.empty then 0 else plan.outH)) ∧
          (fits → h.pipeAct m p = (ends closed 0).pipeAct m p))))) ∧
    (s.asksPort (.frameResend r number view) pkt p = true →
      let resending := (q.work.filter fun y => y.resend.isSome).length
      (16 ≤ view → s.Refuses (.frameResend r number view) pkt .range) ∧
      (view = v.val → (∀ y ∈ f.table, y.number ≠ number) → s.Refuses (.frameResend r number view) pkt .noFrame) ∧
      (view = v.val → f.table = older ++ x :: newer → x.number = number → (∀ y ∈ newer, y.number ≠ number) →
          (f.table.map (·.serial)).Nodup →
        (x.state = .filling ∨ x.state = .sending → s.Refuses (.frameResend r number view) pkt .busy) ∧
        (x.state = .complete ∨ x.state = .sent → (vget s.hub.view.views v).valid = false →
          s.Refuses (.frameResend r number view) pkt .noView) ∧
        (x.state = .complete ∨ x.state = .sent → (vget s.hub.view.views v).valid = true →
          (2 ≤ x.resends.length ∨ 2 ≤ resending → s.Refuses (.frameResend r number view) pkt .limit) ∧
          (x.resends.length < 2 → resending < 2 →
            let joined := (s.hub.popRequest.modFrames p fun f =>
                { f with table := older ++ { x with resends := x.resends ++ [v], retained := false } :: newer }).modPipe p
              fun y => { y with work := y.work ++ [{ serial := x.serial, resend := some v }] }
            s.Answers (.frameResend r number view) pkt
              (if q.phase = .idle then joined.pipeAct s.dram p else joined) (okWith (u8 (q.work.length + 1))))))) ∧
    (s.asksPort (.pipeReset r) pkt p = true →
      let process := if q.phase = .idle then [] else q.work.take 1
      let waiting := if q.phase = .idle then q.work else q.work.drop 1
      let live := waiting.filter fun y => y.resend.isNone
      let ended (y : FrameRecord) : Bool := (process ++ live).any fun o => o.serial = y.serial
      s.Answers (.pipeReset r) pkt
        (((s.hub.popRequest.modFrames p fun f =>
            { f with
              table := (f.table.filter fun y =>
                !((ended y || !y.resends.isEmpty) && (ended y || decide (y.state = .sent)) && !y.held &&
                  !y.retained)).map fun y =>
                if ended y then { y with state := .sent, flags := y.flags ||| flagAborted, resends := [] }
                else { y with resends := [] } }).modPipe p fun _ => { phase := .idle, work := [], plan := none }).modTrunk
          fun y =>
          { y with
            discarded := y.discarded + BitVec.ofNat 32 (vget y.images p).length, images := vset y.images p [] })
        (okWith (u8 process.length ++ u8 live.length ++ u8 (waiting.filter fun y => y.resend.isSome).length)))

/-- The pixels of an output line: the two-pass filter's value, its edges replicated, rounded and clamped to 0-4,095
(R148, R149), and the depth's reduction, rounded or with the dither offsets of Table 8-6 (R150). An output line is the
horizontal pass over the vertical pass, of out_w pixels, each within its depth; at a step of 1,024 NEAREST and the cold-reset
coefficients give the input line itself. -/
def Obligations.PixelsAreResampled : Prop :=
  ∀ (tables : Vector CoefTable 4) (v : View) (cropW cropH outW line : Nat) (pixel : Nat → Nat → Nat),
    (∀ (t : Fin 4) (step n k : Nat) (x : Nat → Nat), 1 ≤ n →
      let pos := k * step
      let source (offset : Int) : Nat :=
        let i := (pos / 1024 : Nat) + offset
        if i < 0 then 0 else if (n : Int) - 1 < i then n - 1 else i.toNat
      let weight (tap : Nat) : Int := ((vget tables t).toList.getD (pos % 1024 / 128 * 4 + tap) 0).toInt
      let sum := weight 0 * x (source (-1)) + weight 1 * x (source 0) + weight 2 * x (source 1) + weight 3 * x (source 2)
      (resample tables (.table t) step n k x : Int) = max 0 (min 4095 ((sum + 32) / 64))) ∧
    (∀ (step n k : Nat) (x : Nat → Nat),
      resample tables .nearest step n k x = x (min ((k * step + 512) / 1024) (n - 1))) ∧
    (1 ≤ cropW → outputLine tables v cropW cropH outW line pixel =
      (List.range outW).map fun k =>
        reduceDepth v.depth line k (resample tables v.filterH v.stepH cropW k fun c =>
          resample tables v.filterV v.stepV cropH line fun row => pixel c row)) ∧
    (outputLine tables v cropW cropH outW line pixel).length = outW ∧
    ((∀ c n, pixel c n ≤ 4095) → ∀ y ∈ outputLine tables v cropW cropH outW line pixel,
      y ≤ if v.depth = .pix12 then 4095 else 255) ∧
    (v.stepH = 1024 → v.stepV = 1024 → v.depth = .pix12 → outW ≤ cropW → line < cropH → (∀ c n, pixel c n ≤ 4095) →
      (v.filterH = .nearest ∨ ∃ t, v.filterH = .table t ∧ vget tables t = CoefTable.linear) →
      (v.filterV = .nearest ∨ ∃ t, v.filterV = .table t ∧ vget tables t = CoefTable.linear) →
      outputLine tables v cropW cropH outW line pixel = (List.range outW).map fun c => pixel c line) ∧
    (∀ n k y : Nat, y ≤ 4095 →
      reduceDepth .pix12 n k y = y ∧ reduceDepth .pix8Round n k y = (if 4088 ≤ y then 255 else (y + 8) / 16) ∧
      reduceDepth .pix8Dither n k y =
        min 255 ((y + (if n % 2 = 0 then (if k % 2 = 0 then 0 else 8) else (if k % 2 = 0 then 12 else 4))) / 16) ∧
      reduceDepth .pix8Dither n k y ≤ 255 ∧ y / 16 ≤ reduceDepth .pix8Dither n k y ∧
      reduceDepth .pix8Dither n k y ≤ y / 16 + 1) ∧
    ∀ n step : Nat, 1 ≤ n → 1 ≤ step →
      (outSize n step - 1) * step ≤ (n - 1) * 1024 ∧ (n - 1) * 1024 < outSize n step * step

/-! ## The trunk -/

/-- The trunk's return and loss, and the end of a send: entry into UP sets TRUNK (R156, R165); a loss empties the nine
queues and the replies that answered slots keep into the discarded count, ends the grant and drains every pipeline: each
record that an item names is SENT with TRUNK_LOST, and is released unless it is held, retained or awaits a resend that no item
names, the ring, the cursor, the intake and the counts staying; a frame whose FRAME_CLOSE its queue took at the same time, and
has not sent, has TRUNK_LOST too (R154, R164, R132, R133, R122, R171; that time, log entry 36; that an IDLE pipeline has no
plan and that the kept replies are those of the ANSWERED slots, FrameRecordsStayApart and QueuesKeepTheirBounds say of every
state that a run reaches); the end of a send ends its grant at its burst or on an empty queue, and else begins the send of the
queue's next packet, which lets a packet that waits at the queue's pipeline in (R159, R162, R157). -/
def Obligations.TrunkEventsAct : Prop :=
  ∀ (s : State) (q : QueueNo) (pkt next : Packet) (rest : List Packet) (g : Grant),
    (s.hub.trunk.up = true → exec .trunkUp s = .next s) ∧
    (s.hub.trunk.up = false → (∀ p, (s.hub.pl p).phase ≠ .idle ∨ (s.hub.pl p).work = []) →
      s.Does .trunkUp ((s.hub.modTrunk fun t => { t with up := true }).flagPart fTrunk)) ∧
    (s.hub.trunk.up = false → exec .trunkLoss s = .next s) ∧
    (s.hub.trunk.up = true → s.hub.mgmt.taking ≠ .resetting → s.hub.KeptReplies →
        (∀ p, (s.hub.pl p).phase = .idle → (s.hub.pl p).plan = none) →
      ∃ h', s.Does .trunkLoss h' ∧
        h'.trunk = { s.hub.trunk with
          up := false, losses := s.hub.trunk.losses + 1, lane := none, grant := none, highRun := 0
          images := Vector.replicate 8 [], replies := []
          discarded := s.hub.trunk.discarded +
            BitVec.ofNat 32 (([0, 1, 2, 3, 4, 5, 6, 7].map fun p : Port => (vget s.hub.trunk.images p).length).sum +
              s.hub.trunk.replies.length + s.hub.mgmt.answered.length) } ∧
        h'.mgmt = { s.hub.mgmt with answered := [], slots := h'.mgmt.slots } ∧
        (∀ i, vget h'.mgmt.slots i = if i ∈ s.hub.mgmt.answered then .free else vget s.hub.mgmt.slots i) ∧
        h'.power = s.hub.power ∧ h'.link = s.hub.link ∧ h'.lens = s.hub.lens ∧
        h'.trig = s.hub.trig ∧ h'.view = s.hub.view ∧ h'.cable = s.hub.cable ∧ h'.cables = s.hub.cables ∧
        ∀ p, h'.pl p = { phase := .idle, work := [], plan := none, closed := [] } ∧
          let closes := (vget s.hub.trunk.images p ++
            (match s.hub.trunk.lane with
              | some (o, last) => if o.val = p.val then [last] else []
              | none => [])).filter fun y => y.kind = kindFrameClose
          let late := (s.hub.pl p).closed.drop ((s.hub.pl p).closed.length - closes.length)
          let items (x : FrameRecord) : List WorkItem := (s.hub.pl p).work.filter fun item => item.serial = x.serial
          h'.fr p = { s.hub.fr p with
            table := ((s.hub.fr p).table.map fun x =>
              if items x = [] then (if x.serial ∈ late then { x with flags := x.flags ||| flagTrunkLost } else x)
              else { x with
                state := .sent, flags := x.flags ||| flagTrunkLost
                resends := x.resends.drop ((items x).filter fun item => item.resend.isSome).length }).filter fun x =>
              items x = [] || x.held || x.retained || !x.resends.isEmpty }) ∧
    (s.hub.trunk.lane = none → exec .packetSendEnd s = .next s) ∧
    (s.hub.trunk.lane = some (q, pkt) → s.hub.mgmt.taking ≠ .resetting → s.hub.trunk.grant = some g →
      (g.burst ≤ g.sent ∨ s.hub.queuePackets g.queue = [] →
        s.Does .packetSendEnd (s.hub.modTrunk fun t => { t with lane := none, grant := none })) ∧
      (g.sent < g.burst → s.hub.queuePackets g.queue = next :: rest →
        ∃ h', s.Does .packetSendEnd h' ∧ h'.trunk.lane = some (g.queue, next) ∧
          h'.trunk.grant = some { g with sent := g.sent + 1 } ∧
          vget h'.trunk.sent g.queue = vget s.hub.trunk.sent g.queue + 1 ∧
          (∀ o, o ≠ g.queue → vget h'.trunk.sent o = vget s.hub.trunk.sent o ∧
            h'.queuePackets o = s.hub.queuePackets o) ∧
          h'.mgmt = s.hub.mgmt ∧ s.hub.SendBegun h' s.dram g.queue rest))
end

