-- ==== Sys2Proof/Laws/State.lean ====
section
/-! SUPPORT. The lemmas of the state: reading an item after an update, one lemma for each field and update. -/

namespace Sys2Proof.Machine

/-! ## Indexed items -/

@[simp] theorem vget_vset_same {α : Type} {n : Nat} (v : Vector α n) (i : Fin n) (x : α) : vget (vset v i x) i = x := by
  simp [vget, vset]

theorem vget_vset_ne {α : Type} {n : Nat} (v : Vector α n) {i j : Fin n} (x : α) (h : j ≠ i) :
    vget (vset v i x) j = vget v j := by
  have : i.val ≠ j.val := fun e => h (Fin.ext e.symm)
  simp [vget, vset, this]

/-- Reading after one item was replaced. -/
theorem vget_vset {α : Type} {n : Nat} (v : Vector α n) (i j : Fin n) (x : α) :
    vget (vset v i x) j = if j = i then x else vget v j := by
  by_cases h : j = i
  · subst h; simp
  · simp [h, vget_vset_ne]

/-- Reading after one item was changed. -/
theorem vget_vmod {α : Type} {n : Nat} (v : Vector α n) (i j : Fin n) (f : α → α) :
    vget (vmod v i f) j = if j = i then f (vget v i) else vget v j := vget_vset v i j _

@[simp] theorem vget_vmod_same {α : Type} {n : Nat} (v : Vector α n) (i : Fin n) (f : α → α) :
    vget (vmod v i f) i = f (vget v i) := by simp [vget_vmod]

theorem vget_vmod_ne {α : Type} {n : Nat} (v : Vector α n) {i j : Fin n} (f : α → α) (h : j ≠ i) :
    vget (vmod v i f) j = vget v j := by simp [vget_vmod, h]

@[simp] theorem vget_replicate {α : Type} {n : Nat} (x : α) (i : Fin n) : vget (Vector.replicate n x) i = x := by
  simp [vget]

/-- A port is one of the eight. -/
theorem mem_allPorts (p : Port) : p ∈ allPorts := by revert p; decide

/-! ## The updates of one unit: every other field stays -/

@[simp] theorem Hub.modPower_time (h : Hub) (p : Port) (f : PortPower → PortPower) : (h.modPower p f).time = h.time := rfl
@[simp] theorem Hub.modPower_requestedIso (h : Hub) (p : Port) (f : PortPower → PortPower) : (h.modPower p f).requestedIso = h.requestedIso := rfl
@[simp] theorem Hub.modPower_cell (h : Hub) (p : Port) (f : PortPower → PortPower) : (h.modPower p f).cell = h.cell := rfl
@[simp] theorem Hub.modPower_link (h : Hub) (p : Port) (f : PortPower → PortPower) : (h.modPower p f).link = h.link := rfl
@[simp] theorem Hub.modPower_cable (h : Hub) (p : Port) (f : PortPower → PortPower) : (h.modPower p f).cable = h.cable := rfl
@[simp] theorem Hub.modPower_cables (h : Hub) (p : Port) (f : PortPower → PortPower) : (h.modPower p f).cables = h.cables := rfl
@[simp] theorem Hub.modPower_lens (h : Hub) (p : Port) (f : PortPower → PortPower) : (h.modPower p f).lens = h.lens := rfl
@[simp] theorem Hub.modPower_encoder (h : Hub) (p : Port) (f : PortPower → PortPower) : (h.modPower p f).encoder = h.encoder := rfl
@[simp] theorem Hub.modPower_lines (h : Hub) (p : Port) (f : PortPower → PortPower) : (h.modPower p f).lines = h.lines := rfl
@[simp] theorem Hub.modPower_trig (h : Hub) (p : Port) (f : PortPower → PortPower) : (h.modPower p f).trig = h.trig := rfl
@[simp] theorem Hub.modPower_frames (h : Hub) (p : Port) (f : PortPower → PortPower) : (h.modPower p f).frames = h.frames := rfl
@[simp] theorem Hub.modPower_view (h : Hub) (p : Port) (f : PortPower → PortPower) : (h.modPower p f).view = h.view := rfl
@[simp] theorem Hub.modPower_pipe (h : Hub) (p : Port) (f : PortPower → PortPower) : (h.modPower p f).pipe = h.pipe := rfl
@[simp] theorem Hub.modPower_trunk (h : Hub) (p : Port) (f : PortPower → PortPower) : (h.modPower p f).trunk = h.trunk := rfl
@[simp] theorem Hub.modPower_mgmt (h : Hub) (p : Port) (f : PortPower → PortPower) : (h.modPower p f).mgmt = h.mgmt := rfl
@[simp] theorem Hub.modPower_freeCount (h : Hub) (p : Port) (f : PortPower → PortPower) : (h.modPower p f).freeCount = h.freeCount := rfl
@[simp] theorem Hub.modPower_power (h : Hub) (p : Port) (f : PortPower → PortPower) : (h.modPower p f).power = vmod h.power p f := rfl

@[simp] theorem Hub.modLink_time (h : Hub) (p : Port) (f : LinkCtl → LinkCtl) : (h.modLink p f).time = h.time := rfl
@[simp] theorem Hub.modLink_requestedIso (h : Hub) (p : Port) (f : LinkCtl → LinkCtl) : (h.modLink p f).requestedIso = h.requestedIso := rfl
@[simp] theorem Hub.modLink_power (h : Hub) (p : Port) (f : LinkCtl → LinkCtl) : (h.modLink p f).power = h.power := rfl
@[simp] theorem Hub.modLink_cell (h : Hub) (p : Port) (f : LinkCtl → LinkCtl) : (h.modLink p f).cell = h.cell := rfl
@[simp] theorem Hub.modLink_cable (h : Hub) (p : Port) (f : LinkCtl → LinkCtl) : (h.modLink p f).cable = h.cable := rfl
@[simp] theorem Hub.modLink_cables (h : Hub) (p : Port) (f : LinkCtl → LinkCtl) : (h.modLink p f).cables = h.cables := rfl
@[simp] theorem Hub.modLink_lens (h : Hub) (p : Port) (f : LinkCtl → LinkCtl) : (h.modLink p f).lens = h.lens := rfl
@[simp] theorem Hub.modLink_encoder (h : Hub) (p : Port) (f : LinkCtl → LinkCtl) : (h.modLink p f).encoder = h.encoder := rfl
@[simp] theorem Hub.modLink_lines (h : Hub) (p : Port) (f : LinkCtl → LinkCtl) : (h.modLink p f).lines = h.lines := rfl
@[simp] theorem Hub.modLink_trig (h : Hub) (p : Port) (f : LinkCtl → LinkCtl) : (h.modLink p f).trig = h.trig := rfl
@[simp] theorem Hub.modLink_frames (h : Hub) (p : Port) (f : LinkCtl → LinkCtl) : (h.modLink p f).frames = h.frames := rfl
@[simp] theorem Hub.modLink_view (h : Hub) (p : Port) (f : LinkCtl → LinkCtl) : (h.modLink p f).view = h.view := rfl
@[simp] theorem Hub.modLink_pipe (h : Hub) (p : Port) (f : LinkCtl → LinkCtl) : (h.modLink p f).pipe = h.pipe := rfl
@[simp] theorem Hub.modLink_trunk (h : Hub) (p : Port) (f : LinkCtl → LinkCtl) : (h.modLink p f).trunk = h.trunk := rfl
@[simp] theorem Hub.modLink_mgmt (h : Hub) (p : Port) (f : LinkCtl → LinkCtl) : (h.modLink p f).mgmt = h.mgmt := rfl
@[simp] theorem Hub.modLink_freeCount (h : Hub) (p : Port) (f : LinkCtl → LinkCtl) : (h.modLink p f).freeCount = h.freeCount := rfl
@[simp] theorem Hub.modLink_link (h : Hub) (p : Port) (f : LinkCtl → LinkCtl) : (h.modLink p f).link = vmod h.link p f := rfl

@[simp] theorem Hub.modCable_time (h : Hub) (p : Port) (f : PortCable → PortCable) : (h.modCable p f).time = h.time := rfl
@[simp] theorem Hub.modCable_requestedIso (h : Hub) (p : Port) (f : PortCable → PortCable) : (h.modCable p f).requestedIso = h.requestedIso := rfl
@[simp] theorem Hub.modCable_power (h : Hub) (p : Port) (f : PortCable → PortCable) : (h.modCable p f).power = h.power := rfl
@[simp] theorem Hub.modCable_cell (h : Hub) (p : Port) (f : PortCable → PortCable) : (h.modCable p f).cell = h.cell := rfl
@[simp] theorem Hub.modCable_link (h : Hub) (p : Port) (f : PortCable → PortCable) : (h.modCable p f).link = h.link := rfl
@[simp] theorem Hub.modCable_cables (h : Hub) (p : Port) (f : PortCable → PortCable) : (h.modCable p f).cables = h.cables := rfl
@[simp] theorem Hub.modCable_lens (h : Hub) (p : Port) (f : PortCable → PortCable) : (h.modCable p f).lens = h.lens := rfl
@[simp] theorem Hub.modCable_encoder (h : Hub) (p : Port) (f : PortCable → PortCable) : (h.modCable p f).encoder = h.encoder := rfl
@[simp] theorem Hub.modCable_lines (h : Hub) (p : Port) (f : PortCable → PortCable) : (h.modCable p f).lines = h.lines := rfl
@[simp] theorem Hub.modCable_trig (h : Hub) (p : Port) (f : PortCable → PortCable) : (h.modCable p f).trig = h.trig := rfl
@[simp] theorem Hub.modCable_frames (h : Hub) (p : Port) (f : PortCable → PortCable) : (h.modCable p f).frames = h.frames := rfl
@[simp] theorem Hub.modCable_view (h : Hub) (p : Port) (f : PortCable → PortCable) : (h.modCable p f).view = h.view := rfl
@[simp] theorem Hub.modCable_pipe (h : Hub) (p : Port) (f : PortCable → PortCable) : (h.modCable p f).pipe = h.pipe := rfl
@[simp] theorem Hub.modCable_trunk (h : Hub) (p : Port) (f : PortCable → PortCable) : (h.modCable p f).trunk = h.trunk := rfl
@[simp] theorem Hub.modCable_mgmt (h : Hub) (p : Port) (f : PortCable → PortCable) : (h.modCable p f).mgmt = h.mgmt := rfl
@[simp] theorem Hub.modCable_freeCount (h : Hub) (p : Port) (f : PortCable → PortCable) : (h.modCable p f).freeCount = h.freeCount := rfl
@[simp] theorem Hub.modCable_cable (h : Hub) (p : Port) (f : PortCable → PortCable) : (h.modCable p f).cable = vmod h.cable p f := rfl

@[simp] theorem Hub.modLens_time (h : Hub) (p : Port) (f : PortLens → PortLens) : (h.modLens p f).time = h.time := rfl
@[simp] theorem Hub.modLens_requestedIso (h : Hub) (p : Port) (f : PortLens → PortLens) : (h.modLens p f).requestedIso = h.requestedIso := rfl
@[simp] theorem Hub.modLens_power (h : Hub) (p : Port) (f : PortLens → PortLens) : (h.modLens p f).power = h.power := rfl
@[simp] theorem Hub.modLens_cell (h : Hub) (p : Port) (f : PortLens → PortLens) : (h.modLens p f).cell = h.cell := rfl
@[simp] theorem Hub.modLens_link (h : Hub) (p : Port) (f : PortLens → PortLens) : (h.modLens p f).link = h.link := rfl
@[simp] theorem Hub.modLens_cable (h : Hub) (p : Port) (f : PortLens → PortLens) : (h.modLens p f).cable = h.cable := rfl
@[simp] theorem Hub.modLens_cables (h : Hub) (p : Port) (f : PortLens → PortLens) : (h.modLens p f).cables = h.cables := rfl
@[simp] theorem Hub.modLens_encoder (h : Hub) (p : Port) (f : PortLens → PortLens) : (h.modLens p f).encoder = h.encoder := rfl
@[simp] theorem Hub.modLens_lines (h : Hub) (p : Port) (f : PortLens → PortLens) : (h.modLens p f).lines = h.lines := rfl
@[simp] theorem Hub.modLens_trig (h : Hub) (p : Port) (f : PortLens → PortLens) : (h.modLens p f).trig = h.trig := rfl
@[simp] theorem Hub.modLens_frames (h : Hub) (p : Port) (f : PortLens → PortLens) : (h.modLens p f).frames = h.frames := rfl
@[simp] theorem Hub.modLens_view (h : Hub) (p : Port) (f : PortLens → PortLens) : (h.modLens p f).view = h.view := rfl
@[simp] theorem Hub.modLens_pipe (h : Hub) (p : Port) (f : PortLens → PortLens) : (h.modLens p f).pipe = h.pipe := rfl
@[simp] theorem Hub.modLens_trunk (h : Hub) (p : Port) (f : PortLens → PortLens) : (h.modLens p f).trunk = h.trunk := rfl
@[simp] theorem Hub.modLens_mgmt (h : Hub) (p : Port) (f : PortLens → PortLens) : (h.modLens p f).mgmt = h.mgmt := rfl
@[simp] theorem Hub.modLens_freeCount (h : Hub) (p : Port) (f : PortLens → PortLens) : (h.modLens p f).freeCount = h.freeCount := rfl
@[simp] theorem Hub.modLens_lens (h : Hub) (p : Port) (f : PortLens → PortLens) : (h.modLens p f).lens = vmod h.lens p f := rfl

@[simp] theorem Hub.modTrig_time (h : Hub) (p : Port) (f : PortTrigger → PortTrigger) : (h.modTrig p f).time = h.time := rfl
@[simp] theorem Hub.modTrig_requestedIso (h : Hub) (p : Port) (f : PortTrigger → PortTrigger) : (h.modTrig p f).requestedIso = h.requestedIso := rfl
@[simp] theorem Hub.modTrig_power (h : Hub) (p : Port) (f : PortTrigger → PortTrigger) : (h.modTrig p f).power = h.power := rfl
@[simp] theorem Hub.modTrig_cell (h : Hub) (p : Port) (f : PortTrigger → PortTrigger) : (h.modTrig p f).cell = h.cell := rfl
@[simp] theorem Hub.modTrig_link (h : Hub) (p : Port) (f : PortTrigger → PortTrigger) : (h.modTrig p f).link = h.link := rfl
@[simp] theorem Hub.modTrig_cable (h : Hub) (p : Port) (f : PortTrigger → PortTrigger) : (h.modTrig p f).cable = h.cable := rfl
@[simp] theorem Hub.modTrig_cables (h : Hub) (p : Port) (f : PortTrigger → PortTrigger) : (h.modTrig p f).cables = h.cables := rfl
@[simp] theorem Hub.modTrig_lens (h : Hub) (p : Port) (f : PortTrigger → PortTrigger) : (h.modTrig p f).lens = h.lens := rfl
@[simp] theorem Hub.modTrig_encoder (h : Hub) (p : Port) (f : PortTrigger → PortTrigger) : (h.modTrig p f).encoder = h.encoder := rfl
@[simp] theorem Hub.modTrig_lines (h : Hub) (p : Port) (f : PortTrigger → PortTrigger) : (h.modTrig p f).lines = h.lines := rfl
@[simp] theorem Hub.modTrig_frames (h : Hub) (p : Port) (f : PortTrigger → PortTrigger) : (h.modTrig p f).frames = h.frames := rfl
@[simp] theorem Hub.modTrig_view (h : Hub) (p : Port) (f : PortTrigger → PortTrigger) : (h.modTrig p f).view = h.view := rfl
@[simp] theorem Hub.modTrig_pipe (h : Hub) (p : Port) (f : PortTrigger → PortTrigger) : (h.modTrig p f).pipe = h.pipe := rfl
@[simp] theorem Hub.modTrig_trunk (h : Hub) (p : Port) (f : PortTrigger → PortTrigger) : (h.modTrig p f).trunk = h.trunk := rfl
@[simp] theorem Hub.modTrig_mgmt (h : Hub) (p : Port) (f : PortTrigger → PortTrigger) : (h.modTrig p f).mgmt = h.mgmt := rfl
@[simp] theorem Hub.modTrig_freeCount (h : Hub) (p : Port) (f : PortTrigger → PortTrigger) : (h.modTrig p f).freeCount = h.freeCount := rfl
@[simp] theorem Hub.modTrig_trig (h : Hub) (p : Port) (f : PortTrigger → PortTrigger) : (h.modTrig p f).trig = vmod h.trig p f := rfl

@[simp] theorem Hub.modFrames_time (h : Hub) (p : Port) (f : PortFrames → PortFrames) : (h.modFrames p f).time = h.time := rfl
@[simp] theorem Hub.modFrames_requestedIso (h : Hub) (p : Port) (f : PortFrames → PortFrames) : (h.modFrames p f).requestedIso = h.requestedIso := rfl
@[simp] theorem Hub.modFrames_power (h : Hub) (p : Port) (f : PortFrames → PortFrames) : (h.modFrames p f).power = h.power := rfl
@[simp] theorem Hub.modFrames_cell (h : Hub) (p : Port) (f : PortFrames → PortFrames) : (h.modFrames p f).cell = h.cell := rfl
@[simp] theorem Hub.modFrames_link (h : Hub) (p : Port) (f : PortFrames → PortFrames) : (h.modFrames p f).link = h.link := rfl
@[simp] theorem Hub.modFrames_cable (h : Hub) (p : Port) (f : PortFrames → PortFrames) : (h.modFrames p f).cable = h.cable := rfl
@[simp] theorem Hub.modFrames_cables (h : Hub) (p : Port) (f : PortFrames → PortFrames) : (h.modFrames p f).cables = h.cables := rfl
@[simp] theorem Hub.modFrames_lens (h : Hub) (p : Port) (f : PortFrames → PortFrames) : (h.modFrames p f).lens = h.lens := rfl
@[simp] theorem Hub.modFrames_encoder (h : Hub) (p : Port) (f : PortFrames → PortFrames) : (h.modFrames p f).encoder = h.encoder := rfl
@[simp] theorem Hub.modFrames_lines (h : Hub) (p : Port) (f : PortFrames → PortFrames) : (h.modFrames p f).lines = h.lines := rfl
@[simp] theorem Hub.modFrames_trig (h : Hub) (p : Port) (f : PortFrames → PortFrames) : (h.modFrames p f).trig = h.trig := rfl
@[simp] theorem Hub.modFrames_view (h : Hub) (p : Port) (f : PortFrames → PortFrames) : (h.modFrames p f).view = h.view := rfl
@[simp] theorem Hub.modFrames_pipe (h : Hub) (p : Port) (f : PortFrames → PortFrames) : (h.modFrames p f).pipe = h.pipe := rfl
@[simp] theorem Hub.modFrames_trunk (h : Hub) (p : Port) (f : PortFrames → PortFrames) : (h.modFrames p f).trunk = h.trunk := rfl
@[simp] theorem Hub.modFrames_mgmt (h : Hub) (p : Port) (f : PortFrames → PortFrames) : (h.modFrames p f).mgmt = h.mgmt := rfl
@[simp] theorem Hub.modFrames_freeCount (h : Hub) (p : Port) (f : PortFrames → PortFrames) : (h.modFrames p f).freeCount = h.freeCount := rfl
@[simp] theorem Hub.modFrames_frames (h : Hub) (p : Port) (f : PortFrames → PortFrames) : (h.modFrames p f).frames = vmod h.frames p f := rfl

@[simp] theorem Hub.modPipe_time (h : Hub) (p : Port) (f : Pipeline → Pipeline) : (h.modPipe p f).time = h.time := rfl
@[simp] theorem Hub.modPipe_requestedIso (h : Hub) (p : Port) (f : Pipeline → Pipeline) : (h.modPipe p f).requestedIso = h.requestedIso := rfl
@[simp] theorem Hub.modPipe_power (h : Hub) (p : Port) (f : Pipeline → Pipeline) : (h.modPipe p f).power = h.power := rfl
@[simp] theorem Hub.modPipe_cell (h : Hub) (p : Port) (f : Pipeline → Pipeline) : (h.modPipe p f).cell = h.cell := rfl
@[simp] theorem Hub.modPipe_link (h : Hub) (p : Port) (f : Pipeline → Pipeline) : (h.modPipe p f).link = h.link := rfl
@[simp] theorem Hub.modPipe_cable (h : Hub) (p : Port) (f : Pipeline → Pipeline) : (h.modPipe p f).cable = h.cable := rfl
@[simp] theorem Hub.modPipe_cables (h : Hub) (p : Port) (f : Pipeline → Pipeline) : (h.modPipe p f).cables = h.cables := rfl
@[simp] theorem Hub.modPipe_lens (h : Hub) (p : Port) (f : Pipeline → Pipeline) : (h.modPipe p f).lens = h.lens := rfl
@[simp] theorem Hub.modPipe_encoder (h : Hub) (p : Port) (f : Pipeline → Pipeline) : (h.modPipe p f).encoder = h.encoder := rfl
@[simp] theorem Hub.modPipe_lines (h : Hub) (p : Port) (f : Pipeline → Pipeline) : (h.modPipe p f).lines = h.lines := rfl
@[simp] theorem Hub.modPipe_trig (h : Hub) (p : Port) (f : Pipeline → Pipeline) : (h.modPipe p f).trig = h.trig := rfl
@[simp] theorem Hub.modPipe_frames (h : Hub) (p : Port) (f : Pipeline → Pipeline) : (h.modPipe p f).frames = h.frames := rfl
@[simp] theorem Hub.modPipe_view (h : Hub) (p : Port) (f : Pipeline → Pipeline) : (h.modPipe p f).view = h.view := rfl
@[simp] theorem Hub.modPipe_trunk (h : Hub) (p : Port) (f : Pipeline → Pipeline) : (h.modPipe p f).trunk = h.trunk := rfl
@[simp] theorem Hub.modPipe_mgmt (h : Hub) (p : Port) (f : Pipeline → Pipeline) : (h.modPipe p f).mgmt = h.mgmt := rfl
@[simp] theorem Hub.modPipe_freeCount (h : Hub) (p : Port) (f : Pipeline → Pipeline) : (h.modPipe p f).freeCount = h.freeCount := rfl
@[simp] theorem Hub.modPipe_pipe (h : Hub) (p : Port) (f : Pipeline → Pipeline) : (h.modPipe p f).pipe = vmod h.pipe p f := rfl

@[simp] theorem Hub.modLine_time (h : Hub) (l : LineNo) (f : TriggerLine → TriggerLine) : (h.modLine l f).time = h.time := rfl
@[simp] theorem Hub.modLine_requestedIso (h : Hub) (l : LineNo) (f : TriggerLine → TriggerLine) : (h.modLine l f).requestedIso = h.requestedIso := rfl
@[simp] theorem Hub.modLine_power (h : Hub) (l : LineNo) (f : TriggerLine → TriggerLine) : (h.modLine l f).power = h.power := rfl
@[simp] theorem Hub.modLine_cell (h : Hub) (l : LineNo) (f : TriggerLine → TriggerLine) : (h.modLine l f).cell = h.cell := rfl
@[simp] theorem Hub.modLine_link (h : Hub) (l : LineNo) (f : TriggerLine → TriggerLine) : (h.modLine l f).link = h.link := rfl
@[simp] theorem Hub.modLine_cable (h : Hub) (l : LineNo) (f : TriggerLine → TriggerLine) : (h.modLine l f).cable = h.cable := rfl
@[simp] theorem Hub.modLine_cables (h : Hub) (l : LineNo) (f : TriggerLine → TriggerLine) : (h.modLine l f).cables = h.cables := rfl
@[simp] theorem Hub.modLine_lens (h : Hub) (l : LineNo) (f : TriggerLine → TriggerLine) : (h.modLine l f).lens = h.lens := rfl
@[simp] theorem Hub.modLine_encoder (h : Hub) (l : LineNo) (f : TriggerLine → TriggerLine) : (h.modLine l f).encoder = h.encoder := rfl
@[simp] theorem Hub.modLine_trig (h : Hub) (l : LineNo) (f : TriggerLine → TriggerLine) : (h.modLine l f).trig = h.trig := rfl
@[simp] theorem Hub.modLine_frames (h : Hub) (l : LineNo) (f : TriggerLine → TriggerLine) : (h.modLine l f).frames = h.frames := rfl
@[simp] theorem Hub.modLine_view (h : Hub) (l : LineNo) (f : TriggerLine → TriggerLine) : (h.modLine l f).view = h.view := rfl
@[simp] theorem Hub.modLine_pipe (h : Hub) (l : LineNo) (f : TriggerLine → TriggerLine) : (h.modLine l f).pipe = h.pipe := rfl
@[simp] theorem Hub.modLine_trunk (h : Hub) (l : LineNo) (f : TriggerLine → TriggerLine) : (h.modLine l f).trunk = h.trunk := rfl
@[simp] theorem Hub.modLine_mgmt (h : Hub) (l : LineNo) (f : TriggerLine → TriggerLine) : (h.modLine l f).mgmt = h.mgmt := rfl
@[simp] theorem Hub.modLine_freeCount (h : Hub) (l : LineNo) (f : TriggerLine → TriggerLine) : (h.modLine l f).freeCount = h.freeCount := rfl
@[simp] theorem Hub.modLine_lines (h : Hub) (l : LineNo) (f : TriggerLine → TriggerLine) : (h.modLine l f).lines = vmod h.lines l f := rfl

@[simp] theorem Hub.modTrunk_time (h : Hub) (f : Trunk → Trunk) : (h.modTrunk f).time = h.time := rfl
@[simp] theorem Hub.modTrunk_requestedIso (h : Hub) (f : Trunk → Trunk) : (h.modTrunk f).requestedIso = h.requestedIso := rfl
@[simp] theorem Hub.modTrunk_power (h : Hub) (f : Trunk → Trunk) : (h.modTrunk f).power = h.power := rfl
@[simp] theorem Hub.modTrunk_cell (h : Hub) (f : Trunk → Trunk) : (h.modTrunk f).cell = h.cell := rfl
@[simp] theorem Hub.modTrunk_link (h : Hub) (f : Trunk → Trunk) : (h.modTrunk f).link = h.link := rfl
@[simp] theorem Hub.modTrunk_cable (h : Hub) (f : Trunk → Trunk) : (h.modTrunk f).cable = h.cable := rfl
@[simp] theorem Hub.modTrunk_cables (h : Hub) (f : Trunk → Trunk) : (h.modTrunk f).cables = h.cables := rfl
@[simp] theorem Hub.modTrunk_lens (h : Hub) (f : Trunk → Trunk) : (h.modTrunk f).lens = h.lens := rfl
@[simp] theorem Hub.modTrunk_encoder (h : Hub) (f : Trunk → Trunk) : (h.modTrunk f).encoder = h.encoder := rfl
@[simp] theorem Hub.modTrunk_lines (h : Hub) (f : Trunk → Trunk) : (h.modTrunk f).lines = h.lines := rfl
@[simp] theorem Hub.modTrunk_trig (h : Hub) (f : Trunk → Trunk) : (h.modTrunk f).trig = h.trig := rfl
@[simp] theorem Hub.modTrunk_frames (h : Hub) (f : Trunk → Trunk) : (h.modTrunk f).frames = h.frames := rfl
@[simp] theorem Hub.modTrunk_view (h : Hub) (f : Trunk → Trunk) : (h.modTrunk f).view = h.view := rfl
@[simp] theorem Hub.modTrunk_pipe (h : Hub) (f : Trunk → Trunk) : (h.modTrunk f).pipe = h.pipe := rfl
@[simp] theorem Hub.modTrunk_mgmt (h : Hub) (f : Trunk → Trunk) : (h.modTrunk f).mgmt = h.mgmt := rfl
@[simp] theorem Hub.modTrunk_freeCount (h : Hub) (f : Trunk → Trunk) : (h.modTrunk f).freeCount = h.freeCount := rfl
@[simp] theorem Hub.modTrunk_trunk (h : Hub) (f : Trunk → Trunk) : (h.modTrunk f).trunk = f h.trunk := rfl

@[simp] theorem Hub.modMgmt_time (h : Hub) (f : Mgmt → Mgmt) : (h.modMgmt f).time = h.time := rfl
@[simp] theorem Hub.modMgmt_requestedIso (h : Hub) (f : Mgmt → Mgmt) : (h.modMgmt f).requestedIso = h.requestedIso := rfl
@[simp] theorem Hub.modMgmt_power (h : Hub) (f : Mgmt → Mgmt) : (h.modMgmt f).power = h.power := rfl
@[simp] theorem Hub.modMgmt_cell (h : Hub) (f : Mgmt → Mgmt) : (h.modMgmt f).cell = h.cell := rfl
@[simp] theorem Hub.modMgmt_link (h : Hub) (f : Mgmt → Mgmt) : (h.modMgmt f).link = h.link := rfl
@[simp] theorem Hub.modMgmt_cable (h : Hub) (f : Mgmt → Mgmt) : (h.modMgmt f).cable = h.cable := rfl
@[simp] theorem Hub.modMgmt_cables (h : Hub) (f : Mgmt → Mgmt) : (h.modMgmt f).cables = h.cables := rfl
@[simp] theorem Hub.modMgmt_lens (h : Hub) (f : Mgmt → Mgmt) : (h.modMgmt f).lens = h.lens := rfl
@[simp] theorem Hub.modMgmt_encoder (h : Hub) (f : Mgmt → Mgmt) : (h.modMgmt f).encoder = h.encoder := rfl
@[simp] theorem Hub.modMgmt_lines (h : Hub) (f : Mgmt → Mgmt) : (h.modMgmt f).lines = h.lines := rfl
@[simp] theorem Hub.modMgmt_trig (h : Hub) (f : Mgmt → Mgmt) : (h.modMgmt f).trig = h.trig := rfl
@[simp] theorem Hub.modMgmt_frames (h : Hub) (f : Mgmt → Mgmt) : (h.modMgmt f).frames = h.frames := rfl
@[simp] theorem Hub.modMgmt_view (h : Hub) (f : Mgmt → Mgmt) : (h.modMgmt f).view = h.view := rfl
@[simp] theorem Hub.modMgmt_pipe (h : Hub) (f : Mgmt → Mgmt) : (h.modMgmt f).pipe = h.pipe := rfl
@[simp] theorem Hub.modMgmt_trunk (h : Hub) (f : Mgmt → Mgmt) : (h.modMgmt f).trunk = h.trunk := rfl
@[simp] theorem Hub.modMgmt_freeCount (h : Hub) (f : Mgmt → Mgmt) : (h.modMgmt f).freeCount = h.freeCount := rfl
@[simp] theorem Hub.modMgmt_mgmt (h : Hub) (f : Mgmt → Mgmt) : (h.modMgmt f).mgmt = f h.mgmt := rfl

@[simp] theorem Hub.modCell_time (h : Hub) (f : CellPower → CellPower) : (h.modCell f).time = h.time := rfl
@[simp] theorem Hub.modCell_requestedIso (h : Hub) (f : CellPower → CellPower) : (h.modCell f).requestedIso = h.requestedIso := rfl
@[simp] theorem Hub.modCell_power (h : Hub) (f : CellPower → CellPower) : (h.modCell f).power = h.power := rfl
@[simp] theorem Hub.modCell_link (h : Hub) (f : CellPower → CellPower) : (h.modCell f).link = h.link := rfl
@[simp] theorem Hub.modCell_cable (h : Hub) (f : CellPower → CellPower) : (h.modCell f).cable = h.cable := rfl
@[simp] theorem Hub.modCell_cables (h : Hub) (f : CellPower → CellPower) : (h.modCell f).cables = h.cables := rfl
@[simp] theorem Hub.modCell_lens (h : Hub) (f : CellPower → CellPower) : (h.modCell f).lens = h.lens := rfl
@[simp] theorem Hub.modCell_encoder (h : Hub) (f : CellPower → CellPower) : (h.modCell f).encoder = h.encoder := rfl
@[simp] theorem Hub.modCell_lines (h : Hub) (f : CellPower → CellPower) : (h.modCell f).lines = h.lines := rfl
@[simp] theorem Hub.modCell_trig (h : Hub) (f : CellPower → CellPower) : (h.modCell f).trig = h.trig := rfl
@[simp] theorem Hub.modCell_frames (h : Hub) (f : CellPower → CellPower) : (h.modCell f).frames = h.frames := rfl
@[simp] theorem Hub.modCell_view (h : Hub) (f : CellPower → CellPower) : (h.modCell f).view = h.view := rfl
@[simp] theorem Hub.modCell_pipe (h : Hub) (f : CellPower → CellPower) : (h.modCell f).pipe = h.pipe := rfl
@[simp] theorem Hub.modCell_trunk (h : Hub) (f : CellPower → CellPower) : (h.modCell f).trunk = h.trunk := rfl
@[simp] theorem Hub.modCell_mgmt (h : Hub) (f : CellPower → CellPower) : (h.modCell f).mgmt = h.mgmt := rfl
@[simp] theorem Hub.modCell_freeCount (h : Hub) (f : CellPower → CellPower) : (h.modCell f).freeCount = h.freeCount := rfl
@[simp] theorem Hub.modCell_cell (h : Hub) (f : CellPower → CellPower) : (h.modCell f).cell = f h.cell := rfl

@[simp] theorem Hub.modCables_time (h : Hub) (f : CableUnit → CableUnit) : (h.modCables f).time = h.time := rfl
@[simp] theorem Hub.modCables_requestedIso (h : Hub) (f : CableUnit → CableUnit) : (h.modCables f).requestedIso = h.requestedIso := rfl
@[simp] theorem Hub.modCables_power (h : Hub) (f : CableUnit → CableUnit) : (h.modCables f).power = h.power := rfl
@[simp] theorem Hub.modCables_cell (h : Hub) (f : CableUnit → CableUnit) : (h.modCables f).cell = h.cell := rfl
@[simp] theorem Hub.modCables_link (h : Hub) (f : CableUnit → CableUnit) : (h.modCables f).link = h.link := rfl
@[simp] theorem Hub.modCables_cable (h : Hub) (f : CableUnit → CableUnit) : (h.modCables f).cable = h.cable := rfl
@[simp] theorem Hub.modCables_lens (h : Hub) (f : CableUnit → CableUnit) : (h.modCables f).lens = h.lens := rfl
@[simp] theorem Hub.modCables_encoder (h : Hub) (f : CableUnit → CableUnit) : (h.modCables f).encoder = h.encoder := rfl
@[simp] theorem Hub.modCables_lines (h : Hub) (f : CableUnit → CableUnit) : (h.modCables f).lines = h.lines := rfl
@[simp] theorem Hub.modCables_trig (h : Hub) (f : CableUnit → CableUnit) : (h.modCables f).trig = h.trig := rfl
@[simp] theorem Hub.modCables_frames (h : Hub) (f : CableUnit → CableUnit) : (h.modCables f).frames = h.frames := rfl
@[simp] theorem Hub.modCables_view (h : Hub) (f : CableUnit → CableUnit) : (h.modCables f).view = h.view := rfl
@[simp] theorem Hub.modCables_pipe (h : Hub) (f : CableUnit → CableUnit) : (h.modCables f).pipe = h.pipe := rfl
@[simp] theorem Hub.modCables_trunk (h : Hub) (f : CableUnit → CableUnit) : (h.modCables f).trunk = h.trunk := rfl
@[simp] theorem Hub.modCables_mgmt (h : Hub) (f : CableUnit → CableUnit) : (h.modCables f).mgmt = h.mgmt := rfl
@[simp] theorem Hub.modCables_freeCount (h : Hub) (f : CableUnit → CableUnit) : (h.modCables f).freeCount = h.freeCount := rfl
@[simp] theorem Hub.modCables_cables (h : Hub) (f : CableUnit → CableUnit) : (h.modCables f).cables = f h.cables := rfl

@[simp] theorem Hub.modView_time (h : Hub) (f : ViewTable → ViewTable) : (h.modView f).time = h.time := rfl
@[simp] theorem Hub.modView_requestedIso (h : Hub) (f : ViewTable → ViewTable) : (h.modView f).requestedIso = h.requestedIso := rfl
@[simp] theorem Hub.modView_power (h : Hub) (f : ViewTable → ViewTable) : (h.modView f).power = h.power := rfl
@[simp] theorem Hub.modView_cell (h : Hub) (f : ViewTable → ViewTable) : (h.modView f).cell = h.cell := rfl
@[simp] theorem Hub.modView_link (h : Hub) (f : ViewTable → ViewTable) : (h.modView f).link = h.link := rfl
@[simp] theorem Hub.modView_cable (h : Hub) (f : ViewTable → ViewTable) : (h.modView f).cable = h.cable := rfl
@[simp] theorem Hub.modView_cables (h : Hub) (f : ViewTable → ViewTable) : (h.modView f).cables = h.cables := rfl
@[simp] theorem Hub.modView_lens (h : Hub) (f : ViewTable → ViewTable) : (h.modView f).lens = h.lens := rfl
@[simp] theorem Hub.modView_encoder (h : Hub) (f : ViewTable → ViewTable) : (h.modView f).encoder = h.encoder := rfl
@[simp] theorem Hub.modView_lines (h : Hub) (f : ViewTable → ViewTable) : (h.modView f).lines = h.lines := rfl
@[simp] theorem Hub.modView_trig (h : Hub) (f : ViewTable → ViewTable) : (h.modView f).trig = h.trig := rfl
@[simp] theorem Hub.modView_frames (h : Hub) (f : ViewTable → ViewTable) : (h.modView f).frames = h.frames := rfl
@[simp] theorem Hub.modView_pipe (h : Hub) (f : ViewTable → ViewTable) : (h.modView f).pipe = h.pipe := rfl
@[simp] theorem Hub.modView_trunk (h : Hub) (f : ViewTable → ViewTable) : (h.modView f).trunk = h.trunk := rfl
@[simp] theorem Hub.modView_mgmt (h : Hub) (f : ViewTable → ViewTable) : (h.modView f).mgmt = h.mgmt := rfl
@[simp] theorem Hub.modView_freeCount (h : Hub) (f : ViewTable → ViewTable) : (h.modView f).freeCount = h.freeCount := rfl
@[simp] theorem Hub.modView_view (h : Hub) (f : ViewTable → ViewTable) : (h.modView f).view = f h.view := rfl

/-! ## The same for the reading of one port's items -/

@[simp] theorem Hub.modPower_pw_same (h : Hub) (p : Port) (f : PortPower → PortPower) : (h.modPower p f).pw p = f (h.pw p) := vget_vmod_same _ _ _
theorem Hub.modPower_pw_ne (h : Hub) (p : Port) (f : PortPower → PortPower) {q : Port} (e : q ≠ p) : (h.modPower p f).pw q = h.pw q := vget_vmod_ne _ _ e
theorem Hub.modPower_pw (h : Hub) (p : Port) (f : PortPower → PortPower) (q : Port) : (h.modPower p f).pw q = if q = p then f (h.pw p) else h.pw q := vget_vmod _ _ _ _
@[simp] theorem Hub.modPower_lk (h : Hub) (p : Port) (f : PortPower → PortPower) (q : Port) : (h.modPower p f).lk q = h.lk q := rfl
@[simp] theorem Hub.modPower_cb (h : Hub) (p : Port) (f : PortPower → PortPower) (q : Port) : (h.modPower p f).cb q = h.cb q := rfl
@[simp] theorem Hub.modPower_ln (h : Hub) (p : Port) (f : PortPower → PortPower) (q : Port) : (h.modPower p f).ln q = h.ln q := rfl
@[simp] theorem Hub.modPower_tg (h : Hub) (p : Port) (f : PortPower → PortPower) (q : Port) : (h.modPower p f).tg q = h.tg q := rfl
@[simp] theorem Hub.modPower_fr (h : Hub) (p : Port) (f : PortPower → PortPower) (q : Port) : (h.modPower p f).fr q = h.fr q := rfl
@[simp] theorem Hub.modPower_pl (h : Hub) (p : Port) (f : PortPower → PortPower) (q : Port) : (h.modPower p f).pl q = h.pl q := rfl
@[simp] theorem Hub.modPower_line (h : Hub) (p : Port) (f : PortPower → PortPower) (q : LineNo) : (h.modPower p f).line q = h.line q := rfl

@[simp] theorem Hub.modLink_pw (h : Hub) (p : Port) (f : LinkCtl → LinkCtl) (q : Port) : (h.modLink p f).pw q = h.pw q := rfl
@[simp] theorem Hub.modLink_lk_same (h : Hub) (p : Port) (f : LinkCtl → LinkCtl) : (h.modLink p f).lk p = f (h.lk p) := vget_vmod_same _ _ _
theorem Hub.modLink_lk_ne (h : Hub) (p : Port) (f : LinkCtl → LinkCtl) {q : Port} (e : q ≠ p) : (h.modLink p f).lk q = h.lk q := vget_vmod_ne _ _ e
theorem Hub.modLink_lk (h : Hub) (p : Port) (f : LinkCtl → LinkCtl) (q : Port) : (h.modLink p f).lk q = if q = p then f (h.lk p) else h.lk q := vget_vmod _ _ _ _
@[simp] theorem Hub.modLink_cb (h : Hub) (p : Port) (f : LinkCtl → LinkCtl) (q : Port) : (h.modLink p f).cb q = h.cb q := rfl
@[simp] theorem Hub.modLink_ln (h : Hub) (p : Port) (f : LinkCtl → LinkCtl) (q : Port) : (h.modLink p f).ln q = h.ln q := rfl
@[simp] theorem Hub.modLink_tg (h : Hub) (p : Port) (f : LinkCtl → LinkCtl) (q : Port) : (h.modLink p f).tg q = h.tg q := rfl
@[simp] theorem Hub.modLink_fr (h : Hub) (p : Port) (f : LinkCtl → LinkCtl) (q : Port) : (h.modLink p f).fr q = h.fr q := rfl
@[simp] theorem Hub.modLink_pl (h : Hub) (p : Port) (f : LinkCtl → LinkCtl) (q : Port) : (h.modLink p f).pl q = h.pl q := rfl
@[simp] theorem Hub.modLink_line (h : Hub) (p : Port) (f : LinkCtl → LinkCtl) (q : LineNo) : (h.modLink p f).line q = h.line q := rfl

@[simp] theorem Hub.modCable_pw (h : Hub) (p : Port) (f : PortCable → PortCable) (q : Port) : (h.modCable p f).pw q = h.pw q := rfl
@[simp] theorem Hub.modCable_lk (h : Hub) (p : Port) (f : PortCable → PortCable) (q : Port) : (h.modCable p f).lk q = h.lk q := rfl
@[simp] theorem Hub.modCable_cb_same (h : Hub) (p : Port) (f : PortCable → PortCable) : (h.modCable p f).cb p = f (h.cb p) := vget_vmod_same _ _ _
theorem Hub.modCable_cb_ne (h : Hub) (p : Port) (f : PortCable → PortCable) {q : Port} (e : q ≠ p) : (h.modCable p f).cb q = h.cb q := vget_vmod_ne _ _ e
theorem Hub.modCable_cb (h : Hub) (p : Port) (f : PortCable → PortCable) (q : Port) : (h.modCable p f).cb q = if q = p then f (h.cb p) else h.cb q := vget_vmod _ _ _ _
@[simp] theorem Hub.modCable_ln (h : Hub) (p : Port) (f : PortCable → PortCable) (q : Port) : (h.modCable p f).ln q = h.ln q := rfl
@[simp] theorem Hub.modCable_tg (h : Hub) (p : Port) (f : PortCable → PortCable) (q : Port) : (h.modCable p f).tg q = h.tg q := rfl
@[simp] theorem Hub.modCable_fr (h : Hub) (p : Port) (f : PortCable → PortCable) (q : Port) : (h.modCable p f).fr q = h.fr q := rfl
@[simp] theorem Hub.modCable_pl (h : Hub) (p : Port) (f : PortCable → PortCable) (q : Port) : (h.modCable p f).pl q = h.pl q := rfl
@[simp] theorem Hub.modCable_line (h : Hub) (p : Port) (f : PortCable → PortCable) (q : LineNo) : (h.modCable p f).line q = h.line q := rfl

@[simp] theorem Hub.modLens_pw (h : Hub) (p : Port) (f : PortLens → PortLens) (q : Port) : (h.modLens p f).pw q = h.pw q := rfl
@[simp] theorem Hub.modLens_lk (h : Hub) (p : Port) (f : PortLens → PortLens) (q : Port) : (h.modLens p f).lk q = h.lk q := rfl
@[simp] theorem Hub.modLens_cb (h : Hub) (p : Port) (f : PortLens → PortLens) (q : Port) : (h.modLens p f).cb q = h.cb q := rfl
@[simp] theorem Hub.modLens_ln_same (h : Hub) (p : Port) (f : PortLens → PortLens) : (h.modLens p f).ln p = f (h.ln p) := vget_vmod_same _ _ _
theorem Hub.modLens_ln_ne (h : Hub) (p : Port) (f : PortLens → PortLens) {q : Port} (e : q ≠ p) : (h.modLens p f).ln q = h.ln q := vget_vmod_ne _ _ e
theorem Hub.modLens_ln (h : Hub) (p : Port) (f : PortLens → PortLens) (q : Port) : (h.modLens p f).ln q = if q = p then f (h.ln p) else h.ln q := vget_vmod _ _ _ _
@[simp] theorem Hub.modLens_tg (h : Hub) (p : Port) (f : PortLens → PortLens) (q : Port) : (h.modLens p f).tg q = h.tg q := rfl
@[simp] theorem Hub.modLens_fr (h : Hub) (p : Port) (f : PortLens → PortLens) (q : Port) : (h.modLens p f).fr q = h.fr q := rfl
@[simp] theorem Hub.modLens_pl (h : Hub) (p : Port) (f : PortLens → PortLens) (q : Port) : (h.modLens p f).pl q = h.pl q := rfl
@[simp] theorem Hub.modLens_line (h : Hub) (p : Port) (f : PortLens → PortLens) (q : LineNo) : (h.modLens p f).line q = h.line q := rfl

@[simp] theorem Hub.modTrig_pw (h : Hub) (p : Port) (f : PortTrigger → PortTrigger) (q : Port) : (h.modTrig p f).pw q = h.pw q := rfl
@[simp] theorem Hub.modTrig_lk (h : Hub) (p : Port) (f : PortTrigger → PortTrigger) (q : Port) : (h.modTrig p f).lk q = h.lk q := rfl
@[simp] theorem Hub.modTrig_cb (h : Hub) (p : Port) (f : PortTrigger → PortTrigger) (q : Port) : (h.modTrig p f).cb q = h.cb q := rfl
@[simp] theorem Hub.modTrig_ln (h : Hub) (p : Port) (f : PortTrigger → PortTrigger) (q : Port) : (h.modTrig p f).ln q = h.ln q := rfl
@[simp] theorem Hub.modTrig_tg_same (h : Hub) (p : Port) (f : PortTrigger → PortTrigger) : (h.modTrig p f).tg p = f (h.tg p) := vget_vmod_same _ _ _
theorem Hub.modTrig_tg_ne (h : Hub) (p : Port) (f : PortTrigger → PortTrigger) {q : Port} (e : q ≠ p) : (h.modTrig p f).tg q = h.tg q := vget_vmod_ne _ _ e
theorem Hub.modTrig_tg (h : Hub) (p : Port) (f : PortTrigger → PortTrigger) (q : Port) : (h.modTrig p f).tg q = if q = p then f (h.tg p) else h.tg q := vget_vmod _ _ _ _
@[simp] theorem Hub.modTrig_fr (h : Hub) (p : Port) (f : PortTrigger → PortTrigger) (q : Port) : (h.modTrig p f).fr q = h.fr q := rfl
@[simp] theorem Hub.modTrig_pl (h : Hub) (p : Port) (f : PortTrigger → PortTrigger) (q : Port) : (h.modTrig p f).pl q = h.pl q := rfl
@[simp] theorem Hub.modTrig_line (h : Hub) (p : Port) (f : PortTrigger → PortTrigger) (q : LineNo) : (h.modTrig p f).line q = h.line q := rfl

@[simp] theorem Hub.modFrames_pw (h : Hub) (p : Port) (f : PortFrames → PortFrames) (q : Port) : (h.modFrames p f).pw q = h.pw q := rfl
@[simp] theorem Hub.modFrames_lk (h : Hub) (p : Port) (f : PortFrames → PortFrames) (q : Port) : (h.modFrames p f).lk q = h.lk q := rfl
@[simp] theorem Hub.modFrames_cb (h : Hub) (p : Port) (f : PortFrames → PortFrames) (q : Port) : (h.modFrames p f).cb q = h.cb q := rfl
@[simp] theorem Hub.modFrames_ln (h : Hub) (p : Port) (f : PortFrames → PortFrames) (q : Port) : (h.modFrames p f).ln q = h.ln q := rfl
@[simp] theorem Hub.modFrames_tg (h : Hub) (p : Port) (f : PortFrames → PortFrames) (q : Port) : (h.modFrames p f).tg q = h.tg q := rfl
@[simp] theorem Hub.modFrames_fr_same (h : Hub) (p : Port) (f : PortFrames → PortFrames) : (h.modFrames p f).fr p = f (h.fr p) := vget_vmod_same _ _ _
theorem Hub.modFrames_fr_ne (h : Hub) (p : Port) (f : PortFrames → PortFrames) {q : Port} (e : q ≠ p) : (h.modFrames p f).fr q = h.fr q := vget_vmod_ne _ _ e
theorem Hub.modFrames_fr (h : Hub) (p : Port) (f : PortFrames → PortFrames) (q : Port) : (h.modFrames p f).fr q = if q = p then f (h.fr p) else h.fr q := vget_vmod _ _ _ _
@[simp] theorem Hub.modFrames_pl (h : Hub) (p : Port) (f : PortFrames → PortFrames) (q : Port) : (h.modFrames p f).pl q = h.pl q := rfl
@[simp] theorem Hub.modFrames_line (h : Hub) (p : Port) (f : PortFrames → PortFrames) (q : LineNo) : (h.modFrames p f).line q = h.line q := rfl

@[simp] theorem Hub.modPipe_pw (h : Hub) (p : Port) (f : Pipeline → Pipeline) (q : Port) : (h.modPipe p f).pw q = h.pw q := rfl
@[simp] theorem Hub.modPipe_lk (h : Hub) (p : Port) (f : Pipeline → Pipeline) (q : Port) : (h.modPipe p f).lk q = h.lk q := rfl
@[simp] theorem Hub.modPipe_cb (h : Hub) (p : Port) (f : Pipeline → Pipeline) (q : Port) : (h.modPipe p f).cb q = h.cb q := rfl
@[simp] theorem Hub.modPipe_ln (h : Hub) (p : Port) (f : Pipeline → Pipeline) (q : Port) : (h.modPipe p f).ln q = h.ln q := rfl
@[simp] theorem Hub.modPipe_tg (h : Hub) (p : Port) (f : Pipeline → Pipeline) (q : Port) : (h.modPipe p f).tg q = h.tg q := rfl
@[simp] theorem Hub.modPipe_fr (h : Hub) (p : Port) (f : Pipeline → Pipeline) (q : Port) : (h.modPipe p f).fr q = h.fr q := rfl
@[simp] theorem Hub.modPipe_pl_same (h : Hub) (p : Port) (f : Pipeline → Pipeline) : (h.modPipe p f).pl p = f (h.pl p) := vget_vmod_same _ _ _
theorem Hub.modPipe_pl_ne (h : Hub) (p : Port) (f : Pipeline → Pipeline) {q : Port} (e : q ≠ p) : (h.modPipe p f).pl q = h.pl q := vget_vmod_ne _ _ e
theorem Hub.modPipe_pl (h : Hub) (p : Port) (f : Pipeline → Pipeline) (q : Port) : (h.modPipe p f).pl q = if q = p then f (h.pl p) else h.pl q := vget_vmod _ _ _ _
@[simp] theorem Hub.modPipe_line (h : Hub) (p : Port) (f : Pipeline → Pipeline) (q : LineNo) : (h.modPipe p f).line q = h.line q := rfl

@[simp] theorem Hub.modLine_pw (h : Hub) (l : LineNo) (f : TriggerLine → TriggerLine) (q : Port) : (h.modLine l f).pw q = h.pw q := rfl
@[simp] theorem Hub.modLine_lk (h : Hub) (l : LineNo) (f : TriggerLine → TriggerLine) (q : Port) : (h.modLine l f).lk q = h.lk q := rfl
@[simp] theorem Hub.modLine_cb (h : Hub) (l : LineNo) (f : TriggerLine → TriggerLine) (q : Port) : (h.modLine l f).cb q = h.cb q := rfl
@[simp] theorem Hub.modLine_ln (h : Hub) (l : LineNo) (f : TriggerLine → TriggerLine) (q : Port) : (h.modLine l f).ln q = h.ln q := rfl
@[simp] theorem Hub.modLine_tg (h : Hub) (l : LineNo) (f : TriggerLine → TriggerLine) (q : Port) : (h.modLine l f).tg q = h.tg q := rfl
@[simp] theorem Hub.modLine_fr (h : Hub) (l : LineNo) (f : TriggerLine → TriggerLine) (q : Port) : (h.modLine l f).fr q = h.fr q := rfl
@[simp] theorem Hub.modLine_pl (h : Hub) (l : LineNo) (f : TriggerLine → TriggerLine) (q : Port) : (h.modLine l f).pl q = h.pl q := rfl
@[simp] theorem Hub.modLine_line_same (h : Hub) (l : LineNo) (f : TriggerLine → TriggerLine) : (h.modLine l f).line l = f (h.line l) := vget_vmod_same _ _ _
theorem Hub.modLine_line_ne (h : Hub) (l : LineNo) (f : TriggerLine → TriggerLine) {q : LineNo} (e : q ≠ l) : (h.modLine l f).line q = h.line q := vget_vmod_ne _ _ e
theorem Hub.modLine_line (h : Hub) (l : LineNo) (f : TriggerLine → TriggerLine) (q : LineNo) : (h.modLine l f).line q = if q = l then f (h.line l) else h.line q := vget_vmod _ _ _ _

@[simp] theorem Hub.modTrunk_pw (h : Hub) (f : Trunk → Trunk) (q : Port) : (h.modTrunk f).pw q = h.pw q := rfl
@[simp] theorem Hub.modTrunk_lk (h : Hub) (f : Trunk → Trunk) (q : Port) : (h.modTrunk f).lk q = h.lk q := rfl
@[simp] theorem Hub.modTrunk_cb (h : Hub) (f : Trunk → Trunk) (q : Port) : (h.modTrunk f).cb q = h.cb q := rfl
@[simp] theorem Hub.modTrunk_ln (h : Hub) (f : Trunk → Trunk) (q : Port) : (h.modTrunk f).ln q = h.ln q := rfl
@[simp] theorem Hub.modTrunk_tg (h : Hub) (f : Trunk → Trunk) (q : Port) : (h.modTrunk f).tg q = h.tg q := rfl
@[simp] theorem Hub.modTrunk_fr (h : Hub) (f : Trunk → Trunk) (q : Port) : (h.modTrunk f).fr q = h.fr q := rfl
@[simp] theorem Hub.modTrunk_pl (h : Hub) (f : Trunk → Trunk) (q : Port) : (h.modTrunk f).pl q = h.pl q := rfl
@[simp] theorem Hub.modTrunk_line (h : Hub) (f : Trunk → Trunk) (q : LineNo) : (h.modTrunk f).line q = h.line q := rfl

@[simp] theorem Hub.modMgmt_pw (h : Hub) (f : Mgmt → Mgmt) (q : Port) : (h.modMgmt f).pw q = h.pw q := rfl
@[simp] theorem Hub.modMgmt_lk (h : Hub) (f : Mgmt → Mgmt) (q : Port) : (h.modMgmt f).lk q = h.lk q := rfl
@[simp] theorem Hub.modMgmt_cb (h : Hub) (f : Mgmt → Mgmt) (q : Port) : (h.modMgmt f).cb q = h.cb q := rfl
@[simp] theorem Hub.modMgmt_ln (h : Hub) (f : Mgmt → Mgmt) (q : Port) : (h.modMgmt f).ln q = h.ln q := rfl
@[simp] theorem Hub.modMgmt_tg (h : Hub) (f : Mgmt → Mgmt) (q : Port) : (h.modMgmt f).tg q = h.tg q := rfl
@[simp] theorem Hub.modMgmt_fr (h : Hub) (f : Mgmt → Mgmt) (q : Port) : (h.modMgmt f).fr q = h.fr q := rfl
@[simp] theorem Hub.modMgmt_pl (h : Hub) (f : Mgmt → Mgmt) (q : Port) : (h.modMgmt f).pl q = h.pl q := rfl
@[simp] theorem Hub.modMgmt_line (h : Hub) (f : Mgmt → Mgmt) (q : LineNo) : (h.modMgmt f).line q = h.line q := rfl

@[simp] theorem Hub.modCell_pw (h : Hub) (f : CellPower → CellPower) (q : Port) : (h.modCell f).pw q = h.pw q := rfl
@[simp] theorem Hub.modCell_lk (h : Hub) (f : CellPower → CellPower) (q : Port) : (h.modCell f).lk q = h.lk q := rfl
@[simp] theorem Hub.modCell_cb (h : Hub) (f : CellPower → CellPower) (q : Port) : (h.modCell f).cb q = h.cb q := rfl
@[simp] theorem Hub.modCell_ln (h : Hub) (f : CellPower → CellPower) (q : Port) : (h.modCell f).ln q = h.ln q := rfl
@[simp] theorem Hub.modCell_tg (h : Hub) (f : CellPower → CellPower) (q : Port) : (h.modCell f).tg q = h.tg q := rfl
@[simp] theorem Hub.modCell_fr (h : Hub) (f : CellPower → CellPower) (q : Port) : (h.modCell f).fr q = h.fr q := rfl
@[simp] theorem Hub.modCell_pl (h : Hub) (f : CellPower → CellPower) (q : Port) : (h.modCell f).pl q = h.pl q := rfl
@[simp] theorem Hub.modCell_line (h : Hub) (f : CellPower → CellPower) (q : LineNo) : (h.modCell f).line q = h.line q := rfl

@[simp] theorem Hub.modCables_pw (h : Hub) (f : CableUnit → CableUnit) (q : Port) : (h.modCables f).pw q = h.pw q := rfl
@[simp] theorem Hub.modCables_lk (h : Hub) (f : CableUnit → CableUnit) (q : Port) : (h.modCables f).lk q = h.lk q := rfl
@[simp] theorem Hub.modCables_cb (h : Hub) (f : CableUnit → CableUnit) (q : Port) : (h.modCables f).cb q = h.cb q := rfl
@[simp] theorem Hub.modCables_ln (h : Hub) (f : CableUnit → CableUnit) (q : Port) : (h.modCables f).ln q = h.ln q := rfl
@[simp] theorem Hub.modCables_tg (h : Hub) (f : CableUnit → CableUnit) (q : Port) : (h.modCables f).tg q = h.tg q := rfl
@[simp] theorem Hub.modCables_fr (h : Hub) (f : CableUnit → CableUnit) (q : Port) : (h.modCables f).fr q = h.fr q := rfl
@[simp] theorem Hub.modCables_pl (h : Hub) (f : CableUnit → CableUnit) (q : Port) : (h.modCables f).pl q = h.pl q := rfl
@[simp] theorem Hub.modCables_line (h : Hub) (f : CableUnit → CableUnit) (q : LineNo) : (h.modCables f).line q = h.line q := rfl

@[simp] theorem Hub.modView_pw (h : Hub) (f : ViewTable → ViewTable) (q : Port) : (h.modView f).pw q = h.pw q := rfl
@[simp] theorem Hub.modView_lk (h : Hub) (f : ViewTable → ViewTable) (q : Port) : (h.modView f).lk q = h.lk q := rfl
@[simp] theorem Hub.modView_cb (h : Hub) (f : ViewTable → ViewTable) (q : Port) : (h.modView f).cb q = h.cb q := rfl
@[simp] theorem Hub.modView_ln (h : Hub) (f : ViewTable → ViewTable) (q : Port) : (h.modView f).ln q = h.ln q := rfl
@[simp] theorem Hub.modView_tg (h : Hub) (f : ViewTable → ViewTable) (q : Port) : (h.modView f).tg q = h.tg q := rfl
@[simp] theorem Hub.modView_fr (h : Hub) (f : ViewTable → ViewTable) (q : Port) : (h.modView f).fr q = h.fr q := rfl
@[simp] theorem Hub.modView_pl (h : Hub) (f : ViewTable → ViewTable) (q : Port) : (h.modView f).pl q = h.pl q := rfl
@[simp] theorem Hub.modView_line (h : Hub) (f : ViewTable → ViewTable) (q : LineNo) : (h.modView f).line q = h.line q := rfl

/-! ## Lens axes -/

@[simp] theorem PortLens.axis_modAxis_same (l : PortLens) (x : AxisId) (f : Axis → Axis) :
    (l.modAxis x f).axis x = f (l.axis x) := by cases x <;> rfl

theorem PortLens.axis_modAxis_ne (l : PortLens) {x y : AxisId} (f : Axis → Axis) (h : y ≠ x) :
    (l.modAxis x f).axis y = l.axis y := by cases x <;> cases y <;> first | rfl | exact absurd rfl h

@[simp] theorem Hub.ax_modAxis_same (h : Hub) (p : Port) (x : AxisId) (f : Axis → Axis) :
    (h.modAxis p x f).ax p x = f (h.ax p x) := by simp [Hub.modAxis, Hub.ax]

theorem Hub.ax_modAxis_port_ne (h : Hub) {p q : Port} (x y : AxisId) (f : Axis → Axis) (e : q ≠ p) :
    (h.modAxis p x f).ax q y = h.ax q y := by simp [Hub.modAxis, Hub.ax, Hub.modLens_ln_ne, e]

theorem Hub.ax_modAxis_axis_ne (h : Hub) (p : Port) {x y : AxisId} (f : Axis → Axis) (e : y ≠ x) :
    (h.modAxis p x f).ax p y = h.ax p y := by simp [Hub.modAxis, Hub.ax, PortLens.axis_modAxis_ne, e]

/-! ## Events and outcomes -/

@[simp] theorem State.event_pending (s : State) (f : Hub → Hub) : (s.event f).pending = s.pending := rfl
@[simp] theorem State.event_dram (s : State) (f : Hub → Hub) : (s.event f).dram = s.dram := rfl
@[simp] theorem State.event_hub (s : State) (f : Hub → Hub) : (s.event f).hub = (f s.hub).settle s.dram := rfl
@[simp] theorem State.settled_pending (s : State) : s.settled.pending = s.pending := rfl
@[simp] theorem State.settled_dram (s : State) : s.settled.dram = s.dram := rfl
@[simp] theorem State.settled_hub (s : State) : s.settled.hub = s.hub.settle s.dram := rfl
@[simp] theorem State.tick_pending (s : State) : s.tick.pending = s.pending := rfl
@[simp] theorem State.tick_dram (s : State) : s.tick.dram = s.dram := rfl
@[simp] theorem State.tick_hub (s : State) : s.tick.hub = s.hub.tick := rfl
@[simp] theorem Hub.tick_time (h : Hub) : h.tick.time = h.time + 1 := rfl
@[simp] theorem Hub.tick_requestedIso (h : Hub) : h.tick.requestedIso = h.requestedIso := rfl
@[simp] theorem Hub.tick_power (h : Hub) : h.tick.power = h.power := rfl
@[simp] theorem Hub.tick_cell (h : Hub) : h.tick.cell = h.cell := rfl
@[simp] theorem Hub.tick_link (h : Hub) : h.tick.link = h.link := rfl
@[simp] theorem Hub.tick_cable (h : Hub) : h.tick.cable = h.cable := rfl
@[simp] theorem Hub.tick_cables (h : Hub) : h.tick.cables = h.cables := rfl
@[simp] theorem Hub.tick_lens (h : Hub) : h.tick.lens = h.lens := rfl
@[simp] theorem Hub.tick_encoder (h : Hub) : h.tick.encoder = h.encoder := rfl
@[simp] theorem Hub.tick_lines (h : Hub) : h.tick.lines = h.lines := rfl
@[simp] theorem Hub.tick_trig (h : Hub) : h.tick.trig = h.trig := rfl
@[simp] theorem Hub.tick_frames (h : Hub) : h.tick.frames = h.frames := rfl
@[simp] theorem Hub.tick_view (h : Hub) : h.tick.view = h.view := rfl
@[simp] theorem Hub.tick_trunk (h : Hub) : h.tick.trunk = h.trunk := rfl
@[simp] theorem Hub.tick_mgmt (h : Hub) : h.tick.mgmt = h.mgmt := rfl
@[simp] theorem Hub.tick_freeCount (h : Hub) : h.tick.freeCount = h.freeCount := rfl
@[simp] theorem Hub.tick_pw (h : Hub) (p : Port) : h.tick.pw p = h.pw p := rfl
@[simp] theorem Hub.tick_lk (h : Hub) (p : Port) : h.tick.lk p = h.lk p := rfl
@[simp] theorem Hub.tick_cb (h : Hub) (p : Port) : h.tick.cb p = h.cb p := rfl
@[simp] theorem Hub.tick_ln (h : Hub) (p : Port) : h.tick.ln p = h.ln p := rfl
@[simp] theorem Hub.tick_tg (h : Hub) (p : Port) : h.tick.tg p = h.tg p := rfl
@[simp] theorem Hub.tick_fr (h : Hub) (p : Port) : h.tick.fr p = h.fr p := rfl
@[simp] theorem Hub.tick_pl (h : Hub) (p : Port) : h.tick.pl p = { h.pl p with closed := [] } := by simp [Hub.tick, Hub.pl, vget]
@[simp] theorem Hub.tick_line (h : Hub) (l : LineNo) : h.tick.line l = h.line l := rfl

/-- An event whose condition holds. -/
theorem State.when_true (s : State) {c : Bool} (f : Hub → Hub) (h : c = true) : s.when c f = .next (s.event f) := by
  simp [State.when, h]

/-- An event whose condition does not hold changes nothing (log entry 3). -/
theorem State.when_false (s : State) {c : Bool} (f : Hub → Hub) (h : c = false) : s.when c f = .next s := by
  simp [State.when, h]

/-- What an event that may not happen answers. -/
theorem State.when_cases (s t : State) (c : Bool) (f : Hub → Hub) (h : s.when c f = .next t) :
    (c = true ∧ t = s.event f) ∨ (c = false ∧ t = s) := by
  cases c <;> simp_all [State.when]

end Sys2Proof.Machine
end

