-- ==== Sys2Proof/Laws/Operations.lean ====
section
/-! SUPPORT. What the shared operations leave alone: one lemma for each operation, an equation for each unit it does
not reach. -/

namespace Sys2Proof.Machine

/-- An offer to the reply queue changes that queue and the discarded count alone (R158). -/
@[simp] theorem Hub.offerReply_frame (h : Hub) (pkt : Packet) :
    ((h.offerReply pkt).1).time = h.time ∧
    ((h.offerReply pkt).1).requestedIso = h.requestedIso ∧
    ((h.offerReply pkt).1).power = h.power ∧
    ((h.offerReply pkt).1).cell = h.cell ∧
    ((h.offerReply pkt).1).link = h.link ∧
    ((h.offerReply pkt).1).cable = h.cable ∧
    ((h.offerReply pkt).1).cables = h.cables ∧
    ((h.offerReply pkt).1).lens = h.lens ∧
    ((h.offerReply pkt).1).encoder = h.encoder ∧
    ((h.offerReply pkt).1).lines = h.lines ∧
    ((h.offerReply pkt).1).trig = h.trig ∧
    ((h.offerReply pkt).1).frames = h.frames ∧
    ((h.offerReply pkt).1).view = h.view ∧
    ((h.offerReply pkt).1).pipe = h.pipe ∧
    ((h.offerReply pkt).1).mgmt = h.mgmt ∧
    ((h.offerReply pkt).1).freeCount = h.freeCount ∧
    ((h.offerReply pkt).1).trunk.up = h.trunk.up ∧
    ((h.offerReply pkt).1).trunk.lane = h.trunk.lane ∧
    ((h.offerReply pkt).1).trunk.grant = h.trunk.grant ∧
    ((h.offerReply pkt).1).trunk.lowShare = h.trunk.lowShare ∧
    ((h.offerReply pkt).1).trunk.replyGroup = h.trunk.replyGroup ∧
    ((h.offerReply pkt).1).trunk.replyBurst = h.trunk.replyBurst ∧
    ((h.offerReply pkt).1).trunk.bursts = h.trunk.bursts ∧
    ((h.offerReply pkt).1).trunk.sent = h.trunk.sent ∧
    ((h.offerReply pkt).1).trunk.losses = h.trunk.losses ∧
    ((h.offerReply pkt).1).trunk.images = h.trunk.images := by
  refine ⟨?_, ?_, ?_, ?_, ?_, ?_, ?_, ?_, ?_, ?_, ?_, ?_, ?_, ?_, ?_, ?_, ?_, ?_, ?_, ?_, ?_, ?_, ?_, ?_, ?_, ?_⟩ <;> (simp only [Hub.offerReply]; (repeat' split) <;> simp)

/-- A slot is the Management Unit's alone. -/
@[simp] theorem Hub.setSlot_frame (h : Hub) (i : SlotNo) (x : Slot) :
    (h.setSlot i x).time = h.time ∧
    (h.setSlot i x).requestedIso = h.requestedIso ∧
    (h.setSlot i x).power = h.power ∧
    (h.setSlot i x).cell = h.cell ∧
    (h.setSlot i x).link = h.link ∧
    (h.setSlot i x).cable = h.cable ∧
    (h.setSlot i x).cables = h.cables ∧
    (h.setSlot i x).lens = h.lens ∧
    (h.setSlot i x).encoder = h.encoder ∧
    (h.setSlot i x).lines = h.lines ∧
    (h.setSlot i x).trig = h.trig ∧
    (h.setSlot i x).frames = h.frames ∧
    (h.setSlot i x).view = h.view ∧
    (h.setSlot i x).pipe = h.pipe ∧
    (h.setSlot i x).trunk = h.trunk ∧
    (h.setSlot i x).freeCount = h.freeCount ∧
    (h.setSlot i x).mgmt.requests = h.mgmt.requests ∧
    (h.setSlot i x).mgmt.taking = h.mgmt.taking ∧
    (h.setSlot i x).mgmt.replyOwed = h.mgmt.replyOwed ∧
    (h.setSlot i x).mgmt.enables = h.mgmt.enables ∧
    (h.setSlot i x).mgmt.overflow = h.mgmt.overflow ∧
    (h.setSlot i x).mgmt.portFlags = h.mgmt.portFlags ∧
    (h.setSlot i x).mgmt.partFlags = h.mgmt.partFlags ∧
    (h.setSlot i x).mgmt.lateReplies = h.mgmt.lateReplies ∧
    (h.setSlot i x).mgmt.unsent = h.mgmt.unsent := by
  refine ⟨?_, ?_, ?_, ?_, ?_, ?_, ?_, ?_, ?_, ?_, ?_, ?_, ?_, ?_, ?_, ?_, ?_, ?_, ?_, ?_, ?_, ?_, ?_, ?_, ?_⟩ <;> (simp only [Hub.setSlot]; (repeat' split) <;> simp)

/-- What each step of a fold leaves alone, the fold leaves alone. -/
theorem foldl_keep {α β γ : Type} (g : β → γ) (f : β → α → β) (hf : ∀ b a, g (f b a) = g b) :
    ∀ (l : List α) (b : β), g (l.foldl f b) = g b
  | [], _ => rfl
  | a :: l, b => by rw [List.foldl_cons, foldl_keep g f hf l, hf]

/-- An answered slot's offer reaches the slots and the reply queue alone (R171). -/
@[simp] theorem Hub.offerAnswered_frame (h : Hub) :
    (h.offerAnswered).time = h.time ∧
    (h.offerAnswered).requestedIso = h.requestedIso ∧
    (h.offerAnswered).power = h.power ∧
    (h.offerAnswered).cell = h.cell ∧
    (h.offerAnswered).link = h.link ∧
    (h.offerAnswered).cable = h.cable ∧
    (h.offerAnswered).cables = h.cables ∧
    (h.offerAnswered).lens = h.lens ∧
    (h.offerAnswered).encoder = h.encoder ∧
    (h.offerAnswered).lines = h.lines ∧
    (h.offerAnswered).trig = h.trig ∧
    (h.offerAnswered).frames = h.frames ∧
    (h.offerAnswered).view = h.view ∧
    (h.offerAnswered).pipe = h.pipe ∧
    (h.offerAnswered).freeCount = h.freeCount ∧
    (h.offerAnswered).mgmt.requests = h.mgmt.requests ∧
    (h.offerAnswered).mgmt.taking = h.mgmt.taking ∧
    (h.offerAnswered).mgmt.replyOwed = h.mgmt.replyOwed ∧
    (h.offerAnswered).mgmt.enables = h.mgmt.enables ∧
    (h.offerAnswered).mgmt.overflow = h.mgmt.overflow ∧
    (h.offerAnswered).trunk.up = h.trunk.up ∧
    (h.offerAnswered).trunk.lane = h.trunk.lane ∧
    (h.offerAnswered).trunk.grant = h.trunk.grant ∧
    (h.offerAnswered).trunk.lowShare = h.trunk.lowShare ∧
    (h.offerAnswered).trunk.replyGroup = h.trunk.replyGroup ∧
    (h.offerAnswered).trunk.replyBurst = h.trunk.replyBurst ∧
    (h.offerAnswered).trunk.bursts = h.trunk.bursts ∧
    (h.offerAnswered).trunk.sent = h.trunk.sent ∧
    (h.offerAnswered).trunk.losses = h.trunk.losses ∧
    (h.offerAnswered).trunk.images = h.trunk.images ∧
    (h.offerAnswered).mgmt.portFlags = h.mgmt.portFlags ∧
    (h.offerAnswered).mgmt.partFlags = h.mgmt.partFlags ∧
    (h.offerAnswered).mgmt.lateReplies = h.mgmt.lateReplies ∧
    (h.offerAnswered).mgmt.unsent = h.mgmt.unsent := by
  refine ⟨?_, ?_, ?_, ?_, ?_, ?_, ?_, ?_, ?_, ?_, ?_, ?_, ?_, ?_, ?_, ?_, ?_, ?_, ?_, ?_, ?_, ?_, ?_, ?_, ?_, ?_, ?_, ?_, ?_, ?_, ?_, ?_, ?_, ?_⟩ <;> (simp only [Hub.offerAnswered]; (repeat' split) <;> simp)

/-- As for Hub.offerAnswered. -/
@[simp] theorem Hub.offerDue_frame (h : Hub) :
    (h.offerDue).time = h.time ∧
    (h.offerDue).requestedIso = h.requestedIso ∧
    (h.offerDue).power = h.power ∧
    (h.offerDue).cell = h.cell ∧
    (h.offerDue).link = h.link ∧
    (h.offerDue).cable = h.cable ∧
    (h.offerDue).cables = h.cables ∧
    (h.offerDue).lens = h.lens ∧
    (h.offerDue).encoder = h.encoder ∧
    (h.offerDue).lines = h.lines ∧
    (h.offerDue).trig = h.trig ∧
    (h.offerDue).frames = h.frames ∧
    (h.offerDue).view = h.view ∧
    (h.offerDue).pipe = h.pipe ∧
    (h.offerDue).freeCount = h.freeCount ∧
    (h.offerDue).mgmt.requests = h.mgmt.requests ∧
    (h.offerDue).mgmt.taking = h.mgmt.taking ∧
    (h.offerDue).mgmt.replyOwed = h.mgmt.replyOwed ∧
    (h.offerDue).mgmt.enables = h.mgmt.enables ∧
    (h.offerDue).mgmt.overflow = h.mgmt.overflow ∧
    (h.offerDue).trunk.up = h.trunk.up ∧
    (h.offerDue).trunk.lane = h.trunk.lane ∧
    (h.offerDue).trunk.grant = h.trunk.grant ∧
    (h.offerDue).trunk.lowShare = h.trunk.lowShare ∧
    (h.offerDue).trunk.replyGroup = h.trunk.replyGroup ∧
    (h.offerDue).trunk.replyBurst = h.trunk.replyBurst ∧
    (h.offerDue).trunk.bursts = h.trunk.bursts ∧
    (h.offerDue).trunk.sent = h.trunk.sent ∧
    (h.offerDue).trunk.losses = h.trunk.losses ∧
    (h.offerDue).trunk.images = h.trunk.images ∧
    (h.offerDue).mgmt.portFlags = h.mgmt.portFlags ∧
    (h.offerDue).mgmt.partFlags = h.mgmt.partFlags ∧
    (h.offerDue).mgmt.lateReplies = h.mgmt.lateReplies ∧
    (h.offerDue).mgmt.unsent = h.mgmt.unsent :=
  ⟨foldl_keep (fun h : Hub => h.time) _ (fun _ _ => by simp) _ _,
    foldl_keep (fun h : Hub => h.requestedIso) _ (fun _ _ => by simp) _ _,
    foldl_keep (fun h : Hub => h.power) _ (fun _ _ => by simp) _ _,
    foldl_keep (fun h : Hub => h.cell) _ (fun _ _ => by simp) _ _,
    foldl_keep (fun h : Hub => h.link) _ (fun _ _ => by simp) _ _,
    foldl_keep (fun h : Hub => h.cable) _ (fun _ _ => by simp) _ _,
    foldl_keep (fun h : Hub => h.cables) _ (fun _ _ => by simp) _ _,
    foldl_keep (fun h : Hub => h.lens) _ (fun _ _ => by simp) _ _,
    foldl_keep (fun h : Hub => h.encoder) _ (fun _ _ => by simp) _ _,
    foldl_keep (fun h : Hub => h.lines) _ (fun _ _ => by simp) _ _,
    foldl_keep (fun h : Hub => h.trig) _ (fun _ _ => by simp) _ _,
    foldl_keep (fun h : Hub => h.frames) _ (fun _ _ => by simp) _ _,
    foldl_keep (fun h : Hub => h.view) _ (fun _ _ => by simp) _ _,
    foldl_keep (fun h : Hub => h.pipe) _ (fun _ _ => by simp) _ _,
    foldl_keep (fun h : Hub => h.freeCount) _ (fun _ _ => by simp) _ _,
    foldl_keep (fun h : Hub => h.mgmt.requests) _ (fun _ _ => by simp) _ _,
    foldl_keep (fun h : Hub => h.mgmt.taking) _ (fun _ _ => by simp) _ _,
    foldl_keep (fun h : Hub => h.mgmt.replyOwed) _ (fun _ _ => by simp) _ _,
    foldl_keep (fun h : Hub => h.mgmt.enables) _ (fun _ _ => by simp) _ _,
    foldl_keep (fun h : Hub => h.mgmt.overflow) _ (fun _ _ => by simp) _ _,
    foldl_keep (fun h : Hub => h.trunk.up) _ (fun _ _ => by simp) _ _,
    foldl_keep (fun h : Hub => h.trunk.lane) _ (fun _ _ => by simp) _ _,
    foldl_keep (fun h : Hub => h.trunk.grant) _ (fun _ _ => by simp) _ _,
    foldl_keep (fun h : Hub => h.trunk.lowShare) _ (fun _ _ => by simp) _ _,
    foldl_keep (fun h : Hub => h.trunk.replyGroup) _ (fun _ _ => by simp) _ _,
    foldl_keep (fun h : Hub => h.trunk.replyBurst) _ (fun _ _ => by simp) _ _,
    foldl_keep (fun h : Hub => h.trunk.bursts) _ (fun _ _ => by simp) _ _,
    foldl_keep (fun h : Hub => h.trunk.sent) _ (fun _ _ => by simp) _ _,
    foldl_keep (fun h : Hub => h.trunk.losses) _ (fun _ _ => by simp) _ _,
    foldl_keep (fun h : Hub => h.trunk.images) _ (fun _ _ => by simp) _ _,
    foldl_keep (fun h : Hub => h.mgmt.portFlags) _ (fun _ _ => by simp) _ _,
    foldl_keep (fun h : Hub => h.mgmt.partFlags) _ (fun _ _ => by simp) _ _,
    foldl_keep (fun h : Hub => h.mgmt.lateReplies) _ (fun _ _ => by simp) _ _,
    foldl_keep (fun h : Hub => h.mgmt.unsent) _ (fun _ _ => by simp) _ _⟩

/-- With no reply kept, nothing is due (R171). -/
theorem Hub.offerDue_nil {h : Hub} (e : h.mgmt.answered = []) : h.offerDue = h := by simp [Hub.offerDue, e]

/-- A notice, behind the kept replies, changes the reply queue, the slots and the counts of unsent and discarded packets
alone (R171, R174). -/
@[simp] theorem Hub.offerNotice_frame (h : Hub) :
    (h.offerNotice).time = h.time ∧
    (h.offerNotice).requestedIso = h.requestedIso ∧
    (h.offerNotice).power = h.power ∧
    (h.offerNotice).cell = h.cell ∧
    (h.offerNotice).link = h.link ∧
    (h.offerNotice).cable = h.cable ∧
    (h.offerNotice).cables = h.cables ∧
    (h.offerNotice).lens = h.lens ∧
    (h.offerNotice).encoder = h.encoder ∧
    (h.offerNotice).lines = h.lines ∧
    (h.offerNotice).trig = h.trig ∧
    (h.offerNotice).frames = h.frames ∧
    (h.offerNotice).view = h.view ∧
    (h.offerNotice).pipe = h.pipe ∧
    (h.offerNotice).freeCount = h.freeCount ∧
    (h.offerNotice).mgmt.requests = h.mgmt.requests ∧
    (h.offerNotice).mgmt.taking = h.mgmt.taking ∧
    (h.offerNotice).mgmt.replyOwed = h.mgmt.replyOwed ∧
    (h.offerNotice).mgmt.enables = h.mgmt.enables ∧
    (h.offerNotice).mgmt.overflow = h.mgmt.overflow ∧
    (h.offerNotice).trunk.up = h.trunk.up ∧
    (h.offerNotice).trunk.lane = h.trunk.lane ∧
    (h.offerNotice).trunk.grant = h.trunk.grant ∧
    (h.offerNotice).trunk.lowShare = h.trunk.lowShare ∧
    (h.offerNotice).trunk.replyGroup = h.trunk.replyGroup ∧
    (h.offerNotice).trunk.replyBurst = h.trunk.replyBurst ∧
    (h.offerNotice).trunk.bursts = h.trunk.bursts ∧
    (h.offerNotice).trunk.sent = h.trunk.sent ∧
    (h.offerNotice).trunk.losses = h.trunk.losses ∧
    (h.offerNotice).trunk.images = h.trunk.images := by
  refine ⟨?_, ?_, ?_, ?_, ?_, ?_, ?_, ?_, ?_, ?_, ?_, ?_, ?_, ?_, ?_, ?_, ?_, ?_, ?_, ?_, ?_, ?_, ?_, ?_, ?_, ?_, ?_, ?_, ?_, ?_⟩ <;> (simp only [Hub.offerNotice]; (repeat' split) <;> simp)

/-- Flags set change the flags alone (R172). -/
@[simp] theorem Hub.setFlags_frame (h : Hub) (p : Port) (a b : BitVec 16) :
    (h.setFlags p a b).time = h.time ∧
    (h.setFlags p a b).requestedIso = h.requestedIso ∧
    (h.setFlags p a b).power = h.power ∧
    (h.setFlags p a b).cell = h.cell ∧
    (h.setFlags p a b).link = h.link ∧
    (h.setFlags p a b).cable = h.cable ∧
    (h.setFlags p a b).cables = h.cables ∧
    (h.setFlags p a b).lens = h.lens ∧
    (h.setFlags p a b).encoder = h.encoder ∧
    (h.setFlags p a b).lines = h.lines ∧
    (h.setFlags p a b).trig = h.trig ∧
    (h.setFlags p a b).frames = h.frames ∧
    (h.setFlags p a b).view = h.view ∧
    (h.setFlags p a b).pipe = h.pipe ∧
    (h.setFlags p a b).freeCount = h.freeCount ∧
    (h.setFlags p a b).mgmt.requests = h.mgmt.requests ∧
    (h.setFlags p a b).mgmt.taking = h.mgmt.taking ∧
    (h.setFlags p a b).mgmt.replyOwed = h.mgmt.replyOwed ∧
    (h.setFlags p a b).mgmt.enables = h.mgmt.enables ∧
    (h.setFlags p a b).mgmt.overflow = h.mgmt.overflow ∧
    (h.setFlags p a b).trunk.up = h.trunk.up ∧
    (h.setFlags p a b).trunk.lane = h.trunk.lane ∧
    (h.setFlags p a b).trunk.grant = h.trunk.grant ∧
    (h.setFlags p a b).trunk.lowShare = h.trunk.lowShare ∧
    (h.setFlags p a b).trunk.replyGroup = h.trunk.replyGroup ∧
    (h.setFlags p a b).trunk.replyBurst = h.trunk.replyBurst ∧
    (h.setFlags p a b).trunk.bursts = h.trunk.bursts ∧
    (h.setFlags p a b).trunk.sent = h.trunk.sent ∧
    (h.setFlags p a b).trunk.losses = h.trunk.losses ∧
    (h.setFlags p a b).trunk.images = h.trunk.images := by
  refine ⟨?_, ?_, ?_, ?_, ?_, ?_, ?_, ?_, ?_, ?_, ?_, ?_, ?_, ?_, ?_, ?_, ?_, ?_, ?_, ?_, ?_, ?_, ?_, ?_, ?_, ?_, ?_, ?_, ?_, ?_⟩ <;> (simp only [Hub.setFlags]; (repeat' split) <;> simp)

/-- An event's notice changes the reply queue and its counts alone (R174). -/
@[simp] theorem Hub.noticeFor_frame (h : Hub) (a : BitVec 16) :
    (h.noticeFor a).time = h.time ∧
    (h.noticeFor a).requestedIso = h.requestedIso ∧
    (h.noticeFor a).power = h.power ∧
    (h.noticeFor a).cell = h.cell ∧
    (h.noticeFor a).link = h.link ∧
    (h.noticeFor a).cable = h.cable ∧
    (h.noticeFor a).cables = h.cables ∧
    (h.noticeFor a).lens = h.lens ∧
    (h.noticeFor a).encoder = h.encoder ∧
    (h.noticeFor a).lines = h.lines ∧
    (h.noticeFor a).trig = h.trig ∧
    (h.noticeFor a).frames = h.frames ∧
    (h.noticeFor a).view = h.view ∧
    (h.noticeFor a).pipe = h.pipe ∧
    (h.noticeFor a).freeCount = h.freeCount ∧
    (h.noticeFor a).mgmt.requests = h.mgmt.requests ∧
    (h.noticeFor a).mgmt.taking = h.mgmt.taking ∧
    (h.noticeFor a).mgmt.replyOwed = h.mgmt.replyOwed ∧
    (h.noticeFor a).mgmt.enables = h.mgmt.enables ∧
    (h.noticeFor a).mgmt.overflow = h.mgmt.overflow ∧
    (h.noticeFor a).trunk.up = h.trunk.up ∧
    (h.noticeFor a).trunk.lane = h.trunk.lane ∧
    (h.noticeFor a).trunk.grant = h.trunk.grant ∧
    (h.noticeFor a).trunk.lowShare = h.trunk.lowShare ∧
    (h.noticeFor a).trunk.replyGroup = h.trunk.replyGroup ∧
    (h.noticeFor a).trunk.replyBurst = h.trunk.replyBurst ∧
    (h.noticeFor a).trunk.bursts = h.trunk.bursts ∧
    (h.noticeFor a).trunk.sent = h.trunk.sent ∧
    (h.noticeFor a).trunk.losses = h.trunk.losses ∧
    (h.noticeFor a).trunk.images = h.trunk.images := by
  refine ⟨?_, ?_, ?_, ?_, ?_, ?_, ?_, ?_, ?_, ?_, ?_, ?_, ?_, ?_, ?_, ?_, ?_, ?_, ?_, ?_, ?_, ?_, ?_, ?_, ?_, ?_, ?_, ?_, ?_, ?_⟩ <;> (simp only [Hub.noticeFor]; (repeat' split) <;> simp)

/-- Flags and their notice change the flags, the reply queue and its counts alone (R172, R174). -/
@[simp] theorem Hub.raise_frame (h : Hub) (p : Port) (a b : BitVec 16) :
    (h.raise p a b).time = h.time ∧
    (h.raise p a b).requestedIso = h.requestedIso ∧
    (h.raise p a b).power = h.power ∧
    (h.raise p a b).cell = h.cell ∧
    (h.raise p a b).link = h.link ∧
    (h.raise p a b).cable = h.cable ∧
    (h.raise p a b).cables = h.cables ∧
    (h.raise p a b).lens = h.lens ∧
    (h.raise p a b).encoder = h.encoder ∧
    (h.raise p a b).lines = h.lines ∧
    (h.raise p a b).trig = h.trig ∧
    (h.raise p a b).frames = h.frames ∧
    (h.raise p a b).view = h.view ∧
    (h.raise p a b).pipe = h.pipe ∧
    (h.raise p a b).freeCount = h.freeCount ∧
    (h.raise p a b).mgmt.requests = h.mgmt.requests ∧
    (h.raise p a b).mgmt.taking = h.mgmt.taking ∧
    (h.raise p a b).mgmt.replyOwed = h.mgmt.replyOwed ∧
    (h.raise p a b).mgmt.enables = h.mgmt.enables ∧
    (h.raise p a b).mgmt.overflow = h.mgmt.overflow ∧
    (h.raise p a b).trunk.up = h.trunk.up ∧
    (h.raise p a b).trunk.lane = h.trunk.lane ∧
    (h.raise p a b).trunk.grant = h.trunk.grant ∧
    (h.raise p a b).trunk.lowShare = h.trunk.lowShare ∧
    (h.raise p a b).trunk.replyGroup = h.trunk.replyGroup ∧
    (h.raise p a b).trunk.replyBurst = h.trunk.replyBurst ∧
    (h.raise p a b).trunk.bursts = h.trunk.bursts ∧
    (h.raise p a b).trunk.sent = h.trunk.sent ∧
    (h.raise p a b).trunk.losses = h.trunk.losses ∧
    (h.raise p a b).trunk.images = h.trunk.images := by
  refine ⟨?_, ?_, ?_, ?_, ?_, ?_, ?_, ?_, ?_, ?_, ?_, ?_, ?_, ?_, ?_, ?_, ?_, ?_, ?_, ?_, ?_, ?_, ?_, ?_, ?_, ?_, ?_, ?_, ?_, ?_⟩ <;> (simp only [Hub.raise]; (repeat' split) <;> simp)

/-- As for Hub.raise. -/
@[simp] theorem Hub.flag_frame (h : Hub) (p : Port) (a : BitVec 16) :
    (h.flag p a).time = h.time ∧
    (h.flag p a).requestedIso = h.requestedIso ∧
    (h.flag p a).power = h.power ∧
    (h.flag p a).cell = h.cell ∧
    (h.flag p a).link = h.link ∧
    (h.flag p a).cable = h.cable ∧
    (h.flag p a).cables = h.cables ∧
    (h.flag p a).lens = h.lens ∧
    (h.flag p a).encoder = h.encoder ∧
    (h.flag p a).lines = h.lines ∧
    (h.flag p a).trig = h.trig ∧
    (h.flag p a).frames = h.frames ∧
    (h.flag p a).view = h.view ∧
    (h.flag p a).pipe = h.pipe ∧
    (h.flag p a).freeCount = h.freeCount ∧
    (h.flag p a).mgmt.requests = h.mgmt.requests ∧
    (h.flag p a).mgmt.taking = h.mgmt.taking ∧
    (h.flag p a).mgmt.replyOwed = h.mgmt.replyOwed ∧
    (h.flag p a).mgmt.enables = h.mgmt.enables ∧
    (h.flag p a).mgmt.overflow = h.mgmt.overflow ∧
    (h.flag p a).trunk.up = h.trunk.up ∧
    (h.flag p a).trunk.lane = h.trunk.lane ∧
    (h.flag p a).trunk.grant = h.trunk.grant ∧
    (h.flag p a).trunk.lowShare = h.trunk.lowShare ∧
    (h.flag p a).trunk.replyGroup = h.trunk.replyGroup ∧
    (h.flag p a).trunk.replyBurst = h.trunk.replyBurst ∧
    (h.flag p a).trunk.bursts = h.trunk.bursts ∧
    (h.flag p a).trunk.sent = h.trunk.sent ∧
    (h.flag p a).trunk.losses = h.trunk.losses ∧
    (h.flag p a).trunk.images = h.trunk.images := by
  refine ⟨?_, ?_, ?_, ?_, ?_, ?_, ?_, ?_, ?_, ?_, ?_, ?_, ?_, ?_, ?_, ?_, ?_, ?_, ?_, ?_, ?_, ?_, ?_, ?_, ?_, ?_, ?_, ?_, ?_, ?_⟩ <;> (simp only [Hub.flag]; (repeat' split) <;> simp)

/-- As for Hub.raise. -/
@[simp] theorem Hub.flagPart_frame (h : Hub) (a : BitVec 16) :
    (h.flagPart a).time = h.time ∧
    (h.flagPart a).requestedIso = h.requestedIso ∧
    (h.flagPart a).power = h.power ∧
    (h.flagPart a).cell = h.cell ∧
    (h.flagPart a).link = h.link ∧
    (h.flagPart a).cable = h.cable ∧
    (h.flagPart a).cables = h.cables ∧
    (h.flagPart a).lens = h.lens ∧
    (h.flagPart a).encoder = h.encoder ∧
    (h.flagPart a).lines = h.lines ∧
    (h.flagPart a).trig = h.trig ∧
    (h.flagPart a).frames = h.frames ∧
    (h.flagPart a).view = h.view ∧
    (h.flagPart a).pipe = h.pipe ∧
    (h.flagPart a).freeCount = h.freeCount ∧
    (h.flagPart a).mgmt.requests = h.mgmt.requests ∧
    (h.flagPart a).mgmt.taking = h.mgmt.taking ∧
    (h.flagPart a).mgmt.replyOwed = h.mgmt.replyOwed ∧
    (h.flagPart a).mgmt.enables = h.mgmt.enables ∧
    (h.flagPart a).mgmt.overflow = h.mgmt.overflow ∧
    (h.flagPart a).trunk.up = h.trunk.up ∧
    (h.flagPart a).trunk.lane = h.trunk.lane ∧
    (h.flagPart a).trunk.grant = h.trunk.grant ∧
    (h.flagPart a).trunk.lowShare = h.trunk.lowShare ∧
    (h.flagPart a).trunk.replyGroup = h.trunk.replyGroup ∧
    (h.flagPart a).trunk.replyBurst = h.trunk.replyBurst ∧
    (h.flagPart a).trunk.bursts = h.trunk.bursts ∧
    (h.flagPart a).trunk.sent = h.trunk.sent ∧
    (h.flagPart a).trunk.losses = h.trunk.losses ∧
    (h.flagPart a).trunk.images = h.trunk.images := by
  refine ⟨?_, ?_, ?_, ?_, ?_, ?_, ?_, ?_, ?_, ?_, ?_, ?_, ?_, ?_, ?_, ?_, ?_, ?_, ?_, ?_, ?_, ?_, ?_, ?_, ?_, ?_, ?_, ?_, ?_, ?_⟩ <;> (simp only [Hub.flagPart]; (repeat' split) <;> simp)

/-- A slot's reply reaches the reply queue and the slots alone (R171). -/
@[simp] theorem Hub.offerSlotReply_frame (h : Hub) (i : SlotNo) (pkt : Packet) :
    (h.offerSlotReply i pkt).time = h.time ∧
    (h.offerSlotReply i pkt).requestedIso = h.requestedIso ∧
    (h.offerSlotReply i pkt).power = h.power ∧
    (h.offerSlotReply i pkt).cell = h.cell ∧
    (h.offerSlotReply i pkt).link = h.link ∧
    (h.offerSlotReply i pkt).cable = h.cable ∧
    (h.offerSlotReply i pkt).cables = h.cables ∧
    (h.offerSlotReply i pkt).lens = h.lens ∧
    (h.offerSlotReply i pkt).encoder = h.encoder ∧
    (h.offerSlotReply i pkt).lines = h.lines ∧
    (h.offerSlotReply i pkt).trig = h.trig ∧
    (h.offerSlotReply i pkt).frames = h.frames ∧
    (h.offerSlotReply i pkt).view = h.view ∧
    (h.offerSlotReply i pkt).pipe = h.pipe ∧
    (h.offerSlotReply i pkt).freeCount = h.freeCount ∧
    (h.offerSlotReply i pkt).mgmt.requests = h.mgmt.requests ∧
    (h.offerSlotReply i pkt).mgmt.taking = h.mgmt.taking ∧
    (h.offerSlotReply i pkt).mgmt.replyOwed = h.mgmt.replyOwed ∧
    (h.offerSlotReply i pkt).mgmt.enables = h.mgmt.enables ∧
    (h.offerSlotReply i pkt).mgmt.overflow = h.mgmt.overflow ∧
    (h.offerSlotReply i pkt).trunk.up = h.trunk.up ∧
    (h.offerSlotReply i pkt).trunk.lane = h.trunk.lane ∧
    (h.offerSlotReply i pkt).trunk.grant = h.trunk.grant ∧
    (h.offerSlotReply i pkt).trunk.lowShare = h.trunk.lowShare ∧
    (h.offerSlotReply i pkt).trunk.replyGroup = h.trunk.replyGroup ∧
    (h.offerSlotReply i pkt).trunk.replyBurst = h.trunk.replyBurst ∧
    (h.offerSlotReply i pkt).trunk.bursts = h.trunk.bursts ∧
    (h.offerSlotReply i pkt).trunk.sent = h.trunk.sent ∧
    (h.offerSlotReply i pkt).trunk.losses = h.trunk.losses ∧
    (h.offerSlotReply i pkt).trunk.images = h.trunk.images := by
  refine ⟨?_, ?_, ?_, ?_, ?_, ?_, ?_, ?_, ?_, ?_, ?_, ?_, ?_, ?_, ?_, ?_, ?_, ?_, ?_, ?_, ?_, ?_, ?_, ?_, ?_, ?_, ?_, ?_, ?_, ?_⟩ <;> (simp only [Hub.offerSlotReply]; (repeat' split) <;> simp)

/-- As for Hub.offerSlotReply. -/
@[simp] theorem Hub.answerSlot_frame (h : Hub) (i : SlotNo) (st : Status) (res : List Byte) :
    (h.answerSlot i st res).time = h.time ∧
    (h.answerSlot i st res).requestedIso = h.requestedIso ∧
    (h.answerSlot i st res).power = h.power ∧
    (h.answerSlot i st res).cell = h.cell ∧
    (h.answerSlot i st res).link = h.link ∧
    (h.answerSlot i st res).cable = h.cable ∧
    (h.answerSlot i st res).cables = h.cables ∧
    (h.answerSlot i st res).lens = h.lens ∧
    (h.answerSlot i st res).encoder = h.encoder ∧
    (h.answerSlot i st res).lines = h.lines ∧
    (h.answerSlot i st res).trig = h.trig ∧
    (h.answerSlot i st res).frames = h.frames ∧
    (h.answerSlot i st res).view = h.view ∧
    (h.answerSlot i st res).pipe = h.pipe ∧
    (h.answerSlot i st res).freeCount = h.freeCount ∧
    (h.answerSlot i st res).mgmt.requests = h.mgmt.requests ∧
    (h.answerSlot i st res).mgmt.taking = h.mgmt.taking ∧
    (h.answerSlot i st res).mgmt.replyOwed = h.mgmt.replyOwed ∧
    (h.answerSlot i st res).mgmt.enables = h.mgmt.enables ∧
    (h.answerSlot i st res).mgmt.overflow = h.mgmt.overflow ∧
    (h.answerSlot i st res).trunk.up = h.trunk.up ∧
    (h.answerSlot i st res).trunk.lane = h.trunk.lane ∧
    (h.answerSlot i st res).trunk.grant = h.trunk.grant ∧
    (h.answerSlot i st res).trunk.lowShare = h.trunk.lowShare ∧
    (h.answerSlot i st res).trunk.replyGroup = h.trunk.replyGroup ∧
    (h.answerSlot i st res).trunk.replyBurst = h.trunk.replyBurst ∧
    (h.answerSlot i st res).trunk.bursts = h.trunk.bursts ∧
    (h.answerSlot i st res).trunk.sent = h.trunk.sent ∧
    (h.answerSlot i st res).trunk.losses = h.trunk.losses ∧
    (h.answerSlot i st res).trunk.images = h.trunk.images := by
  refine ⟨?_, ?_, ?_, ?_, ?_, ?_, ?_, ?_, ?_, ?_, ?_, ?_, ?_, ?_, ?_, ?_, ?_, ?_, ?_, ?_, ?_, ?_, ?_, ?_, ?_, ?_, ?_, ?_, ?_, ?_⟩ <;> (simp only [Hub.answerSlot]; (repeat' split) <;> simp)

/-- As for Hub.offerSlotReply. -/
@[simp] theorem Hub.completeSlot_frame (h : Hub) (i : SlotNo) (p : Port) (attr : BitVec 8) (st : Status) :
    (h.completeSlot i p attr st).time = h.time ∧
    (h.completeSlot i p attr st).requestedIso = h.requestedIso ∧
    (h.completeSlot i p attr st).power = h.power ∧
    (h.completeSlot i p attr st).cell = h.cell ∧
    (h.completeSlot i p attr st).link = h.link ∧
    (h.completeSlot i p attr st).cable = h.cable ∧
    (h.completeSlot i p attr st).cables = h.cables ∧
    (h.completeSlot i p attr st).lens = h.lens ∧
    (h.completeSlot i p attr st).encoder = h.encoder ∧
    (h.completeSlot i p attr st).lines = h.lines ∧
    (h.completeSlot i p attr st).trig = h.trig ∧
    (h.completeSlot i p attr st).frames = h.frames ∧
    (h.completeSlot i p attr st).view = h.view ∧
    (h.completeSlot i p attr st).pipe = h.pipe ∧
    (h.completeSlot i p attr st).freeCount = h.freeCount ∧
    (h.completeSlot i p attr st).mgmt.requests = h.mgmt.requests ∧
    (h.completeSlot i p attr st).mgmt.taking = h.mgmt.taking ∧
    (h.completeSlot i p attr st).mgmt.replyOwed = h.mgmt.replyOwed ∧
    (h.completeSlot i p attr st).mgmt.enables = h.mgmt.enables ∧
    (h.completeSlot i p attr st).mgmt.overflow = h.mgmt.overflow ∧
    (h.completeSlot i p attr st).trunk.up = h.trunk.up ∧
    (h.completeSlot i p attr st).trunk.lane = h.trunk.lane ∧
    (h.completeSlot i p attr st).trunk.grant = h.trunk.grant ∧
    (h.completeSlot i p attr st).trunk.lowShare = h.trunk.lowShare ∧
    (h.completeSlot i p attr st).trunk.replyGroup = h.trunk.replyGroup ∧
    (h.completeSlot i p attr st).trunk.replyBurst = h.trunk.replyBurst ∧
    (h.completeSlot i p attr st).trunk.bursts = h.trunk.bursts ∧
    (h.completeSlot i p attr st).trunk.sent = h.trunk.sent ∧
    (h.completeSlot i p attr st).trunk.losses = h.trunk.losses ∧
    (h.completeSlot i p attr st).trunk.images = h.trunk.images := by
  refine ⟨?_, ?_, ?_, ?_, ?_, ?_, ?_, ?_, ?_, ?_, ?_, ?_, ?_, ?_, ?_, ?_, ?_, ?_, ?_, ?_, ?_, ?_, ?_, ?_, ?_, ?_, ?_, ?_, ?_, ?_⟩ <;> (simp only [Hub.completeSlot]; (repeat' split) <;> simp)

/-- A drop at the slots reaches the reply queue and the slots alone (R171). -/
@[simp] theorem Hub.dropSlots_frame (h : Hub) (p : Port) :
    (h.dropSlots p).time = h.time ∧
    (h.dropSlots p).requestedIso = h.requestedIso ∧
    (h.dropSlots p).power = h.power ∧
    (h.dropSlots p).cell = h.cell ∧
    (h.dropSlots p).link = h.link ∧
    (h.dropSlots p).cable = h.cable ∧
    (h.dropSlots p).cables = h.cables ∧
    (h.dropSlots p).lens = h.lens ∧
    (h.dropSlots p).encoder = h.encoder ∧
    (h.dropSlots p).lines = h.lines ∧
    (h.dropSlots p).trig = h.trig ∧
    (h.dropSlots p).frames = h.frames ∧
    (h.dropSlots p).view = h.view ∧
    (h.dropSlots p).pipe = h.pipe ∧
    (h.dropSlots p).freeCount = h.freeCount ∧
    (h.dropSlots p).mgmt.requests = h.mgmt.requests ∧
    (h.dropSlots p).mgmt.taking = h.mgmt.taking ∧
    (h.dropSlots p).mgmt.replyOwed = h.mgmt.replyOwed ∧
    (h.dropSlots p).mgmt.enables = h.mgmt.enables ∧
    (h.dropSlots p).mgmt.overflow = h.mgmt.overflow ∧
    (h.dropSlots p).trunk.up = h.trunk.up ∧
    (h.dropSlots p).trunk.lane = h.trunk.lane ∧
    (h.dropSlots p).trunk.grant = h.trunk.grant ∧
    (h.dropSlots p).trunk.lowShare = h.trunk.lowShare ∧
    (h.dropSlots p).trunk.replyGroup = h.trunk.replyGroup ∧
    (h.dropSlots p).trunk.replyBurst = h.trunk.replyBurst ∧
    (h.dropSlots p).trunk.bursts = h.trunk.bursts ∧
    (h.dropSlots p).trunk.sent = h.trunk.sent ∧
    (h.dropSlots p).trunk.losses = h.trunk.losses ∧
    (h.dropSlots p).trunk.images = h.trunk.images := by
  refine ⟨?_, ?_, ?_, ?_, ?_, ?_, ?_, ?_, ?_, ?_, ?_, ?_, ?_, ?_, ?_, ?_, ?_, ?_, ?_, ?_, ?_, ?_, ?_, ?_, ?_, ?_, ?_, ?_, ?_, ?_⟩ <;> (simp only [Hub.dropSlots, allSlots, List.foldl]; (repeat' split) <;> simp)

/-- An ATTR_REPLY reaches the slots, the reply queue and the flags alone (R171). -/
@[simp] theorem Hub.attrReply_frame (h : Hub) (p : Port) (attr : BitVec 8) (st : Nat) (ws : List Nat) :
    (h.attrReply p attr st ws).time = h.time ∧
    (h.attrReply p attr st ws).requestedIso = h.requestedIso ∧
    (h.attrReply p attr st ws).power = h.power ∧
    (h.attrReply p attr st ws).cell = h.cell ∧
    (h.attrReply p attr st ws).link = h.link ∧
    (h.attrReply p attr st ws).cable = h.cable ∧
    (h.attrReply p attr st ws).cables = h.cables ∧
    (h.attrReply p attr st ws).lens = h.lens ∧
    (h.attrReply p attr st ws).encoder = h.encoder ∧
    (h.attrReply p attr st ws).lines = h.lines ∧
    (h.attrReply p attr st ws).trig = h.trig ∧
    (h.attrReply p attr st ws).frames = h.frames ∧
    (h.attrReply p attr st ws).view = h.view ∧
    (h.attrReply p attr st ws).pipe = h.pipe ∧
    (h.attrReply p attr st ws).freeCount = h.freeCount ∧
    (h.attrReply p attr st ws).mgmt.requests = h.mgmt.requests ∧
    (h.attrReply p attr st ws).mgmt.taking = h.mgmt.taking ∧
    (h.attrReply p attr st ws).mgmt.replyOwed = h.mgmt.replyOwed ∧
    (h.attrReply p attr st ws).mgmt.enables = h.mgmt.enables ∧
    (h.attrReply p attr st ws).mgmt.overflow = h.mgmt.overflow ∧
    (h.attrReply p attr st ws).trunk.up = h.trunk.up ∧
    (h.attrReply p attr st ws).trunk.lane = h.trunk.lane ∧
    (h.attrReply p attr st ws).trunk.grant = h.trunk.grant ∧
    (h.attrReply p attr st ws).trunk.lowShare = h.trunk.lowShare ∧
    (h.attrReply p attr st ws).trunk.replyGroup = h.trunk.replyGroup ∧
    (h.attrReply p attr st ws).trunk.replyBurst = h.trunk.replyBurst ∧
    (h.attrReply p attr st ws).trunk.bursts = h.trunk.bursts ∧
    (h.attrReply p attr st ws).trunk.sent = h.trunk.sent ∧
    (h.attrReply p attr st ws).trunk.losses = h.trunk.losses ∧
    (h.attrReply p attr st ws).trunk.images = h.trunk.images := by
  refine ⟨?_, ?_, ?_, ?_, ?_, ?_, ?_, ?_, ?_, ?_, ?_, ?_, ?_, ?_, ?_, ?_, ?_, ?_, ?_, ?_, ?_, ?_, ?_, ?_, ?_, ?_, ?_, ?_, ?_, ?_⟩ <;> (simp only [Hub.attrReply]; (repeat' split) <;> simp)

/-- A command queued changes the link alone (R27). -/
@[simp] theorem Hub.queueCommand_frame (h : Hub) (p : Port) (isAttr : Bool) (mk : BitVec 8 → Command) :
    (h.queueCommand p isAttr mk).time = h.time ∧
    (h.queueCommand p isAttr mk).requestedIso = h.requestedIso ∧
    (h.queueCommand p isAttr mk).power = h.power ∧
    (h.queueCommand p isAttr mk).cell = h.cell ∧
    (h.queueCommand p isAttr mk).cable = h.cable ∧
    (h.queueCommand p isAttr mk).cables = h.cables ∧
    (h.queueCommand p isAttr mk).lens = h.lens ∧
    (h.queueCommand p isAttr mk).encoder = h.encoder ∧
    (h.queueCommand p isAttr mk).lines = h.lines ∧
    (h.queueCommand p isAttr mk).trig = h.trig ∧
    (h.queueCommand p isAttr mk).frames = h.frames ∧
    (h.queueCommand p isAttr mk).view = h.view ∧
    (h.queueCommand p isAttr mk).pipe = h.pipe ∧
    (h.queueCommand p isAttr mk).trunk = h.trunk ∧
    (h.queueCommand p isAttr mk).mgmt = h.mgmt ∧
    (h.queueCommand p isAttr mk).freeCount = h.freeCount := by
  refine ⟨?_, ?_, ?_, ?_, ?_, ?_, ?_, ?_, ?_, ?_, ?_, ?_, ?_, ?_, ?_, ?_⟩ <;> (simp only [Hub.queueCommand]; (repeat' split) <;> simp)

/-- A trigger sent changes the trigger record and the link alone (R115). -/
@[simp] theorem Hub.sendTrigger_frame (h : Hub) (p : Port) (fired : FiredAt) (mv : Bool) :
    (h.sendTrigger p fired mv).time = h.time ∧
    (h.sendTrigger p fired mv).requestedIso = h.requestedIso ∧
    (h.sendTrigger p fired mv).power = h.power ∧
    (h.sendTrigger p fired mv).cell = h.cell ∧
    (h.sendTrigger p fired mv).cable = h.cable ∧
    (h.sendTrigger p fired mv).cables = h.cables ∧
    (h.sendTrigger p fired mv).lens = h.lens ∧
    (h.sendTrigger p fired mv).encoder = h.encoder ∧
    (h.sendTrigger p fired mv).lines = h.lines ∧
    (h.sendTrigger p fired mv).frames = h.frames ∧
    (h.sendTrigger p fired mv).view = h.view ∧
    (h.sendTrigger p fired mv).pipe = h.pipe ∧
    (h.sendTrigger p fired mv).trunk = h.trunk ∧
    (h.sendTrigger p fired mv).mgmt = h.mgmt ∧
    (h.sendTrigger p fired mv).freeCount = h.freeCount := by
  refine ⟨?_, ?_, ?_, ?_, ?_, ?_, ?_, ?_, ?_, ?_, ?_, ?_, ?_, ?_, ?_⟩ <;> (simp only [Hub.sendTrigger]; (repeat' split) <;> simp)

/-- A trigger fired changes the trigger record, the link, the flags and the reply queue alone (R114). -/
@[simp] theorem Hub.fire_frame (h : Hub) (p : Port) :
    ((h.fire p).1).time = h.time ∧
    ((h.fire p).1).requestedIso = h.requestedIso ∧
    ((h.fire p).1).power = h.power ∧
    ((h.fire p).1).cell = h.cell ∧
    ((h.fire p).1).cable = h.cable ∧
    ((h.fire p).1).cables = h.cables ∧
    ((h.fire p).1).lens = h.lens ∧
    ((h.fire p).1).encoder = h.encoder ∧
    ((h.fire p).1).lines = h.lines ∧
    ((h.fire p).1).frames = h.frames ∧
    ((h.fire p).1).view = h.view ∧
    ((h.fire p).1).pipe = h.pipe ∧
    ((h.fire p).1).freeCount = h.freeCount ∧
    ((h.fire p).1).mgmt.requests = h.mgmt.requests ∧
    ((h.fire p).1).mgmt.taking = h.mgmt.taking ∧
    ((h.fire p).1).mgmt.replyOwed = h.mgmt.replyOwed ∧
    ((h.fire p).1).mgmt.enables = h.mgmt.enables ∧
    ((h.fire p).1).mgmt.overflow = h.mgmt.overflow ∧
    ((h.fire p).1).trunk.up = h.trunk.up ∧
    ((h.fire p).1).trunk.lane = h.trunk.lane ∧
    ((h.fire p).1).trunk.grant = h.trunk.grant ∧
    ((h.fire p).1).trunk.lowShare = h.trunk.lowShare ∧
    ((h.fire p).1).trunk.replyGroup = h.trunk.replyGroup ∧
    ((h.fire p).1).trunk.replyBurst = h.trunk.replyBurst ∧
    ((h.fire p).1).trunk.bursts = h.trunk.bursts ∧
    ((h.fire p).1).trunk.sent = h.trunk.sent ∧
    ((h.fire p).1).trunk.losses = h.trunk.losses ∧
    ((h.fire p).1).trunk.images = h.trunk.images := by
  refine ⟨?_, ?_, ?_, ?_, ?_, ?_, ?_, ?_, ?_, ?_, ?_, ?_, ?_, ?_, ?_, ?_, ?_, ?_, ?_, ?_, ?_, ?_, ?_, ?_, ?_, ?_, ?_, ?_⟩ <;> (simp only [Hub.fire]; (repeat' split) <;> simp)

/-- A release acts as a send or a loss (R116). -/
@[simp] theorem Hub.releaseDeferred_frame (h : Hub) (p : Port) :
    (h.releaseDeferred p).time = h.time ∧
    (h.releaseDeferred p).requestedIso = h.requestedIso ∧
    (h.releaseDeferred p).power = h.power ∧
    (h.releaseDeferred p).cell = h.cell ∧
    (h.releaseDeferred p).cable = h.cable ∧
    (h.releaseDeferred p).cables = h.cables ∧
    (h.releaseDeferred p).lens = h.lens ∧
    (h.releaseDeferred p).encoder = h.encoder ∧
    (h.releaseDeferred p).lines = h.lines ∧
    (h.releaseDeferred p).frames = h.frames ∧
    (h.releaseDeferred p).view = h.view ∧
    (h.releaseDeferred p).pipe = h.pipe ∧
    (h.releaseDeferred p).freeCount = h.freeCount ∧
    (h.releaseDeferred p).mgmt.requests = h.mgmt.requests ∧
    (h.releaseDeferred p).mgmt.taking = h.mgmt.taking ∧
    (h.releaseDeferred p).mgmt.replyOwed = h.mgmt.replyOwed ∧
    (h.releaseDeferred p).mgmt.enables = h.mgmt.enables ∧
    (h.releaseDeferred p).mgmt.overflow = h.mgmt.overflow ∧
    (h.releaseDeferred p).trunk.up = h.trunk.up ∧
    (h.releaseDeferred p).trunk.lane = h.trunk.lane ∧
    (h.releaseDeferred p).trunk.grant = h.trunk.grant ∧
    (h.releaseDeferred p).trunk.lowShare = h.trunk.lowShare ∧
    (h.releaseDeferred p).trunk.replyGroup = h.trunk.replyGroup ∧
    (h.releaseDeferred p).trunk.replyBurst = h.trunk.replyBurst ∧
    (h.releaseDeferred p).trunk.bursts = h.trunk.bursts ∧
    (h.releaseDeferred p).trunk.sent = h.trunk.sent ∧
    (h.releaseDeferred p).trunk.losses = h.trunk.losses ∧
    (h.releaseDeferred p).trunk.images = h.trunk.images := by
  refine ⟨?_, ?_, ?_, ?_, ?_, ?_, ?_, ?_, ?_, ?_, ?_, ?_, ?_, ?_, ?_, ?_, ?_, ?_, ?_, ?_, ?_, ?_, ?_, ?_, ?_, ?_, ?_, ?_⟩ <;> (simp only [Hub.releaseDeferred]; (repeat' split) <;> simp)

/-- A resolution changes the trigger record alone (R117). -/
@[simp] theorem Hub.resolveId_frame (h : Hub) (p : Port) (id : Nat) :
    ((h.resolveId p id).1).time = h.time ∧
    ((h.resolveId p id).1).requestedIso = h.requestedIso ∧
    ((h.resolveId p id).1).power = h.power ∧
    ((h.resolveId p id).1).cell = h.cell ∧
    ((h.resolveId p id).1).link = h.link ∧
    ((h.resolveId p id).1).cable = h.cable ∧
    ((h.resolveId p id).1).cables = h.cables ∧
    ((h.resolveId p id).1).lens = h.lens ∧
    ((h.resolveId p id).1).encoder = h.encoder ∧
    ((h.resolveId p id).1).lines = h.lines ∧
    ((h.resolveId p id).1).frames = h.frames ∧
    ((h.resolveId p id).1).view = h.view ∧
    ((h.resolveId p id).1).pipe = h.pipe ∧
    ((h.resolveId p id).1).trunk = h.trunk ∧
    ((h.resolveId p id).1).mgmt = h.mgmt ∧
    ((h.resolveId p id).1).freeCount = h.freeCount := by
  refine ⟨?_, ?_, ?_, ?_, ?_, ?_, ?_, ?_, ?_, ?_, ?_, ?_, ?_, ?_, ?_, ?_⟩ <;> (simp only [Hub.resolveId]; (repeat' split) <;> simp)

/-- A drop at the Trigger Unit changes the trigger record, the flags and the reply queue alone (R119). -/
@[simp] theorem Hub.dropTrigger_frame (h : Hub) (p : Port) :
    (h.dropTrigger p).time = h.time ∧
    (h.dropTrigger p).requestedIso = h.requestedIso ∧
    (h.dropTrigger p).power = h.power ∧
    (h.dropTrigger p).cell = h.cell ∧
    (h.dropTrigger p).link = h.link ∧
    (h.dropTrigger p).cable = h.cable ∧
    (h.dropTrigger p).cables = h.cables ∧
    (h.dropTrigger p).lens = h.lens ∧
    (h.dropTrigger p).encoder = h.encoder ∧
    (h.dropTrigger p).lines = h.lines ∧
    (h.dropTrigger p).frames = h.frames ∧
    (h.dropTrigger p).view = h.view ∧
    (h.dropTrigger p).pipe = h.pipe ∧
    (h.dropTrigger p).freeCount = h.freeCount ∧
    (h.dropTrigger p).mgmt.requests = h.mgmt.requests ∧
    (h.dropTrigger p).mgmt.taking = h.mgmt.taking ∧
    (h.dropTrigger p).mgmt.replyOwed = h.mgmt.replyOwed ∧
    (h.dropTrigger p).mgmt.enables = h.mgmt.enables ∧
    (h.dropTrigger p).mgmt.overflow = h.mgmt.overflow ∧
    (h.dropTrigger p).trunk.up = h.trunk.up ∧
    (h.dropTrigger p).trunk.lane = h.trunk.lane ∧
    (h.dropTrigger p).trunk.grant = h.trunk.grant ∧
    (h.dropTrigger p).trunk.lowShare = h.trunk.lowShare ∧
    (h.dropTrigger p).trunk.replyGroup = h.trunk.replyGroup ∧
    (h.dropTrigger p).trunk.replyBurst = h.trunk.replyBurst ∧
    (h.dropTrigger p).trunk.bursts = h.trunk.bursts ∧
    (h.dropTrigger p).trunk.sent = h.trunk.sent ∧
    (h.dropTrigger p).trunk.losses = h.trunk.losses ∧
    (h.dropTrigger p).trunk.images = h.trunk.images := by
  refine ⟨?_, ?_, ?_, ?_, ?_, ?_, ?_, ?_, ?_, ?_, ?_, ?_, ?_, ?_, ?_, ?_, ?_, ?_, ?_, ?_, ?_, ?_, ?_, ?_, ?_, ?_, ?_, ?_, ?_⟩ <;> (simp only [Hub.dropTrigger]; (repeat' split) <;> simp)

/-- The report of the last axis reaches the allowance and the Trigger Unit alone (R86). -/
@[simp] theorem Hub.reportIdle_frame (h : Hub) (p : Port) :
    (h.reportIdle p).time = h.time ∧
    (h.reportIdle p).requestedIso = h.requestedIso ∧
    (h.reportIdle p).cell = h.cell ∧
    (h.reportIdle p).cable = h.cable ∧
    (h.reportIdle p).cables = h.cables ∧
    (h.reportIdle p).lens = h.lens ∧
    (h.reportIdle p).encoder = h.encoder ∧
    (h.reportIdle p).lines = h.lines ∧
    (h.reportIdle p).frames = h.frames ∧
    (h.reportIdle p).view = h.view ∧
    (h.reportIdle p).pipe = h.pipe ∧
    (h.reportIdle p).freeCount = h.freeCount ∧
    (h.reportIdle p).mgmt.requests = h.mgmt.requests ∧
    (h.reportIdle p).mgmt.taking = h.mgmt.taking ∧
    (h.reportIdle p).mgmt.replyOwed = h.mgmt.replyOwed ∧
    (h.reportIdle p).mgmt.enables = h.mgmt.enables ∧
    (h.reportIdle p).mgmt.overflow = h.mgmt.overflow ∧
    (h.reportIdle p).trunk.up = h.trunk.up ∧
    (h.reportIdle p).trunk.lane = h.trunk.lane ∧
    (h.reportIdle p).trunk.grant = h.trunk.grant ∧
    (h.reportIdle p).trunk.lowShare = h.trunk.lowShare ∧
    (h.reportIdle p).trunk.replyGroup = h.trunk.replyGroup ∧
    (h.reportIdle p).trunk.replyBurst = h.trunk.replyBurst ∧
    (h.reportIdle p).trunk.bursts = h.trunk.bursts ∧
    (h.reportIdle p).trunk.sent = h.trunk.sent ∧
    (h.reportIdle p).trunk.losses = h.trunk.losses ∧
    (h.reportIdle p).trunk.images = h.trunk.images := by
  refine ⟨?_, ?_, ?_, ?_, ?_, ?_, ?_, ?_, ?_, ?_, ?_, ?_, ?_, ?_, ?_, ?_, ?_, ?_, ?_, ?_, ?_, ?_, ?_, ?_, ?_, ?_, ?_⟩ <;> (simp only [Hub.reportIdle]; (repeat' split) <;> simp)

/-- An allowance is the Power Controller's alone (R42). -/
@[simp] theorem Hub.holdAllowance_frame (h : Hub) (p : Port) :
    (h.holdAllowance p).time = h.time ∧
    (h.holdAllowance p).requestedIso = h.requestedIso ∧
    (h.holdAllowance p).cell = h.cell ∧
    (h.holdAllowance p).link = h.link ∧
    (h.holdAllowance p).cable = h.cable ∧
    (h.holdAllowance p).cables = h.cables ∧
    (h.holdAllowance p).lens = h.lens ∧
    (h.holdAllowance p).encoder = h.encoder ∧
    (h.holdAllowance p).lines = h.lines ∧
    (h.holdAllowance p).trig = h.trig ∧
    (h.holdAllowance p).frames = h.frames ∧
    (h.holdAllowance p).view = h.view ∧
    (h.holdAllowance p).pipe = h.pipe ∧
    (h.holdAllowance p).trunk = h.trunk ∧
    (h.holdAllowance p).mgmt = h.mgmt ∧
    (h.holdAllowance p).freeCount = h.freeCount := by
  refine ⟨?_, ?_, ?_, ?_, ?_, ?_, ?_, ?_, ?_, ?_, ?_, ?_, ?_, ?_, ?_, ?_⟩ <;> (simp only [Hub.holdAllowance]; (repeat' split) <;> simp)

/-- A lens command reaches the allowance and the command queue; a refusal there, the report of the last axis (R87). -/
@[simp] theorem Hub.lensCommand_frame (h : Hub) (p : Port) (c : Command) :
    ((h.lensCommand p c).1).time = h.time ∧
    ((h.lensCommand p c).1).requestedIso = h.requestedIso ∧
    ((h.lensCommand p c).1).cell = h.cell ∧
    ((h.lensCommand p c).1).cable = h.cable ∧
    ((h.lensCommand p c).1).cables = h.cables ∧
    ((h.lensCommand p c).1).lens = h.lens ∧
    ((h.lensCommand p c).1).encoder = h.encoder ∧
    ((h.lensCommand p c).1).lines = h.lines ∧
    ((h.lensCommand p c).1).frames = h.frames ∧
    ((h.lensCommand p c).1).view = h.view ∧
    ((h.lensCommand p c).1).pipe = h.pipe ∧
    ((h.lensCommand p c).1).freeCount = h.freeCount ∧
    ((h.lensCommand p c).1).mgmt.requests = h.mgmt.requests ∧
    ((h.lensCommand p c).1).mgmt.taking = h.mgmt.taking ∧
    ((h.lensCommand p c).1).mgmt.replyOwed = h.mgmt.replyOwed ∧
    ((h.lensCommand p c).1).mgmt.enables = h.mgmt.enables ∧
    ((h.lensCommand p c).1).mgmt.overflow = h.mgmt.overflow ∧
    ((h.lensCommand p c).1).trunk.up = h.trunk.up ∧
    ((h.lensCommand p c).1).trunk.lane = h.trunk.lane ∧
    ((h.lensCommand p c).1).trunk.grant = h.trunk.grant ∧
    ((h.lensCommand p c).1).trunk.lowShare = h.trunk.lowShare ∧
    ((h.lensCommand p c).1).trunk.replyGroup = h.trunk.replyGroup ∧
    ((h.lensCommand p c).1).trunk.replyBurst = h.trunk.replyBurst ∧
    ((h.lensCommand p c).1).trunk.bursts = h.trunk.bursts ∧
    ((h.lensCommand p c).1).trunk.sent = h.trunk.sent ∧
    ((h.lensCommand p c).1).trunk.losses = h.trunk.losses ∧
    ((h.lensCommand p c).1).trunk.images = h.trunk.images := by
  refine ⟨?_, ?_, ?_, ?_, ?_, ?_, ?_, ?_, ?_, ?_, ?_, ?_, ?_, ?_, ?_, ?_, ?_, ?_, ?_, ?_, ?_, ?_, ?_, ?_, ?_, ?_, ?_⟩ <;> (simp only [Hub.lensCommand]; (repeat' split) <;> simp)

/-- A completion reaches the axis, and through it the report of the last axis (R93). -/
@[simp] theorem Hub.completeLens_frame (h : Hub) (p : Port) (x : AxisId) (how : Completion) :
    (h.completeLens p x how).time = h.time ∧
    (h.completeLens p x how).requestedIso = h.requestedIso ∧
    (h.completeLens p x how).cell = h.cell ∧
    (h.completeLens p x how).cable = h.cable ∧
    (h.completeLens p x how).cables = h.cables ∧
    (h.completeLens p x how).encoder = h.encoder ∧
    (h.completeLens p x how).lines = h.lines ∧
    (h.completeLens p x how).frames = h.frames ∧
    (h.completeLens p x how).view = h.view ∧
    (h.completeLens p x how).pipe = h.pipe ∧
    (h.completeLens p x how).freeCount = h.freeCount ∧
    (h.completeLens p x how).mgmt.requests = h.mgmt.requests ∧
    (h.completeLens p x how).mgmt.taking = h.mgmt.taking ∧
    (h.completeLens p x how).mgmt.replyOwed = h.mgmt.replyOwed ∧
    (h.completeLens p x how).mgmt.enables = h.mgmt.enables ∧
    (h.completeLens p x how).mgmt.overflow = h.mgmt.overflow ∧
    (h.completeLens p x how).trunk.up = h.trunk.up ∧
    (h.completeLens p x how).trunk.lane = h.trunk.lane ∧
    (h.completeLens p x how).trunk.grant = h.trunk.grant ∧
    (h.completeLens p x how).trunk.lowShare = h.trunk.lowShare ∧
    (h.completeLens p x how).trunk.replyGroup = h.trunk.replyGroup ∧
    (h.completeLens p x how).trunk.replyBurst = h.trunk.replyBurst ∧
    (h.completeLens p x how).trunk.bursts = h.trunk.bursts ∧
    (h.completeLens p x how).trunk.sent = h.trunk.sent ∧
    (h.completeLens p x how).trunk.losses = h.trunk.losses ∧
    (h.completeLens p x how).trunk.images = h.trunk.images := by
  unfold Hub.completeLens; dsimp only
  split_ifs <;> simp [Hub.modAxis]

/-- A report reaches the axis, and through it the report of the last axis (R94, R95). -/
@[simp] theorem Hub.lensReport_frame (h : Hub) (p : Port) (axis position kind : Nat) :
    (h.lensReport p axis position kind).time = h.time ∧
    (h.lensReport p axis position kind).requestedIso = h.requestedIso ∧
    (h.lensReport p axis position kind).cell = h.cell ∧
    (h.lensReport p axis position kind).cable = h.cable ∧
    (h.lensReport p axis position kind).cables = h.cables ∧
    (h.lensReport p axis position kind).encoder = h.encoder ∧
    (h.lensReport p axis position kind).lines = h.lines ∧
    (h.lensReport p axis position kind).frames = h.frames ∧
    (h.lensReport p axis position kind).view = h.view ∧
    (h.lensReport p axis position kind).pipe = h.pipe ∧
    (h.lensReport p axis position kind).freeCount = h.freeCount ∧
    (h.lensReport p axis position kind).mgmt.requests = h.mgmt.requests ∧
    (h.lensReport p axis position kind).mgmt.taking = h.mgmt.taking ∧
    (h.lensReport p axis position kind).mgmt.replyOwed = h.mgmt.replyOwed ∧
    (h.lensReport p axis position kind).mgmt.enables = h.mgmt.enables ∧
    (h.lensReport p axis position kind).mgmt.overflow = h.mgmt.overflow ∧
    (h.lensReport p axis position kind).trunk.up = h.trunk.up ∧
    (h.lensReport p axis position kind).trunk.lane = h.trunk.lane ∧
    (h.lensReport p axis position kind).trunk.grant = h.trunk.grant ∧
    (h.lensReport p axis position kind).trunk.lowShare = h.trunk.lowShare ∧
    (h.lensReport p axis position kind).trunk.replyGroup = h.trunk.replyGroup ∧
    (h.lensReport p axis position kind).trunk.replyBurst = h.trunk.replyBurst ∧
    (h.lensReport p axis position kind).trunk.bursts = h.trunk.bursts ∧
    (h.lensReport p axis position kind).trunk.sent = h.trunk.sent ∧
    (h.lensReport p axis position kind).trunk.losses = h.trunk.losses ∧
    (h.lensReport p axis position kind).trunk.images = h.trunk.images := by
  refine ⟨?_, ?_, ?_, ?_, ?_, ?_, ?_, ?_, ?_, ?_, ?_, ?_, ?_, ?_, ?_, ?_, ?_, ?_, ?_, ?_, ?_, ?_, ?_, ?_, ?_, ?_⟩ <;> (simp only [Hub.lensReport, Hub.modAxis, Hub.ignoreReport]; (repeat' split) <;> simp)

/-- A drop at the Lens Controller (R97). -/
@[simp] theorem Hub.dropLens_frame (h : Hub) (p : Port) :
    (h.dropLens p).time = h.time ∧
    (h.dropLens p).requestedIso = h.requestedIso ∧
    (h.dropLens p).cell = h.cell ∧
    (h.dropLens p).cable = h.cable ∧
    (h.dropLens p).cables = h.cables ∧
    (h.dropLens p).encoder = h.encoder ∧
    (h.dropLens p).lines = h.lines ∧
    (h.dropLens p).frames = h.frames ∧
    (h.dropLens p).view = h.view ∧
    (h.dropLens p).pipe = h.pipe ∧
    (h.dropLens p).freeCount = h.freeCount ∧
    (h.dropLens p).mgmt.requests = h.mgmt.requests ∧
    (h.dropLens p).mgmt.taking = h.mgmt.taking ∧
    (h.dropLens p).mgmt.replyOwed = h.mgmt.replyOwed ∧
    (h.dropLens p).mgmt.enables = h.mgmt.enables ∧
    (h.dropLens p).mgmt.overflow = h.mgmt.overflow ∧
    (h.dropLens p).trunk.up = h.trunk.up ∧
    (h.dropLens p).trunk.lane = h.trunk.lane ∧
    (h.dropLens p).trunk.grant = h.trunk.grant ∧
    (h.dropLens p).trunk.lowShare = h.trunk.lowShare ∧
    (h.dropLens p).trunk.replyGroup = h.trunk.replyGroup ∧
    (h.dropLens p).trunk.replyBurst = h.trunk.replyBurst ∧
    (h.dropLens p).trunk.bursts = h.trunk.bursts ∧
    (h.dropLens p).trunk.sent = h.trunk.sent ∧
    (h.dropLens p).trunk.losses = h.trunk.losses ∧
    (h.dropLens p).trunk.images = h.trunk.images := by
  refine ⟨?_, ?_, ?_, ?_, ?_, ?_, ?_, ?_, ?_, ?_, ?_, ?_, ?_, ?_, ?_, ?_, ?_, ?_, ?_, ?_, ?_, ?_, ?_, ?_, ?_, ?_⟩ <;> (simp only [Hub.dropLens]; (repeat' split) <;> simp)

/-- A departure from ON at the Lens Controller (R98). -/
@[simp] theorem Hub.lensPowerLost_frame (h : Hub) (p : Port) :
    (h.lensPowerLost p).time = h.time ∧
    (h.lensPowerLost p).requestedIso = h.requestedIso ∧
    (h.lensPowerLost p).cell = h.cell ∧
    (h.lensPowerLost p).cable = h.cable ∧
    (h.lensPowerLost p).cables = h.cables ∧
    (h.lensPowerLost p).encoder = h.encoder ∧
    (h.lensPowerLost p).lines = h.lines ∧
    (h.lensPowerLost p).frames = h.frames ∧
    (h.lensPowerLost p).view = h.view ∧
    (h.lensPowerLost p).pipe = h.pipe ∧
    (h.lensPowerLost p).freeCount = h.freeCount ∧
    (h.lensPowerLost p).mgmt.requests = h.mgmt.requests ∧
    (h.lensPowerLost p).mgmt.taking = h.mgmt.taking ∧
    (h.lensPowerLost p).mgmt.replyOwed = h.mgmt.replyOwed ∧
    (h.lensPowerLost p).mgmt.enables = h.mgmt.enables ∧
    (h.lensPowerLost p).mgmt.overflow = h.mgmt.overflow ∧
    (h.lensPowerLost p).trunk.up = h.trunk.up ∧
    (h.lensPowerLost p).trunk.lane = h.trunk.lane ∧
    (h.lensPowerLost p).trunk.grant = h.trunk.grant ∧
    (h.lensPowerLost p).trunk.lowShare = h.trunk.lowShare ∧
    (h.lensPowerLost p).trunk.replyGroup = h.trunk.replyGroup ∧
    (h.lensPowerLost p).trunk.replyBurst = h.trunk.replyBurst ∧
    (h.lensPowerLost p).trunk.bursts = h.trunk.bursts ∧
    (h.lensPowerLost p).trunk.sent = h.trunk.sent ∧
    (h.lensPowerLost p).trunk.losses = h.trunk.losses ∧
    (h.lensPowerLost p).trunk.images = h.trunk.images := by
  refine ⟨?_, ?_, ?_, ?_, ?_, ?_, ?_, ?_, ?_, ?_, ?_, ?_, ?_, ?_, ?_, ?_, ?_, ?_, ?_, ?_, ?_, ?_, ?_, ?_, ?_, ?_⟩ <;> (simp only [Hub.lensPowerLost]; (repeat' split) <;> simp)

/-- Admission changes the frame memory's records, the flags and the reply queue alone (R125). -/
@[simp] theorem Hub.admit_frame (h : Hub) (p : Port) (number w ht id : Nat) (res : Resolution) :
    (h.admitFrame p number w ht id res).time = h.time ∧
    (h.admitFrame p number w ht id res).requestedIso = h.requestedIso ∧
    (h.admitFrame p number w ht id res).power = h.power ∧
    (h.admitFrame p number w ht id res).cell = h.cell ∧
    (h.admitFrame p number w ht id res).link = h.link ∧
    (h.admitFrame p number w ht id res).cable = h.cable ∧
    (h.admitFrame p number w ht id res).cables = h.cables ∧
    (h.admitFrame p number w ht id res).lens = h.lens ∧
    (h.admitFrame p number w ht id res).encoder = h.encoder ∧
    (h.admitFrame p number w ht id res).lines = h.lines ∧
    (h.admitFrame p number w ht id res).trig = h.trig ∧
    (h.admitFrame p number w ht id res).view = h.view ∧
    (h.admitFrame p number w ht id res).pipe = h.pipe ∧
    (h.admitFrame p number w ht id res).freeCount = h.freeCount ∧
    (h.admitFrame p number w ht id res).mgmt.requests = h.mgmt.requests ∧
    (h.admitFrame p number w ht id res).mgmt.taking = h.mgmt.taking ∧
    (h.admitFrame p number w ht id res).mgmt.replyOwed = h.mgmt.replyOwed ∧
    (h.admitFrame p number w ht id res).mgmt.enables = h.mgmt.enables ∧
    (h.admitFrame p number w ht id res).mgmt.overflow = h.mgmt.overflow ∧
    (h.admitFrame p number w ht id res).trunk.up = h.trunk.up ∧
    (h.admitFrame p number w ht id res).trunk.lane = h.trunk.lane ∧
    (h.admitFrame p number w ht id res).trunk.grant = h.trunk.grant ∧
    (h.admitFrame p number w ht id res).trunk.lowShare = h.trunk.lowShare ∧
    (h.admitFrame p number w ht id res).trunk.replyGroup = h.trunk.replyGroup ∧
    (h.admitFrame p number w ht id res).trunk.replyBurst = h.trunk.replyBurst ∧
    (h.admitFrame p number w ht id res).trunk.bursts = h.trunk.bursts ∧
    (h.admitFrame p number w ht id res).trunk.sent = h.trunk.sent ∧
    (h.admitFrame p number w ht id res).trunk.losses = h.trunk.losses ∧
    (h.admitFrame p number w ht id res).trunk.images = h.trunk.images := by
  unfold Hub.admitFrame; dsimp only
  split <;> simp

/-- A degraded link marks a frame record alone (R128). -/
@[simp] theorem Hub.degradeFilling_frame (h : Hub) (p : Port) :
    (h.degradeFilling p).time = h.time ∧
    (h.degradeFilling p).requestedIso = h.requestedIso ∧
    (h.degradeFilling p).power = h.power ∧
    (h.degradeFilling p).cell = h.cell ∧
    (h.degradeFilling p).link = h.link ∧
    (h.degradeFilling p).cable = h.cable ∧
    (h.degradeFilling p).cables = h.cables ∧
    (h.degradeFilling p).lens = h.lens ∧
    (h.degradeFilling p).encoder = h.encoder ∧
    (h.degradeFilling p).lines = h.lines ∧
    (h.degradeFilling p).trig = h.trig ∧
    (h.degradeFilling p).view = h.view ∧
    (h.degradeFilling p).pipe = h.pipe ∧
    (h.degradeFilling p).trunk = h.trunk ∧
    (h.degradeFilling p).mgmt = h.mgmt ∧
    (h.degradeFilling p).freeCount = h.freeCount := by
  refine ⟨?_, ?_, ?_, ?_, ?_, ?_, ?_, ?_, ?_, ?_, ?_, ?_, ?_, ?_, ?_, ?_⟩ <;> (simp only [Hub.degradeFilling]; (repeat' split) <;> simp)

/-- A drop at frame memory (R131). -/
@[simp] theorem Hub.dropFrame_frame (h : Hub) (p : Port) :
    (h.dropFrame p).time = h.time ∧
    (h.dropFrame p).requestedIso = h.requestedIso ∧
    (h.dropFrame p).power = h.power ∧
    (h.dropFrame p).cell = h.cell ∧
    (h.dropFrame p).link = h.link ∧
    (h.dropFrame p).cable = h.cable ∧
    (h.dropFrame p).cables = h.cables ∧
    (h.dropFrame p).lens = h.lens ∧
    (h.dropFrame p).encoder = h.encoder ∧
    (h.dropFrame p).lines = h.lines ∧
    (h.dropFrame p).trig = h.trig ∧
    (h.dropFrame p).view = h.view ∧
    (h.dropFrame p).pipe = h.pipe ∧
    (h.dropFrame p).freeCount = h.freeCount ∧
    (h.dropFrame p).mgmt.requests = h.mgmt.requests ∧
    (h.dropFrame p).mgmt.taking = h.mgmt.taking ∧
    (h.dropFrame p).mgmt.replyOwed = h.mgmt.replyOwed ∧
    (h.dropFrame p).mgmt.enables = h.mgmt.enables ∧
    (h.dropFrame p).mgmt.overflow = h.mgmt.overflow ∧
    (h.dropFrame p).trunk.up = h.trunk.up ∧
    (h.dropFrame p).trunk.lane = h.trunk.lane ∧
    (h.dropFrame p).trunk.grant = h.trunk.grant ∧
    (h.dropFrame p).trunk.lowShare = h.trunk.lowShare ∧
    (h.dropFrame p).trunk.replyGroup = h.trunk.replyGroup ∧
    (h.dropFrame p).trunk.replyBurst = h.trunk.replyBurst ∧
    (h.dropFrame p).trunk.bursts = h.trunk.bursts ∧
    (h.dropFrame p).trunk.sent = h.trunk.sent ∧
    (h.dropFrame p).trunk.losses = h.trunk.losses ∧
    (h.dropFrame p).trunk.images = h.trunk.images := by
  refine ⟨?_, ?_, ?_, ?_, ?_, ?_, ?_, ?_, ?_, ?_, ?_, ?_, ?_, ?_, ?_, ?_, ?_, ?_, ?_, ?_, ?_, ?_, ?_, ?_, ?_, ?_, ?_, ?_, ?_⟩ <;> (simp only [Hub.dropFrame]; (repeat' split) <;> simp)

/-- A link error changes the link, the frame record it marks, the flags and the reply queue alone (R24, R25). -/
@[simp] theorem Hub.linkError_frame (h : Hub) (p : Port) :
    (h.linkError p).time = h.time ∧
    (h.linkError p).requestedIso = h.requestedIso ∧
    (h.linkError p).power = h.power ∧
    (h.linkError p).cell = h.cell ∧
    (h.linkError p).cable = h.cable ∧
    (h.linkError p).cables = h.cables ∧
    (h.linkError p).lens = h.lens ∧
    (h.linkError p).encoder = h.encoder ∧
    (h.linkError p).lines = h.lines ∧
    (h.linkError p).trig = h.trig ∧
    (h.linkError p).view = h.view ∧
    (h.linkError p).pipe = h.pipe ∧
    (h.linkError p).freeCount = h.freeCount ∧
    (h.linkError p).mgmt.requests = h.mgmt.requests ∧
    (h.linkError p).mgmt.taking = h.mgmt.taking ∧
    (h.linkError p).mgmt.replyOwed = h.mgmt.replyOwed ∧
    (h.linkError p).mgmt.enables = h.mgmt.enables ∧
    (h.linkError p).mgmt.overflow = h.mgmt.overflow ∧
    (h.linkError p).trunk.up = h.trunk.up ∧
    (h.linkError p).trunk.lane = h.trunk.lane ∧
    (h.linkError p).trunk.grant = h.trunk.grant ∧
    (h.linkError p).trunk.lowShare = h.trunk.lowShare ∧
    (h.linkError p).trunk.replyGroup = h.trunk.replyGroup ∧
    (h.linkError p).trunk.replyBurst = h.trunk.replyBurst ∧
    (h.linkError p).trunk.bursts = h.trunk.bursts ∧
    (h.linkError p).trunk.sent = h.trunk.sent ∧
    (h.linkError p).trunk.losses = h.trunk.losses ∧
    (h.linkError p).trunk.images = h.trunk.images := by
  refine ⟨?_, ?_, ?_, ?_, ?_, ?_, ?_, ?_, ?_, ?_, ?_, ?_, ?_, ?_, ?_, ?_, ?_, ?_, ?_, ?_, ?_, ?_, ?_, ?_, ?_, ?_, ?_, ?_⟩ <;> (simp only [Hub.linkError]; (repeat' split) <;> simp)

/-- A completion reaches a slot or an axis (R29, R30). -/
@[simp] theorem Hub.completeCommand_frame (h : Hub) (p : Port) (c : Command) (how : Completion) :
    (h.completeCommand p c how).time = h.time ∧
    (h.completeCommand p c how).requestedIso = h.requestedIso ∧
    (h.completeCommand p c how).cell = h.cell ∧
    (h.completeCommand p c how).cable = h.cable ∧
    (h.completeCommand p c how).cables = h.cables ∧
    (h.completeCommand p c how).encoder = h.encoder ∧
    (h.completeCommand p c how).lines = h.lines ∧
    (h.completeCommand p c how).frames = h.frames ∧
    (h.completeCommand p c how).view = h.view ∧
    (h.completeCommand p c how).pipe = h.pipe ∧
    (h.completeCommand p c how).freeCount = h.freeCount ∧
    (h.completeCommand p c how).mgmt.requests = h.mgmt.requests ∧
    (h.completeCommand p c how).mgmt.taking = h.mgmt.taking ∧
    (h.completeCommand p c how).mgmt.replyOwed = h.mgmt.replyOwed ∧
    (h.completeCommand p c how).mgmt.enables = h.mgmt.enables ∧
    (h.completeCommand p c how).mgmt.overflow = h.mgmt.overflow ∧
    (h.completeCommand p c how).trunk.up = h.trunk.up ∧
    (h.completeCommand p c how).trunk.lane = h.trunk.lane ∧
    (h.completeCommand p c how).trunk.grant = h.trunk.grant ∧
    (h.completeCommand p c how).trunk.lowShare = h.trunk.lowShare ∧
    (h.completeCommand p c how).trunk.replyGroup = h.trunk.replyGroup ∧
    (h.completeCommand p c how).trunk.replyBurst = h.trunk.replyBurst ∧
    (h.completeCommand p c how).trunk.bursts = h.trunk.bursts ∧
    (h.completeCommand p c how).trunk.sent = h.trunk.sent ∧
    (h.completeCommand p c how).trunk.losses = h.trunk.losses ∧
    (h.completeCommand p c how).trunk.images = h.trunk.images := by
  refine ⟨?_, ?_, ?_, ?_, ?_, ?_, ?_, ?_, ?_, ?_, ?_, ?_, ?_, ?_, ?_, ?_, ?_, ?_, ?_, ?_, ?_, ?_, ?_, ?_, ?_, ?_⟩ <;> (simp only [Hub.completeCommand]; (repeat' split) <;> simp)

/-- Completions of several commands reach slots and axes alone (R22). -/
@[simp] theorem foldl_completeCommand_frame (h : Hub) (p : Port) (l : List Command) (how : Completion) :
    (l.foldl (fun h c => h.completeCommand p c how) h).time = h.time ∧
    (l.foldl (fun h c => h.completeCommand p c how) h).requestedIso = h.requestedIso ∧
    (l.foldl (fun h c => h.completeCommand p c how) h).cell = h.cell ∧
    (l.foldl (fun h c => h.completeCommand p c how) h).cable = h.cable ∧
    (l.foldl (fun h c => h.completeCommand p c how) h).cables = h.cables ∧
    (l.foldl (fun h c => h.completeCommand p c how) h).encoder = h.encoder ∧
    (l.foldl (fun h c => h.completeCommand p c how) h).lines = h.lines ∧
    (l.foldl (fun h c => h.completeCommand p c how) h).frames = h.frames ∧
    (l.foldl (fun h c => h.completeCommand p c how) h).view = h.view ∧
    (l.foldl (fun h c => h.completeCommand p c how) h).pipe = h.pipe ∧
    (l.foldl (fun h c => h.completeCommand p c how) h).freeCount = h.freeCount ∧
    (l.foldl (fun h c => h.completeCommand p c how) h).mgmt.requests = h.mgmt.requests ∧
    (l.foldl (fun h c => h.completeCommand p c how) h).mgmt.taking = h.mgmt.taking ∧
    (l.foldl (fun h c => h.completeCommand p c how) h).mgmt.replyOwed = h.mgmt.replyOwed ∧
    (l.foldl (fun h c => h.completeCommand p c how) h).mgmt.enables = h.mgmt.enables ∧
    (l.foldl (fun h c => h.completeCommand p c how) h).mgmt.overflow = h.mgmt.overflow ∧
    (l.foldl (fun h c => h.completeCommand p c how) h).trunk.up = h.trunk.up ∧
    (l.foldl (fun h c => h.completeCommand p c how) h).trunk.lane = h.trunk.lane ∧
    (l.foldl (fun h c => h.completeCommand p c how) h).trunk.grant = h.trunk.grant ∧
    (l.foldl (fun h c => h.completeCommand p c how) h).trunk.lowShare = h.trunk.lowShare ∧
    (l.foldl (fun h c => h.completeCommand p c how) h).trunk.replyGroup = h.trunk.replyGroup ∧
    (l.foldl (fun h c => h.completeCommand p c how) h).trunk.replyBurst = h.trunk.replyBurst ∧
    (l.foldl (fun h c => h.completeCommand p c how) h).trunk.bursts = h.trunk.bursts ∧
    (l.foldl (fun h c => h.completeCommand p c how) h).trunk.sent = h.trunk.sent ∧
    (l.foldl (fun h c => h.completeCommand p c how) h).trunk.losses = h.trunk.losses ∧
    (l.foldl (fun h c => h.completeCommand p c how) h).trunk.images = h.trunk.images :=
  ⟨foldl_keep (fun h : Hub => h.time) _ (fun _ _ => by simp) _ _, foldl_keep (fun h : Hub => h.requestedIso) _ (fun _ _ => by simp) _ _, foldl_keep (fun h : Hub => h.cell) _ (fun _ _ => by simp) _ _, foldl_keep (fun h : Hub => h.cable) _ (fun _ _ => by simp) _ _, foldl_keep (fun h : Hub => h.cables) _ (fun _ _ => by simp) _ _, foldl_keep (fun h : Hub => h.encoder) _ (fun _ _ => by simp) _ _, foldl_keep (fun h : Hub => h.lines) _ (fun _ _ => by simp) _ _, foldl_keep (fun h : Hub => h.frames) _ (fun _ _ => by simp) _ _, foldl_keep (fun h : Hub => h.view) _ (fun _ _ => by simp) _ _, foldl_keep (fun h : Hub => h.pipe) _ (fun _ _ => by simp) _ _, foldl_keep (fun h : Hub => h.freeCount) _ (fun _ _ => by simp) _ _, foldl_keep (fun h : Hub => h.mgmt.requests) _ (fun _ _ => by simp) _ _, foldl_keep (fun h : Hub => h.mgmt.taking) _ (fun _ _ => by simp) _ _, foldl_keep (fun h : Hub => h.mgmt.replyOwed) _ (fun _ _ => by simp) _ _, foldl_keep (fun h : Hub => h.mgmt.enables) _ (fun _ _ => by simp) _ _, foldl_keep (fun h : Hub => h.mgmt.overflow) _ (fun _ _ => by simp) _ _, foldl_keep (fun h : Hub => h.trunk.up) _ (fun _ _ => by simp) _ _, foldl_keep (fun h : Hub => h.trunk.lane) _ (fun _ _ => by simp) _ _, foldl_keep (fun h : Hub => h.trunk.grant) _ (fun _ _ => by simp) _ _, foldl_keep (fun h : Hub => h.trunk.lowShare) _ (fun _ _ => by simp) _ _, foldl_keep (fun h : Hub => h.trunk.replyGroup) _ (fun _ _ => by simp) _ _, foldl_keep (fun h : Hub => h.trunk.replyBurst) _ (fun _ _ => by simp) _ _, foldl_keep (fun h : Hub => h.trunk.bursts) _ (fun _ _ => by simp) _ _, foldl_keep (fun h : Hub => h.trunk.sent) _ (fun _ _ => by simp) _ _, foldl_keep (fun h : Hub => h.trunk.losses) _ (fun _ _ => by simp) _ _, foldl_keep (fun h : Hub => h.trunk.images) _ (fun _ _ => by simp) _ _⟩

/-- A link drop reaches the link, its lens, its trigger, its frames, the slots, the allowance, the flags and the reply queue alone (R22). -/
@[simp] theorem Hub.drop_frame (h : Hub) (p : Port) (cause : DropCause) (enter : LinkCtl → LinkCtl) :
    (h.drop p cause enter).time = h.time ∧
    (h.drop p cause enter).requestedIso = h.requestedIso ∧
    (h.drop p cause enter).cell = h.cell ∧
    (h.drop p cause enter).cable = h.cable ∧
    (h.drop p cause enter).cables = h.cables ∧
    (h.drop p cause enter).encoder = h.encoder ∧
    (h.drop p cause enter).lines = h.lines ∧
    (h.drop p cause enter).view = h.view ∧
    (h.drop p cause enter).pipe = h.pipe ∧
    (h.drop p cause enter).freeCount = h.freeCount ∧
    (h.drop p cause enter).mgmt.requests = h.mgmt.requests ∧
    (h.drop p cause enter).mgmt.taking = h.mgmt.taking ∧
    (h.drop p cause enter).mgmt.replyOwed = h.mgmt.replyOwed ∧
    (h.drop p cause enter).mgmt.enables = h.mgmt.enables ∧
    (h.drop p cause enter).mgmt.overflow = h.mgmt.overflow ∧
    (h.drop p cause enter).trunk.up = h.trunk.up ∧
    (h.drop p cause enter).trunk.lane = h.trunk.lane ∧
    (h.drop p cause enter).trunk.grant = h.trunk.grant ∧
    (h.drop p cause enter).trunk.lowShare = h.trunk.lowShare ∧
    (h.drop p cause enter).trunk.replyGroup = h.trunk.replyGroup ∧
    (h.drop p cause enter).trunk.replyBurst = h.trunk.replyBurst ∧
    (h.drop p cause enter).trunk.bursts = h.trunk.bursts ∧
    (h.drop p cause enter).trunk.sent = h.trunk.sent ∧
    (h.drop p cause enter).trunk.losses = h.trunk.losses ∧
    (h.drop p cause enter).trunk.images = h.trunk.images := by
  unfold Hub.drop
  simp

/-- A departure from ON reaches what a link drop reaches (R20, R50). -/
@[simp] theorem Hub.linkPowerLost_frame (h : Hub) (p : Port) :
    (h.linkPowerLost p).time = h.time ∧
    (h.linkPowerLost p).requestedIso = h.requestedIso ∧
    (h.linkPowerLost p).cell = h.cell ∧
    (h.linkPowerLost p).cable = h.cable ∧
    (h.linkPowerLost p).cables = h.cables ∧
    (h.linkPowerLost p).encoder = h.encoder ∧
    (h.linkPowerLost p).lines = h.lines ∧
    (h.linkPowerLost p).view = h.view ∧
    (h.linkPowerLost p).pipe = h.pipe ∧
    (h.linkPowerLost p).freeCount = h.freeCount ∧
    (h.linkPowerLost p).mgmt.requests = h.mgmt.requests ∧
    (h.linkPowerLost p).mgmt.taking = h.mgmt.taking ∧
    (h.linkPowerLost p).mgmt.replyOwed = h.mgmt.replyOwed ∧
    (h.linkPowerLost p).mgmt.enables = h.mgmt.enables ∧
    (h.linkPowerLost p).mgmt.overflow = h.mgmt.overflow ∧
    (h.linkPowerLost p).trunk.up = h.trunk.up ∧
    (h.linkPowerLost p).trunk.lane = h.trunk.lane ∧
    (h.linkPowerLost p).trunk.grant = h.trunk.grant ∧
    (h.linkPowerLost p).trunk.lowShare = h.trunk.lowShare ∧
    (h.linkPowerLost p).trunk.replyGroup = h.trunk.replyGroup ∧
    (h.linkPowerLost p).trunk.replyBurst = h.trunk.replyBurst ∧
    (h.linkPowerLost p).trunk.bursts = h.trunk.bursts ∧
    (h.linkPowerLost p).trunk.sent = h.trunk.sent ∧
    (h.linkPowerLost p).trunk.losses = h.trunk.losses ∧
    (h.linkPowerLost p).trunk.images = h.trunk.images := by
  unfold Hub.linkPowerLost; (try dsimp only)
  (repeat' split) <;> simp

/-- A departure from ON reaches what a link drop reaches (R20, R50). -/
@[simp] theorem Hub.leftOn_frame (h : Hub) (p : Port) :
    (h.leftOn p).time = h.time ∧
    (h.leftOn p).requestedIso = h.requestedIso ∧
    (h.leftOn p).cell = h.cell ∧
    (h.leftOn p).cable = h.cable ∧
    (h.leftOn p).cables = h.cables ∧
    (h.leftOn p).encoder = h.encoder ∧
    (h.leftOn p).lines = h.lines ∧
    (h.leftOn p).view = h.view ∧
    (h.leftOn p).pipe = h.pipe ∧
    (h.leftOn p).freeCount = h.freeCount ∧
    (h.leftOn p).mgmt.requests = h.mgmt.requests ∧
    (h.leftOn p).mgmt.taking = h.mgmt.taking ∧
    (h.leftOn p).mgmt.replyOwed = h.mgmt.replyOwed ∧
    (h.leftOn p).mgmt.enables = h.mgmt.enables ∧
    (h.leftOn p).mgmt.overflow = h.mgmt.overflow ∧
    (h.leftOn p).trunk.up = h.trunk.up ∧
    (h.leftOn p).trunk.lane = h.trunk.lane ∧
    (h.leftOn p).trunk.grant = h.trunk.grant ∧
    (h.leftOn p).trunk.lowShare = h.trunk.lowShare ∧
    (h.leftOn p).trunk.replyGroup = h.trunk.replyGroup ∧
    (h.leftOn p).trunk.replyBurst = h.trunk.replyBurst ∧
    (h.leftOn p).trunk.bursts = h.trunk.bursts ∧
    (h.leftOn p).trunk.sent = h.trunk.sent ∧
    (h.leftOn p).trunk.losses = h.trunk.losses ∧
    (h.leftOn p).trunk.images = h.trunk.images := by
  unfold Hub.leftOn; (try dsimp only)
  (repeat' split) <;> simp

/-- A port turned off reaches what a link drop reaches (R9, R50). -/
@[simp] theorem Hub.turnOff_frame (h : Hub) (p : Port) (cause : OffCause) (part : BitVec 16) :
    (h.turnOff p cause part).time = h.time ∧
    (h.turnOff p cause part).requestedIso = h.requestedIso ∧
    (h.turnOff p cause part).cell = h.cell ∧
    (h.turnOff p cause part).cable = h.cable ∧
    (h.turnOff p cause part).cables = h.cables ∧
    (h.turnOff p cause part).encoder = h.encoder ∧
    (h.turnOff p cause part).lines = h.lines ∧
    (h.turnOff p cause part).view = h.view ∧
    (h.turnOff p cause part).pipe = h.pipe ∧
    (h.turnOff p cause part).freeCount = h.freeCount ∧
    (h.turnOff p cause part).mgmt.requests = h.mgmt.requests ∧
    (h.turnOff p cause part).mgmt.taking = h.mgmt.taking ∧
    (h.turnOff p cause part).mgmt.replyOwed = h.mgmt.replyOwed ∧
    (h.turnOff p cause part).mgmt.enables = h.mgmt.enables ∧
    (h.turnOff p cause part).mgmt.overflow = h.mgmt.overflow ∧
    (h.turnOff p cause part).trunk.up = h.trunk.up ∧
    (h.turnOff p cause part).trunk.lane = h.trunk.lane ∧
    (h.turnOff p cause part).trunk.grant = h.trunk.grant ∧
    (h.turnOff p cause part).trunk.lowShare = h.trunk.lowShare ∧
    (h.turnOff p cause part).trunk.replyGroup = h.trunk.replyGroup ∧
    (h.turnOff p cause part).trunk.replyBurst = h.trunk.replyBurst ∧
    (h.turnOff p cause part).trunk.bursts = h.trunk.bursts ∧
    (h.turnOff p cause part).trunk.sent = h.trunk.sent ∧
    (h.turnOff p cause part).trunk.losses = h.trunk.losses ∧
    (h.turnOff p cause part).trunk.images = h.trunk.images := by
  unfold Hub.turnOff; dsimp only
  split <;> simp

/-- Entering DETECTING changes the power items, the flags and the reply queue alone (R44). -/
@[simp] theorem Hub.enterDetecting_frame (h : Hub) (p : Port) :
    (h.enterDetecting p).time = h.time ∧
    (h.enterDetecting p).requestedIso = h.requestedIso ∧
    (h.enterDetecting p).cell = h.cell ∧
    (h.enterDetecting p).link = h.link ∧
    (h.enterDetecting p).cable = h.cable ∧
    (h.enterDetecting p).cables = h.cables ∧
    (h.enterDetecting p).lens = h.lens ∧
    (h.enterDetecting p).encoder = h.encoder ∧
    (h.enterDetecting p).lines = h.lines ∧
    (h.enterDetecting p).trig = h.trig ∧
    (h.enterDetecting p).frames = h.frames ∧
    (h.enterDetecting p).view = h.view ∧
    (h.enterDetecting p).pipe = h.pipe ∧
    (h.enterDetecting p).freeCount = h.freeCount ∧
    (h.enterDetecting p).mgmt.requests = h.mgmt.requests ∧
    (h.enterDetecting p).mgmt.taking = h.mgmt.taking ∧
    (h.enterDetecting p).mgmt.replyOwed = h.mgmt.replyOwed ∧
    (h.enterDetecting p).mgmt.enables = h.mgmt.enables ∧
    (h.enterDetecting p).mgmt.overflow = h.mgmt.overflow ∧
    (h.enterDetecting p).trunk.up = h.trunk.up ∧
    (h.enterDetecting p).trunk.lane = h.trunk.lane ∧
    (h.enterDetecting p).trunk.grant = h.trunk.grant ∧
    (h.enterDetecting p).trunk.lowShare = h.trunk.lowShare ∧
    (h.enterDetecting p).trunk.replyGroup = h.trunk.replyGroup ∧
    (h.enterDetecting p).trunk.replyBurst = h.trunk.replyBurst ∧
    (h.enterDetecting p).trunk.bursts = h.trunk.bursts ∧
    (h.enterDetecting p).trunk.sent = h.trunk.sent ∧
    (h.enterDetecting p).trunk.losses = h.trunk.losses ∧
    (h.enterDetecting p).trunk.images = h.trunk.images := by
  unfold Hub.enterDetecting
  simp

/-- It reaches what turning a port off reaches (R9, R51 to R55). -/
@[simp] theorem Hub.isolationRise_frame (h : Hub) (p : Port) :
    (h.isolationRise p).time = h.time ∧
    (h.isolationRise p).requestedIso = h.requestedIso ∧
    (h.isolationRise p).cell = h.cell ∧
    (h.isolationRise p).cable = h.cable ∧
    (h.isolationRise p).cables = h.cables ∧
    (h.isolationRise p).encoder = h.encoder ∧
    (h.isolationRise p).lines = h.lines ∧
    (h.isolationRise p).view = h.view ∧
    (h.isolationRise p).pipe = h.pipe ∧
    (h.isolationRise p).freeCount = h.freeCount ∧
    (h.isolationRise p).mgmt.requests = h.mgmt.requests ∧
    (h.isolationRise p).mgmt.taking = h.mgmt.taking ∧
    (h.isolationRise p).mgmt.replyOwed = h.mgmt.replyOwed ∧
    (h.isolationRise p).mgmt.enables = h.mgmt.enables ∧
    (h.isolationRise p).mgmt.overflow = h.mgmt.overflow ∧
    (h.isolationRise p).trunk.up = h.trunk.up ∧
    (h.isolationRise p).trunk.lane = h.trunk.lane ∧
    (h.isolationRise p).trunk.grant = h.trunk.grant ∧
    (h.isolationRise p).trunk.lowShare = h.trunk.lowShare ∧
    (h.isolationRise p).trunk.replyGroup = h.trunk.replyGroup ∧
    (h.isolationRise p).trunk.replyBurst = h.trunk.replyBurst ∧
    (h.isolationRise p).trunk.bursts = h.trunk.bursts ∧
    (h.isolationRise p).trunk.sent = h.trunk.sent ∧
    (h.isolationRise p).trunk.losses = h.trunk.losses ∧
    (h.isolationRise p).trunk.images = h.trunk.images := by
  unfold Hub.isolationRise; (try dsimp only)
  (repeat' split) <;> simp

/-- It reaches what turning a port off reaches (R9, R51 to R55). -/
@[simp] theorem Hub.retry_frame (h : Hub) (p : Port) :
    (h.retry p).time = h.time ∧
    (h.retry p).requestedIso = h.requestedIso ∧
    (h.retry p).cell = h.cell ∧
    (h.retry p).cable = h.cable ∧
    (h.retry p).cables = h.cables ∧
    (h.retry p).encoder = h.encoder ∧
    (h.retry p).lines = h.lines ∧
    (h.retry p).view = h.view ∧
    (h.retry p).pipe = h.pipe ∧
    (h.retry p).freeCount = h.freeCount ∧
    (h.retry p).mgmt.requests = h.mgmt.requests ∧
    (h.retry p).mgmt.taking = h.mgmt.taking ∧
    (h.retry p).mgmt.replyOwed = h.mgmt.replyOwed ∧
    (h.retry p).mgmt.enables = h.mgmt.enables ∧
    (h.retry p).mgmt.overflow = h.mgmt.overflow ∧
    (h.retry p).trunk.up = h.trunk.up ∧
    (h.retry p).trunk.lane = h.trunk.lane ∧
    (h.retry p).trunk.grant = h.trunk.grant ∧
    (h.retry p).trunk.lowShare = h.trunk.lowShare ∧
    (h.retry p).trunk.replyGroup = h.trunk.replyGroup ∧
    (h.retry p).trunk.replyBurst = h.trunk.replyBurst ∧
    (h.retry p).trunk.bursts = h.trunk.bursts ∧
    (h.retry p).trunk.sent = h.trunk.sent ∧
    (h.retry p).trunk.losses = h.trunk.losses ∧
    (h.retry p).trunk.images = h.trunk.images := by
  unfold Hub.retry; (try dsimp only)
  (repeat' split) <;> simp

/-- It reaches what turning a port off reaches (R9, R51 to R55). -/
@[simp] theorem Hub.cooldownOver_frame (h : Hub) (p : Port) :
    (h.cooldownOver p).time = h.time ∧
    (h.cooldownOver p).requestedIso = h.requestedIso ∧
    (h.cooldownOver p).cell = h.cell ∧
    (h.cooldownOver p).cable = h.cable ∧
    (h.cooldownOver p).cables = h.cables ∧
    (h.cooldownOver p).encoder = h.encoder ∧
    (h.cooldownOver p).lines = h.lines ∧
    (h.cooldownOver p).view = h.view ∧
    (h.cooldownOver p).pipe = h.pipe ∧
    (h.cooldownOver p).freeCount = h.freeCount ∧
    (h.cooldownOver p).mgmt.requests = h.mgmt.requests ∧
    (h.cooldownOver p).mgmt.taking = h.mgmt.taking ∧
    (h.cooldownOver p).mgmt.replyOwed = h.mgmt.replyOwed ∧
    (h.cooldownOver p).mgmt.enables = h.mgmt.enables ∧
    (h.cooldownOver p).mgmt.overflow = h.mgmt.overflow ∧
    (h.cooldownOver p).trunk.up = h.trunk.up ∧
    (h.cooldownOver p).trunk.lane = h.trunk.lane ∧
    (h.cooldownOver p).trunk.grant = h.trunk.grant ∧
    (h.cooldownOver p).trunk.lowShare = h.trunk.lowShare ∧
    (h.cooldownOver p).trunk.replyGroup = h.trunk.replyGroup ∧
    (h.cooldownOver p).trunk.replyBurst = h.trunk.replyBurst ∧
    (h.cooldownOver p).trunk.bursts = h.trunk.bursts ∧
    (h.cooldownOver p).trunk.sent = h.trunk.sent ∧
    (h.cooldownOver p).trunk.losses = h.trunk.losses ∧
    (h.cooldownOver p).trunk.images = h.trunk.images := by
  unfold Hub.cooldownOver; (try dsimp only)
  (repeat' split) <;> simp

/-- It reaches what turning a port off reaches (R9, R51 to R55). -/
@[simp] theorem Hub.sweepReported_frame (h : Hub) (p : Port) :
    (h.sweepReported p).time = h.time ∧
    (h.sweepReported p).requestedIso = h.requestedIso ∧
    (h.sweepReported p).cell = h.cell ∧
    (h.sweepReported p).cable = h.cable ∧
    (h.sweepReported p).cables = h.cables ∧
    (h.sweepReported p).encoder = h.encoder ∧
    (h.sweepReported p).lines = h.lines ∧
    (h.sweepReported p).view = h.view ∧
    (h.sweepReported p).pipe = h.pipe ∧
    (h.sweepReported p).freeCount = h.freeCount ∧
    (h.sweepReported p).mgmt.requests = h.mgmt.requests ∧
    (h.sweepReported p).mgmt.taking = h.mgmt.taking ∧
    (h.sweepReported p).mgmt.replyOwed = h.mgmt.replyOwed ∧
    (h.sweepReported p).mgmt.enables = h.mgmt.enables ∧
    (h.sweepReported p).mgmt.overflow = h.mgmt.overflow ∧
    (h.sweepReported p).trunk.up = h.trunk.up ∧
    (h.sweepReported p).trunk.lane = h.trunk.lane ∧
    (h.sweepReported p).trunk.grant = h.trunk.grant ∧
    (h.sweepReported p).trunk.lowShare = h.trunk.lowShare ∧
    (h.sweepReported p).trunk.replyGroup = h.trunk.replyGroup ∧
    (h.sweepReported p).trunk.replyBurst = h.trunk.replyBurst ∧
    (h.sweepReported p).trunk.bursts = h.trunk.bursts ∧
    (h.sweepReported p).trunk.sent = h.trunk.sent ∧
    (h.sweepReported p).trunk.losses = h.trunk.losses ∧
    (h.sweepReported p).trunk.images = h.trunk.images := by
  unfold Hub.sweepReported; (try dsimp only)
  (repeat' split) <;> simp

/-- It reaches what turning a port off reaches (R9, R51 to R55). -/
@[simp] theorem Hub.powerDown_frame (h : Hub) (p : Port) :
    (h.powerDown p).time = h.time ∧
    (h.powerDown p).requestedIso = h.requestedIso ∧
    (h.powerDown p).cell = h.cell ∧
    (h.powerDown p).cable = h.cable ∧
    (h.powerDown p).cables = h.cables ∧
    (h.powerDown p).encoder = h.encoder ∧
    (h.powerDown p).lines = h.lines ∧
    (h.powerDown p).view = h.view ∧
    (h.powerDown p).pipe = h.pipe ∧
    (h.powerDown p).freeCount = h.freeCount ∧
    (h.powerDown p).mgmt.requests = h.mgmt.requests ∧
    (h.powerDown p).mgmt.taking = h.mgmt.taking ∧
    (h.powerDown p).mgmt.replyOwed = h.mgmt.replyOwed ∧
    (h.powerDown p).mgmt.enables = h.mgmt.enables ∧
    (h.powerDown p).mgmt.overflow = h.mgmt.overflow ∧
    (h.powerDown p).trunk.up = h.trunk.up ∧
    (h.powerDown p).trunk.lane = h.trunk.lane ∧
    (h.powerDown p).trunk.grant = h.trunk.grant ∧
    (h.powerDown p).trunk.lowShare = h.trunk.lowShare ∧
    (h.powerDown p).trunk.replyGroup = h.trunk.replyGroup ∧
    (h.powerDown p).trunk.replyBurst = h.trunk.replyBurst ∧
    (h.powerDown p).trunk.bursts = h.trunk.bursts ∧
    (h.powerDown p).trunk.sent = h.trunk.sent ∧
    (h.powerDown p).trunk.losses = h.trunk.losses ∧
    (h.powerDown p).trunk.images = h.trunk.images := by
  unfold Hub.powerDown; (try dsimp only)
  (repeat' split) <;> simp

/-- It reaches what turning a port off reaches (R9, R51 to R55). -/
@[simp] theorem Hub.powerOff_frame (h : Hub) (p : Port) :
    (h.powerOff p).time = h.time ∧
    (h.powerOff p).requestedIso = h.requestedIso ∧
    (h.powerOff p).cell = h.cell ∧
    (h.powerOff p).cable = h.cable ∧
    (h.powerOff p).cables = h.cables ∧
    (h.powerOff p).encoder = h.encoder ∧
    (h.powerOff p).lines = h.lines ∧
    (h.powerOff p).view = h.view ∧
    (h.powerOff p).pipe = h.pipe ∧
    (h.powerOff p).freeCount = h.freeCount ∧
    (h.powerOff p).mgmt.requests = h.mgmt.requests ∧
    (h.powerOff p).mgmt.taking = h.mgmt.taking ∧
    (h.powerOff p).mgmt.replyOwed = h.mgmt.replyOwed ∧
    (h.powerOff p).mgmt.enables = h.mgmt.enables ∧
    (h.powerOff p).mgmt.overflow = h.mgmt.overflow ∧
    (h.powerOff p).trunk.up = h.trunk.up ∧
    (h.powerOff p).trunk.lane = h.trunk.lane ∧
    (h.powerOff p).trunk.grant = h.trunk.grant ∧
    (h.powerOff p).trunk.lowShare = h.trunk.lowShare ∧
    (h.powerOff p).trunk.replyGroup = h.trunk.replyGroup ∧
    (h.powerOff p).trunk.replyBurst = h.trunk.replyBurst ∧
    (h.powerOff p).trunk.bursts = h.trunk.bursts ∧
    (h.powerOff p).trunk.sent = h.trunk.sent ∧
    (h.powerOff p).trunk.losses = h.trunk.losses ∧
    (h.powerOff p).trunk.images = h.trunk.images := by
  unfold Hub.powerOff; (try dsimp only)
  (repeat' split) <;> simp

/-- A shed turns at most one port off (R58). -/
@[simp] theorem Hub.shedUndervolt_frame (h : Hub) (entry : Bool) :
    (h.shedUndervolt entry).time = h.time ∧
    (h.shedUndervolt entry).requestedIso = h.requestedIso ∧
    (h.shedUndervolt entry).cell = h.cell ∧
    (h.shedUndervolt entry).cable = h.cable ∧
    (h.shedUndervolt entry).cables = h.cables ∧
    (h.shedUndervolt entry).encoder = h.encoder ∧
    (h.shedUndervolt entry).lines = h.lines ∧
    (h.shedUndervolt entry).view = h.view ∧
    (h.shedUndervolt entry).pipe = h.pipe ∧
    (h.shedUndervolt entry).freeCount = h.freeCount ∧
    (h.shedUndervolt entry).mgmt.requests = h.mgmt.requests ∧
    (h.shedUndervolt entry).mgmt.taking = h.mgmt.taking ∧
    (h.shedUndervolt entry).mgmt.replyOwed = h.mgmt.replyOwed ∧
    (h.shedUndervolt entry).mgmt.enables = h.mgmt.enables ∧
    (h.shedUndervolt entry).mgmt.overflow = h.mgmt.overflow ∧
    (h.shedUndervolt entry).trunk.up = h.trunk.up ∧
    (h.shedUndervolt entry).trunk.lane = h.trunk.lane ∧
    (h.shedUndervolt entry).trunk.grant = h.trunk.grant ∧
    (h.shedUndervolt entry).trunk.lowShare = h.trunk.lowShare ∧
    (h.shedUndervolt entry).trunk.replyGroup = h.trunk.replyGroup ∧
    (h.shedUndervolt entry).trunk.replyBurst = h.trunk.replyBurst ∧
    (h.shedUndervolt entry).trunk.bursts = h.trunk.bursts ∧
    (h.shedUndervolt entry).trunk.sent = h.trunk.sent ∧
    (h.shedUndervolt entry).trunk.losses = h.trunk.losses ∧
    (h.shedUndervolt entry).trunk.images = h.trunk.images := by
  unfold Hub.shedUndervolt; (try dsimp only)
  (repeat' split) <;> simp

/-- Sheds turn ports off, and reach what turning a port off reaches (R40, R41). -/
@[simp] theorem Hub.shedToFit_frame : ∀ (n : Nat) (h : Hub),
    (Hub.shedToFit n h).1.time = h.time ∧
    (Hub.shedToFit n h).1.requestedIso = h.requestedIso ∧
    (Hub.shedToFit n h).1.cell = h.cell ∧
    (Hub.shedToFit n h).1.cable = h.cable ∧
    (Hub.shedToFit n h).1.cables = h.cables ∧
    (Hub.shedToFit n h).1.encoder = h.encoder ∧
    (Hub.shedToFit n h).1.lines = h.lines ∧
    (Hub.shedToFit n h).1.view = h.view ∧
    (Hub.shedToFit n h).1.pipe = h.pipe ∧
    (Hub.shedToFit n h).1.freeCount = h.freeCount ∧
    (Hub.shedToFit n h).1.mgmt.requests = h.mgmt.requests ∧
    (Hub.shedToFit n h).1.mgmt.taking = h.mgmt.taking ∧
    (Hub.shedToFit n h).1.mgmt.replyOwed = h.mgmt.replyOwed ∧
    (Hub.shedToFit n h).1.mgmt.enables = h.mgmt.enables ∧
    (Hub.shedToFit n h).1.mgmt.overflow = h.mgmt.overflow ∧
    (Hub.shedToFit n h).1.trunk.up = h.trunk.up ∧
    (Hub.shedToFit n h).1.trunk.lane = h.trunk.lane ∧
    (Hub.shedToFit n h).1.trunk.grant = h.trunk.grant ∧
    (Hub.shedToFit n h).1.trunk.lowShare = h.trunk.lowShare ∧
    (Hub.shedToFit n h).1.trunk.replyGroup = h.trunk.replyGroup ∧
    (Hub.shedToFit n h).1.trunk.replyBurst = h.trunk.replyBurst ∧
    (Hub.shedToFit n h).1.trunk.bursts = h.trunk.bursts ∧
    (Hub.shedToFit n h).1.trunk.sent = h.trunk.sent ∧
    (Hub.shedToFit n h).1.trunk.losses = h.trunk.losses ∧
    (Hub.shedToFit n h).1.trunk.images = h.trunk.images
  | 0, h => by simp [Hub.shedToFit]
  | n + 1, h => by
    have ih (p : Port) := Hub.shedToFit_frame n (h.turnOff p .shed fShed)
    unfold Hub.shedToFit
    split
    · split
      · simp
      · simp [ih]
    · simp

/-- A supply sample changes the monitor and turns at most one port off (R57, R58). -/
@[simp] theorem Hub.supplySample_frame (h : Hub) (mv : Nat) :
    (h.supplySample mv).time = h.time ∧
    (h.supplySample mv).requestedIso = h.requestedIso ∧
    (h.supplySample mv).cable = h.cable ∧
    (h.supplySample mv).cables = h.cables ∧
    (h.supplySample mv).encoder = h.encoder ∧
    (h.supplySample mv).lines = h.lines ∧
    (h.supplySample mv).view = h.view ∧
    (h.supplySample mv).pipe = h.pipe ∧
    (h.supplySample mv).freeCount = h.freeCount ∧
    (h.supplySample mv).mgmt.requests = h.mgmt.requests ∧
    (h.supplySample mv).mgmt.taking = h.mgmt.taking ∧
    (h.supplySample mv).mgmt.replyOwed = h.mgmt.replyOwed ∧
    (h.supplySample mv).mgmt.enables = h.mgmt.enables ∧
    (h.supplySample mv).mgmt.overflow = h.mgmt.overflow ∧
    (h.supplySample mv).trunk.up = h.trunk.up ∧
    (h.supplySample mv).trunk.lane = h.trunk.lane ∧
    (h.supplySample mv).trunk.grant = h.trunk.grant ∧
    (h.supplySample mv).trunk.lowShare = h.trunk.lowShare ∧
    (h.supplySample mv).trunk.replyGroup = h.trunk.replyGroup ∧
    (h.supplySample mv).trunk.replyBurst = h.trunk.replyBurst ∧
    (h.supplySample mv).trunk.bursts = h.trunk.bursts ∧
    (h.supplySample mv).trunk.sent = h.trunk.sent ∧
    (h.supplySample mv).trunk.losses = h.trunk.losses ∧
    (h.supplySample mv).trunk.images = h.trunk.images := by
  unfold Hub.supplySample; (try dsimp only)
  (repeat' split) <;> simp

/-- An engine is the Cable Test Unit's alone. -/
@[simp] theorem Hub.setEngine_frame (h : Hub) (e : EngineNo) (x : Option SweepContext) :
    (h.setEngine e x).time = h.time ∧
    (h.setEngine e x).requestedIso = h.requestedIso ∧
    (h.setEngine e x).power = h.power ∧
    (h.setEngine e x).cell = h.cell ∧
    (h.setEngine e x).link = h.link ∧
    (h.setEngine e x).cable = h.cable ∧
    (h.setEngine e x).lens = h.lens ∧
    (h.setEngine e x).encoder = h.encoder ∧
    (h.setEngine e x).lines = h.lines ∧
    (h.setEngine e x).trig = h.trig ∧
    (h.setEngine e x).frames = h.frames ∧
    (h.setEngine e x).view = h.view ∧
    (h.setEngine e x).pipe = h.pipe ∧
    (h.setEngine e x).trunk = h.trunk ∧
    (h.setEngine e x).mgmt = h.mgmt ∧
    (h.setEngine e x).freeCount = h.freeCount := by
  refine ⟨?_, ?_, ?_, ?_, ?_, ?_, ?_, ?_, ?_, ?_, ?_, ?_, ?_, ?_, ?_, ?_⟩ <;> (simp only [Hub.setEngine]; (repeat' split) <;> simp)

/-- An engine that takes an entry changes the queue, the engine and a sweep status alone (R68). -/
@[simp] theorem Hub.engineTakes_frame (h : Hub) (e : EngineNo) :
    (h.engineTakes e).time = h.time ∧
    (h.engineTakes e).requestedIso = h.requestedIso ∧
    (h.engineTakes e).power = h.power ∧
    (h.engineTakes e).cell = h.cell ∧
    (h.engineTakes e).link = h.link ∧
    (h.engineTakes e).lens = h.lens ∧
    (h.engineTakes e).encoder = h.encoder ∧
    (h.engineTakes e).lines = h.lines ∧
    (h.engineTakes e).trig = h.trig ∧
    (h.engineTakes e).frames = h.frames ∧
    (h.engineTakes e).view = h.view ∧
    (h.engineTakes e).pipe = h.pipe ∧
    (h.engineTakes e).trunk = h.trunk ∧
    (h.engineTakes e).mgmt = h.mgmt ∧
    (h.engineTakes e).freeCount = h.freeCount := by
  unfold Hub.engineTakes; (try dsimp only)
  (repeat' split) <;> simp

/-- The engine arbiter acts on the Cable Test Unit alone (R68). -/
@[simp] theorem Hub.offerEngines_frame (h : Hub) :
    (h.offerEngines).time = h.time ∧
    (h.offerEngines).requestedIso = h.requestedIso ∧
    (h.offerEngines).power = h.power ∧
    (h.offerEngines).cell = h.cell ∧
    (h.offerEngines).link = h.link ∧
    (h.offerEngines).lens = h.lens ∧
    (h.offerEngines).encoder = h.encoder ∧
    (h.offerEngines).lines = h.lines ∧
    (h.offerEngines).trig = h.trig ∧
    (h.offerEngines).frames = h.frames ∧
    (h.offerEngines).view = h.view ∧
    (h.offerEngines).pipe = h.pipe ∧
    (h.offerEngines).trunk = h.trunk ∧
    (h.offerEngines).mgmt = h.mgmt ∧
    (h.offerEngines).freeCount = h.freeCount := by
  unfold Hub.offerEngines; (try dsimp only)
  (repeat' split) <;> simp

/-- An entry queued acts on the Cable Test Unit alone (R66, R68). -/
@[simp] theorem Hub.enqueueSweep_frame (h : Hub) (p : Port) (q : SweepParams) (o : SweepOrigin) :
    (h.enqueueSweep p q o).time = h.time ∧
    (h.enqueueSweep p q o).requestedIso = h.requestedIso ∧
    (h.enqueueSweep p q o).power = h.power ∧
    (h.enqueueSweep p q o).cell = h.cell ∧
    (h.enqueueSweep p q o).link = h.link ∧
    (h.enqueueSweep p q o).lens = h.lens ∧
    (h.enqueueSweep p q o).encoder = h.encoder ∧
    (h.enqueueSweep p q o).lines = h.lines ∧
    (h.enqueueSweep p q o).trig = h.trig ∧
    (h.enqueueSweep p q o).frames = h.frames ∧
    (h.enqueueSweep p q o).view = h.view ∧
    (h.enqueueSweep p q o).pipe = h.pipe ∧
    (h.enqueueSweep p q o).trunk = h.trunk ∧
    (h.enqueueSweep p q o).mgmt = h.mgmt ∧
    (h.enqueueSweep p q o).freeCount = h.freeCount := by
  unfold Hub.enqueueSweep; (try dsimp only)
  (repeat' split) <;> simp

/-- An automatic request powers a port down and queues an entry (R67). -/
@[simp] theorem Hub.autoSweep_frame (h : Hub) (p : Port) (o : SweepOrigin) :
    (h.autoSweep p o).time = h.time ∧
    (h.autoSweep p o).requestedIso = h.requestedIso ∧
    (h.autoSweep p o).cell = h.cell ∧
    (h.autoSweep p o).encoder = h.encoder ∧
    (h.autoSweep p o).lines = h.lines ∧
    (h.autoSweep p o).view = h.view ∧
    (h.autoSweep p o).pipe = h.pipe ∧
    (h.autoSweep p o).freeCount = h.freeCount ∧
    (h.autoSweep p o).mgmt.requests = h.mgmt.requests ∧
    (h.autoSweep p o).mgmt.taking = h.mgmt.taking ∧
    (h.autoSweep p o).mgmt.replyOwed = h.mgmt.replyOwed ∧
    (h.autoSweep p o).mgmt.enables = h.mgmt.enables ∧
    (h.autoSweep p o).mgmt.overflow = h.mgmt.overflow ∧
    (h.autoSweep p o).trunk.up = h.trunk.up ∧
    (h.autoSweep p o).trunk.lane = h.trunk.lane ∧
    (h.autoSweep p o).trunk.grant = h.trunk.grant ∧
    (h.autoSweep p o).trunk.lowShare = h.trunk.lowShare ∧
    (h.autoSweep p o).trunk.replyGroup = h.trunk.replyGroup ∧
    (h.autoSweep p o).trunk.replyBurst = h.trunk.replyBurst ∧
    (h.autoSweep p o).trunk.bursts = h.trunk.bursts ∧
    (h.autoSweep p o).trunk.sent = h.trunk.sent ∧
    (h.autoSweep p o).trunk.losses = h.trunk.losses ∧
    (h.autoSweep p o).trunk.images = h.trunk.images := by
  unfold Hub.autoSweep; (try dsimp only)
  (repeat' split) <;> simp

/-- As for Hub.autoSweep. -/
@[simp] theorem Hub.maySweep_frame (h : Hub) (p : Port) (o : Option SweepOrigin) :
    (h.maySweep p o).time = h.time ∧
    (h.maySweep p o).requestedIso = h.requestedIso ∧
    (h.maySweep p o).cell = h.cell ∧
    (h.maySweep p o).encoder = h.encoder ∧
    (h.maySweep p o).lines = h.lines ∧
    (h.maySweep p o).view = h.view ∧
    (h.maySweep p o).pipe = h.pipe ∧
    (h.maySweep p o).freeCount = h.freeCount ∧
    (h.maySweep p o).mgmt.requests = h.mgmt.requests ∧
    (h.maySweep p o).mgmt.taking = h.mgmt.taking ∧
    (h.maySweep p o).mgmt.replyOwed = h.mgmt.replyOwed ∧
    (h.maySweep p o).mgmt.enables = h.mgmt.enables ∧
    (h.maySweep p o).mgmt.overflow = h.mgmt.overflow ∧
    (h.maySweep p o).trunk.up = h.trunk.up ∧
    (h.maySweep p o).trunk.lane = h.trunk.lane ∧
    (h.maySweep p o).trunk.grant = h.trunk.grant ∧
    (h.maySweep p o).trunk.lowShare = h.trunk.lowShare ∧
    (h.maySweep p o).trunk.replyGroup = h.trunk.replyGroup ∧
    (h.maySweep p o).trunk.replyBurst = h.trunk.replyBurst ∧
    (h.maySweep p o).trunk.bursts = h.trunk.bursts ∧
    (h.maySweep p o).trunk.sent = h.trunk.sent ∧
    (h.maySweep p o).trunk.losses = h.trunk.losses ∧
    (h.maySweep p o).trunk.images = h.trunk.images := by
  unfold Hub.maySweep; (try dsimp only)
  (repeat' split) <;> simp

/-- A trip reaches what a departure from ON and an automatic request reach (R48). -/
@[simp] theorem Hub.trip_frame (h : Hub) (p : Port) (c : OffCause) :
    (h.trip p c).time = h.time ∧
    (h.trip p c).requestedIso = h.requestedIso ∧
    (h.trip p c).cell = h.cell ∧
    (h.trip p c).encoder = h.encoder ∧
    (h.trip p c).lines = h.lines ∧
    (h.trip p c).view = h.view ∧
    (h.trip p c).pipe = h.pipe ∧
    (h.trip p c).freeCount = h.freeCount ∧
    (h.trip p c).mgmt.requests = h.mgmt.requests ∧
    (h.trip p c).mgmt.taking = h.mgmt.taking ∧
    (h.trip p c).mgmt.replyOwed = h.mgmt.replyOwed ∧
    (h.trip p c).mgmt.enables = h.mgmt.enables ∧
    (h.trip p c).mgmt.overflow = h.mgmt.overflow ∧
    (h.trip p c).trunk.up = h.trunk.up ∧
    (h.trip p c).trunk.lane = h.trunk.lane ∧
    (h.trip p c).trunk.grant = h.trunk.grant ∧
    (h.trip p c).trunk.lowShare = h.trunk.lowShare ∧
    (h.trip p c).trunk.replyGroup = h.trunk.replyGroup ∧
    (h.trip p c).trunk.replyBurst = h.trunk.replyBurst ∧
    (h.trip p c).trunk.bursts = h.trunk.bursts ∧
    (h.trip p c).trunk.sent = h.trunk.sent ∧
    (h.trip p c).trunk.losses = h.trunk.losses ∧
    (h.trip p c).trunk.images = h.trunk.images := by
  unfold Hub.trip; dsimp only
  split_ifs <;> simp

/-- The end of DETECTING reaches what turning off and an automatic request reach (R45). -/
@[simp] theorem Hub.detected_frame (h : Hub) (p : Port) (load : Nat) :
    (h.detected p load).time = h.time ∧
    (h.detected p load).requestedIso = h.requestedIso ∧
    (h.detected p load).cell = h.cell ∧
    (h.detected p load).encoder = h.encoder ∧
    (h.detected p load).lines = h.lines ∧
    (h.detected p load).view = h.view ∧
    (h.detected p load).pipe = h.pipe ∧
    (h.detected p load).freeCount = h.freeCount ∧
    (h.detected p load).mgmt.requests = h.mgmt.requests ∧
    (h.detected p load).mgmt.taking = h.mgmt.taking ∧
    (h.detected p load).mgmt.replyOwed = h.mgmt.replyOwed ∧
    (h.detected p load).mgmt.enables = h.mgmt.enables ∧
    (h.detected p load).mgmt.overflow = h.mgmt.overflow ∧
    (h.detected p load).trunk.up = h.trunk.up ∧
    (h.detected p load).trunk.lane = h.trunk.lane ∧
    (h.detected p load).trunk.grant = h.trunk.grant ∧
    (h.detected p load).trunk.lowShare = h.trunk.lowShare ∧
    (h.detected p load).trunk.replyGroup = h.trunk.replyGroup ∧
    (h.detected p load).trunk.replyBurst = h.trunk.replyBurst ∧
    (h.detected p load).trunk.bursts = h.trunk.bursts ∧
    (h.detected p load).trunk.sent = h.trunk.sent ∧
    (h.detected p load).trunk.losses = h.trunk.losses ∧
    (h.detected p load).trunk.images = h.trunk.images := by
  unfold Hub.detected; dsimp only
  split_ifs <;> simp

/-- Training begun changes the link, the flags and the reply queue alone (R17). -/
@[simp] theorem Hub.beginTraining_frame (h : Hub) (p : Port) :
    (h.beginTraining p).time = h.time ∧
    (h.beginTraining p).requestedIso = h.requestedIso ∧
    (h.beginTraining p).power = h.power ∧
    (h.beginTraining p).cell = h.cell ∧
    (h.beginTraining p).cable = h.cable ∧
    (h.beginTraining p).cables = h.cables ∧
    (h.beginTraining p).lens = h.lens ∧
    (h.beginTraining p).encoder = h.encoder ∧
    (h.beginTraining p).lines = h.lines ∧
    (h.beginTraining p).trig = h.trig ∧
    (h.beginTraining p).frames = h.frames ∧
    (h.beginTraining p).view = h.view ∧
    (h.beginTraining p).pipe = h.pipe ∧
    (h.beginTraining p).freeCount = h.freeCount ∧
    (h.beginTraining p).mgmt.requests = h.mgmt.requests ∧
    (h.beginTraining p).mgmt.taking = h.mgmt.taking ∧
    (h.beginTraining p).mgmt.replyOwed = h.mgmt.replyOwed ∧
    (h.beginTraining p).mgmt.enables = h.mgmt.enables ∧
    (h.beginTraining p).mgmt.overflow = h.mgmt.overflow ∧
    (h.beginTraining p).trunk.up = h.trunk.up ∧
    (h.beginTraining p).trunk.lane = h.trunk.lane ∧
    (h.beginTraining p).trunk.grant = h.trunk.grant ∧
    (h.beginTraining p).trunk.lowShare = h.trunk.lowShare ∧
    (h.beginTraining p).trunk.replyGroup = h.trunk.replyGroup ∧
    (h.beginTraining p).trunk.replyBurst = h.trunk.replyBurst ∧
    (h.beginTraining p).trunk.bursts = h.trunk.bursts ∧
    (h.beginTraining p).trunk.sent = h.trunk.sent ∧
    (h.beginTraining p).trunk.losses = h.trunk.losses ∧
    (h.beginTraining p).trunk.images = h.trunk.images := by
  unfold Hub.beginTraining; (try dsimp only)
  (repeat' split) <;> simp

/-- The output reached changes the power state and the link alone (R46). -/
@[simp] theorem Hub.rampReached_frame (h : Hub) (p : Port) :
    (h.rampReached p).time = h.time ∧
    (h.rampReached p).requestedIso = h.requestedIso ∧
    (h.rampReached p).cell = h.cell ∧
    (h.rampReached p).cable = h.cable ∧
    (h.rampReached p).cables = h.cables ∧
    (h.rampReached p).lens = h.lens ∧
    (h.rampReached p).encoder = h.encoder ∧
    (h.rampReached p).lines = h.lines ∧
    (h.rampReached p).trig = h.trig ∧
    (h.rampReached p).frames = h.frames ∧
    (h.rampReached p).view = h.view ∧
    (h.rampReached p).pipe = h.pipe ∧
    (h.rampReached p).freeCount = h.freeCount ∧
    (h.rampReached p).mgmt.requests = h.mgmt.requests ∧
    (h.rampReached p).mgmt.taking = h.mgmt.taking ∧
    (h.rampReached p).mgmt.replyOwed = h.mgmt.replyOwed ∧
    (h.rampReached p).mgmt.enables = h.mgmt.enables ∧
    (h.rampReached p).mgmt.overflow = h.mgmt.overflow ∧
    (h.rampReached p).trunk.up = h.trunk.up ∧
    (h.rampReached p).trunk.lane = h.trunk.lane ∧
    (h.rampReached p).trunk.grant = h.trunk.grant ∧
    (h.rampReached p).trunk.lowShare = h.trunk.lowShare ∧
    (h.rampReached p).trunk.replyGroup = h.trunk.replyGroup ∧
    (h.rampReached p).trunk.replyBurst = h.trunk.replyBurst ∧
    (h.rampReached p).trunk.bursts = h.trunk.bursts ∧
    (h.rampReached p).trunk.sent = h.trunk.sent ∧
    (h.rampReached p).trunk.losses = h.trunk.losses ∧
    (h.rampReached p).trunk.images = h.trunk.images := by
  unfold Hub.rampReached; (try dsimp only)
  (repeat' split) <;> simp

/-- The end of an attempt changes the link and may ask for a sweep (R19). -/
@[simp] theorem Hub.attemptEnd_frame (h : Hub) (p : Port) :
    (h.attemptEnd p).time = h.time ∧
    (h.attemptEnd p).requestedIso = h.requestedIso ∧
    (h.attemptEnd p).cell = h.cell ∧
    (h.attemptEnd p).encoder = h.encoder ∧
    (h.attemptEnd p).lines = h.lines ∧
    (h.attemptEnd p).view = h.view ∧
    (h.attemptEnd p).pipe = h.pipe ∧
    (h.attemptEnd p).freeCount = h.freeCount ∧
    (h.attemptEnd p).mgmt.requests = h.mgmt.requests ∧
    (h.attemptEnd p).mgmt.taking = h.mgmt.taking ∧
    (h.attemptEnd p).mgmt.replyOwed = h.mgmt.replyOwed ∧
    (h.attemptEnd p).mgmt.enables = h.mgmt.enables ∧
    (h.attemptEnd p).mgmt.overflow = h.mgmt.overflow ∧
    (h.attemptEnd p).trunk.up = h.trunk.up ∧
    (h.attemptEnd p).trunk.lane = h.trunk.lane ∧
    (h.attemptEnd p).trunk.grant = h.trunk.grant ∧
    (h.attemptEnd p).trunk.lowShare = h.trunk.lowShare ∧
    (h.attemptEnd p).trunk.replyGroup = h.trunk.replyGroup ∧
    (h.attemptEnd p).trunk.replyBurst = h.trunk.replyBurst ∧
    (h.attemptEnd p).trunk.bursts = h.trunk.bursts ∧
    (h.attemptEnd p).trunk.sent = h.trunk.sent ∧
    (h.attemptEnd p).trunk.losses = h.trunk.losses ∧
    (h.attemptEnd p).trunk.images = h.trunk.images := by
  unfold Hub.attemptEnd; dsimp only
  split_ifs <;> simp

/-- Loss of lock drops the link and may ask for a sweep (R21, R23). -/
@[simp] theorem Hub.lossOfLock_frame (h : Hub) (p : Port) :
    (h.lossOfLock p).time = h.time ∧
    (h.lossOfLock p).requestedIso = h.requestedIso ∧
    (h.lossOfLock p).cell = h.cell ∧
    (h.lossOfLock p).encoder = h.encoder ∧
    (h.lossOfLock p).lines = h.lines ∧
    (h.lossOfLock p).view = h.view ∧
    (h.lossOfLock p).pipe = h.pipe ∧
    (h.lossOfLock p).freeCount = h.freeCount ∧
    (h.lossOfLock p).mgmt.requests = h.mgmt.requests ∧
    (h.lossOfLock p).mgmt.taking = h.mgmt.taking ∧
    (h.lossOfLock p).mgmt.replyOwed = h.mgmt.replyOwed ∧
    (h.lossOfLock p).mgmt.enables = h.mgmt.enables ∧
    (h.lossOfLock p).mgmt.overflow = h.mgmt.overflow ∧
    (h.lossOfLock p).trunk.up = h.trunk.up ∧
    (h.lossOfLock p).trunk.lane = h.trunk.lane ∧
    (h.lossOfLock p).trunk.grant = h.trunk.grant ∧
    (h.lossOfLock p).trunk.lowShare = h.trunk.lowShare ∧
    (h.lossOfLock p).trunk.replyGroup = h.trunk.replyGroup ∧
    (h.lossOfLock p).trunk.replyBurst = h.trunk.replyBurst ∧
    (h.lossOfLock p).trunk.bursts = h.trunk.bursts ∧
    (h.lossOfLock p).trunk.sent = h.trunk.sent ∧
    (h.lossOfLock p).trunk.losses = h.trunk.losses ∧
    (h.lossOfLock p).trunk.images = h.trunk.images := by
  unfold Hub.lossOfLock; dsimp only
  split_ifs <;> simp

/-- A lock reply changes the link alone (R18). -/
@[simp] theorem Hub.lockReply_frame (h : Hub) (p : Port) :
    (h.lockReply p).time = h.time ∧
    (h.lockReply p).requestedIso = h.requestedIso ∧
    (h.lockReply p).power = h.power ∧
    (h.lockReply p).cell = h.cell ∧
    (h.lockReply p).cable = h.cable ∧
    (h.lockReply p).cables = h.cables ∧
    (h.lockReply p).lens = h.lens ∧
    (h.lockReply p).encoder = h.encoder ∧
    (h.lockReply p).lines = h.lines ∧
    (h.lockReply p).trig = h.trig ∧
    (h.lockReply p).frames = h.frames ∧
    (h.lockReply p).view = h.view ∧
    (h.lockReply p).pipe = h.pipe ∧
    (h.lockReply p).freeCount = h.freeCount ∧
    (h.lockReply p).mgmt.requests = h.mgmt.requests ∧
    (h.lockReply p).mgmt.taking = h.mgmt.taking ∧
    (h.lockReply p).mgmt.replyOwed = h.mgmt.replyOwed ∧
    (h.lockReply p).mgmt.enables = h.mgmt.enables ∧
    (h.lockReply p).mgmt.overflow = h.mgmt.overflow ∧
    (h.lockReply p).trunk.up = h.trunk.up ∧
    (h.lockReply p).trunk.lane = h.trunk.lane ∧
    (h.lockReply p).trunk.grant = h.trunk.grant ∧
    (h.lockReply p).trunk.lowShare = h.trunk.lowShare ∧
    (h.lockReply p).trunk.replyGroup = h.trunk.replyGroup ∧
    (h.lockReply p).trunk.replyBurst = h.trunk.replyBurst ∧
    (h.lockReply p).trunk.bursts = h.trunk.bursts ∧
    (h.lockReply p).trunk.sent = h.trunk.sent ∧
    (h.lockReply p).trunk.losses = h.trunk.losses ∧
    (h.lockReply p).trunk.images = h.trunk.images := by
  unfold Hub.lockReply
  simp

/-- The end of a window changes the link alone (R24, R25). -/
@[simp] theorem Hub.windowEnd_frame (h : Hub) (p : Port) :
    (h.windowEnd p).time = h.time ∧
    (h.windowEnd p).requestedIso = h.requestedIso ∧
    (h.windowEnd p).power = h.power ∧
    (h.windowEnd p).cell = h.cell ∧
    (h.windowEnd p).cable = h.cable ∧
    (h.windowEnd p).cables = h.cables ∧
    (h.windowEnd p).lens = h.lens ∧
    (h.windowEnd p).encoder = h.encoder ∧
    (h.windowEnd p).lines = h.lines ∧
    (h.windowEnd p).trig = h.trig ∧
    (h.windowEnd p).frames = h.frames ∧
    (h.windowEnd p).view = h.view ∧
    (h.windowEnd p).pipe = h.pipe ∧
    (h.windowEnd p).freeCount = h.freeCount ∧
    (h.windowEnd p).mgmt.requests = h.mgmt.requests ∧
    (h.windowEnd p).mgmt.taking = h.mgmt.taking ∧
    (h.windowEnd p).mgmt.replyOwed = h.mgmt.replyOwed ∧
    (h.windowEnd p).mgmt.enables = h.mgmt.enables ∧
    (h.windowEnd p).mgmt.overflow = h.mgmt.overflow ∧
    (h.windowEnd p).trunk.up = h.trunk.up ∧
    (h.windowEnd p).trunk.lane = h.trunk.lane ∧
    (h.windowEnd p).trunk.grant = h.trunk.grant ∧
    (h.windowEnd p).trunk.lowShare = h.trunk.lowShare ∧
    (h.windowEnd p).trunk.replyGroup = h.trunk.replyGroup ∧
    (h.windowEnd p).trunk.replyBurst = h.trunk.replyBurst ∧
    (h.windowEnd p).trunk.bursts = h.trunk.bursts ∧
    (h.windowEnd p).trunk.sent = h.trunk.sent ∧
    (h.windowEnd p).trunk.losses = h.trunk.losses ∧
    (h.windowEnd p).trunk.images = h.trunk.images := by
  unfold Hub.windowEnd; dsimp only
  split_ifs <;> simp

/-- It reaches the link and what a completed command reaches (R28 to R31). -/
@[simp] theorem Hub.ackTaken_frame (h : Hub) (p : Port) (q : Bool) :
    (h.ackTaken p q).time = h.time ∧
    (h.ackTaken p q).requestedIso = h.requestedIso ∧
    (h.ackTaken p q).cell = h.cell ∧
    (h.ackTaken p q).cable = h.cable ∧
    (h.ackTaken p q).cables = h.cables ∧
    (h.ackTaken p q).encoder = h.encoder ∧
    (h.ackTaken p q).lines = h.lines ∧
    (h.ackTaken p q).view = h.view ∧
    (h.ackTaken p q).pipe = h.pipe ∧
    (h.ackTaken p q).freeCount = h.freeCount ∧
    (h.ackTaken p q).mgmt.requests = h.mgmt.requests ∧
    (h.ackTaken p q).mgmt.taking = h.mgmt.taking ∧
    (h.ackTaken p q).mgmt.replyOwed = h.mgmt.replyOwed ∧
    (h.ackTaken p q).mgmt.enables = h.mgmt.enables ∧
    (h.ackTaken p q).mgmt.overflow = h.mgmt.overflow ∧
    (h.ackTaken p q).trunk.up = h.trunk.up ∧
    (h.ackTaken p q).trunk.lane = h.trunk.lane ∧
    (h.ackTaken p q).trunk.grant = h.trunk.grant ∧
    (h.ackTaken p q).trunk.lowShare = h.trunk.lowShare ∧
    (h.ackTaken p q).trunk.replyGroup = h.trunk.replyGroup ∧
    (h.ackTaken p q).trunk.replyBurst = h.trunk.replyBurst ∧
    (h.ackTaken p q).trunk.bursts = h.trunk.bursts ∧
    (h.ackTaken p q).trunk.sent = h.trunk.sent ∧
    (h.ackTaken p q).trunk.losses = h.trunk.losses ∧
    (h.ackTaken p q).trunk.images = h.trunk.images := by
  unfold Hub.ackTaken; (try dsimp only)
  (repeat' split) <;> simp

/-- It reaches the link and what a completed command reaches (R28 to R31). -/
@[simp] theorem Hub.waitOver_frame (h : Hub) (p : Port) :
    (h.waitOver p).time = h.time ∧
    (h.waitOver p).requestedIso = h.requestedIso ∧
    (h.waitOver p).cell = h.cell ∧
    (h.waitOver p).cable = h.cable ∧
    (h.waitOver p).cables = h.cables ∧
    (h.waitOver p).encoder = h.encoder ∧
    (h.waitOver p).lines = h.lines ∧
    (h.waitOver p).view = h.view ∧
    (h.waitOver p).pipe = h.pipe ∧
    (h.waitOver p).freeCount = h.freeCount ∧
    (h.waitOver p).mgmt.requests = h.mgmt.requests ∧
    (h.waitOver p).mgmt.taking = h.mgmt.taking ∧
    (h.waitOver p).mgmt.replyOwed = h.mgmt.replyOwed ∧
    (h.waitOver p).mgmt.enables = h.mgmt.enables ∧
    (h.waitOver p).mgmt.overflow = h.mgmt.overflow ∧
    (h.waitOver p).trunk.up = h.trunk.up ∧
    (h.waitOver p).trunk.lane = h.trunk.lane ∧
    (h.waitOver p).trunk.grant = h.trunk.grant ∧
    (h.waitOver p).trunk.lowShare = h.trunk.lowShare ∧
    (h.waitOver p).trunk.replyGroup = h.trunk.replyGroup ∧
    (h.waitOver p).trunk.replyBurst = h.trunk.replyBurst ∧
    (h.waitOver p).trunk.bursts = h.trunk.bursts ∧
    (h.waitOver p).trunk.sent = h.trunk.sent ∧
    (h.waitOver p).trunk.losses = h.trunk.losses ∧
    (h.waitOver p).trunk.images = h.trunk.images := by
  unfold Hub.waitOver; (try dsimp only)
  (repeat' split) <;> simp

/-- It reaches the link and what a completed command reaches (R28 to R31). -/
@[simp] theorem Hub.boundary_frame (h : Hub) (p : Port) :
    (h.boundary p).time = h.time ∧
    (h.boundary p).requestedIso = h.requestedIso ∧
    (h.boundary p).cell = h.cell ∧
    (h.boundary p).cable = h.cable ∧
    (h.boundary p).cables = h.cables ∧
    (h.boundary p).encoder = h.encoder ∧
    (h.boundary p).lines = h.lines ∧
    (h.boundary p).view = h.view ∧
    (h.boundary p).pipe = h.pipe ∧
    (h.boundary p).freeCount = h.freeCount ∧
    (h.boundary p).mgmt.requests = h.mgmt.requests ∧
    (h.boundary p).mgmt.taking = h.mgmt.taking ∧
    (h.boundary p).mgmt.replyOwed = h.mgmt.replyOwed ∧
    (h.boundary p).mgmt.enables = h.mgmt.enables ∧
    (h.boundary p).mgmt.overflow = h.mgmt.overflow ∧
    (h.boundary p).trunk.up = h.trunk.up ∧
    (h.boundary p).trunk.lane = h.trunk.lane ∧
    (h.boundary p).trunk.grant = h.trunk.grant ∧
    (h.boundary p).trunk.lowShare = h.trunk.lowShare ∧
    (h.boundary p).trunk.replyGroup = h.trunk.replyGroup ∧
    (h.boundary p).trunk.replyBurst = h.trunk.replyBurst ∧
    (h.boundary p).trunk.bursts = h.trunk.bursts ∧
    (h.boundary p).trunk.sent = h.trunk.sent ∧
    (h.boundary p).trunk.losses = h.trunk.losses ∧
    (h.boundary p).trunk.images = h.trunk.images := by
  unfold Hub.boundary; (try dsimp only)
  (repeat' split) <;> simp

/-- It reaches the link and what a completed command reaches (R28 to R31). -/
@[simp] theorem Hub.messageSent_frame (h : Hub) (p : Port) :
    (h.messageSent p).time = h.time ∧
    (h.messageSent p).requestedIso = h.requestedIso ∧
    (h.messageSent p).cell = h.cell ∧
    (h.messageSent p).cable = h.cable ∧
    (h.messageSent p).cables = h.cables ∧
    (h.messageSent p).encoder = h.encoder ∧
    (h.messageSent p).lines = h.lines ∧
    (h.messageSent p).view = h.view ∧
    (h.messageSent p).pipe = h.pipe ∧
    (h.messageSent p).freeCount = h.freeCount ∧
    (h.messageSent p).mgmt.requests = h.mgmt.requests ∧
    (h.messageSent p).mgmt.taking = h.mgmt.taking ∧
    (h.messageSent p).mgmt.replyOwed = h.mgmt.replyOwed ∧
    (h.messageSent p).mgmt.enables = h.mgmt.enables ∧
    (h.messageSent p).mgmt.overflow = h.mgmt.overflow ∧
    (h.messageSent p).trunk.up = h.trunk.up ∧
    (h.messageSent p).trunk.lane = h.trunk.lane ∧
    (h.messageSent p).trunk.grant = h.trunk.grant ∧
    (h.messageSent p).trunk.lowShare = h.trunk.lowShare ∧
    (h.messageSent p).trunk.replyGroup = h.trunk.replyGroup ∧
    (h.messageSent p).trunk.replyBurst = h.trunk.replyBurst ∧
    (h.messageSent p).trunk.bursts = h.trunk.bursts ∧
    (h.messageSent p).trunk.sent = h.trunk.sent ∧
    (h.messageSent p).trunk.losses = h.trunk.losses ∧
    (h.messageSent p).trunk.images = h.trunk.images := by
  unfold Hub.messageSent; (try dsimp only)
  (repeat' split) <;> simp

/-- It reaches the link and what a completed command reaches (R28 to R31). -/
@[simp] theorem Hub.waitEnds_frame (h : Hub) (p : Port) :
    (h.waitEnds p).time = h.time ∧
    (h.waitEnds p).requestedIso = h.requestedIso ∧
    (h.waitEnds p).cell = h.cell ∧
    (h.waitEnds p).cable = h.cable ∧
    (h.waitEnds p).cables = h.cables ∧
    (h.waitEnds p).encoder = h.encoder ∧
    (h.waitEnds p).lines = h.lines ∧
    (h.waitEnds p).view = h.view ∧
    (h.waitEnds p).pipe = h.pipe ∧
    (h.waitEnds p).freeCount = h.freeCount ∧
    (h.waitEnds p).mgmt.requests = h.mgmt.requests ∧
    (h.waitEnds p).mgmt.taking = h.mgmt.taking ∧
    (h.waitEnds p).mgmt.replyOwed = h.mgmt.replyOwed ∧
    (h.waitEnds p).mgmt.enables = h.mgmt.enables ∧
    (h.waitEnds p).mgmt.overflow = h.mgmt.overflow ∧
    (h.waitEnds p).trunk.up = h.trunk.up ∧
    (h.waitEnds p).trunk.lane = h.trunk.lane ∧
    (h.waitEnds p).trunk.grant = h.trunk.grant ∧
    (h.waitEnds p).trunk.lowShare = h.trunk.lowShare ∧
    (h.waitEnds p).trunk.replyGroup = h.trunk.replyGroup ∧
    (h.waitEnds p).trunk.replyBurst = h.trunk.replyBurst ∧
    (h.waitEnds p).trunk.bursts = h.trunk.bursts ∧
    (h.waitEnds p).trunk.sent = h.trunk.sent ∧
    (h.waitEnds p).trunk.losses = h.trunk.losses ∧
    (h.waitEnds p).trunk.images = h.trunk.images := by
  unfold Hub.waitEnds; (try dsimp only)
  (repeat' split) <;> simp

/-- A recorded pair changes the fault list and may turn the port off (R75, R5). -/
@[simp] theorem Hub.recordPair_frame (h : Hub) (c : SweepContext) (x : Pair) :
    (h.recordPair c x).time = h.time ∧
    (h.recordPair c x).requestedIso = h.requestedIso ∧
    (h.recordPair c x).cell = h.cell ∧
    (h.recordPair c x).encoder = h.encoder ∧
    (h.recordPair c x).lines = h.lines ∧
    (h.recordPair c x).view = h.view ∧
    (h.recordPair c x).pipe = h.pipe ∧
    (h.recordPair c x).freeCount = h.freeCount ∧
    (h.recordPair c x).mgmt.requests = h.mgmt.requests ∧
    (h.recordPair c x).mgmt.taking = h.mgmt.taking ∧
    (h.recordPair c x).mgmt.replyOwed = h.mgmt.replyOwed ∧
    (h.recordPair c x).mgmt.enables = h.mgmt.enables ∧
    (h.recordPair c x).mgmt.overflow = h.mgmt.overflow ∧
    (h.recordPair c x).trunk.up = h.trunk.up ∧
    (h.recordPair c x).trunk.lane = h.trunk.lane ∧
    (h.recordPair c x).trunk.grant = h.trunk.grant ∧
    (h.recordPair c x).trunk.lowShare = h.trunk.lowShare ∧
    (h.recordPair c x).trunk.replyGroup = h.trunk.replyGroup ∧
    (h.recordPair c x).trunk.replyBurst = h.trunk.replyBurst ∧
    (h.recordPair c x).trunk.bursts = h.trunk.bursts ∧
    (h.recordPair c x).trunk.sent = h.trunk.sent ∧
    (h.recordPair c x).trunk.losses = h.trunk.losses ∧
    (h.recordPair c x).trunk.images = h.trunk.images := by
  unfold Hub.recordPair; (try dsimp only)
  (repeat' split) <;> simp

/-- The end of a sweep is reported to the Power Controller (R75, R79). -/
@[simp] theorem Hub.sweepOver_frame (h : Hub) (p : Port) :
    (h.sweepOver p).time = h.time ∧
    (h.sweepOver p).requestedIso = h.requestedIso ∧
    (h.sweepOver p).cell = h.cell ∧
    (h.sweepOver p).encoder = h.encoder ∧
    (h.sweepOver p).lines = h.lines ∧
    (h.sweepOver p).view = h.view ∧
    (h.sweepOver p).pipe = h.pipe ∧
    (h.sweepOver p).freeCount = h.freeCount ∧
    (h.sweepOver p).mgmt.requests = h.mgmt.requests ∧
    (h.sweepOver p).mgmt.taking = h.mgmt.taking ∧
    (h.sweepOver p).mgmt.replyOwed = h.mgmt.replyOwed ∧
    (h.sweepOver p).mgmt.enables = h.mgmt.enables ∧
    (h.sweepOver p).mgmt.overflow = h.mgmt.overflow ∧
    (h.sweepOver p).trunk.up = h.trunk.up ∧
    (h.sweepOver p).trunk.lane = h.trunk.lane ∧
    (h.sweepOver p).trunk.grant = h.trunk.grant ∧
    (h.sweepOver p).trunk.lowShare = h.trunk.lowShare ∧
    (h.sweepOver p).trunk.replyGroup = h.trunk.replyGroup ∧
    (h.sweepOver p).trunk.replyBurst = h.trunk.replyBurst ∧
    (h.sweepOver p).trunk.bursts = h.trunk.bursts ∧
    (h.sweepOver p).trunk.sent = h.trunk.sent ∧
    (h.sweepOver p).trunk.losses = h.trunk.losses ∧
    (h.sweepOver p).trunk.images = h.trunk.images := by
  unfold Hub.sweepOver
  simp

/-- A stopped sweep ends without results (R79). -/
@[simp] theorem Hub.stopSweep_frame (h : Hub) (e : EngineNo) (p : Port) :
    (h.stopSweep e p).time = h.time ∧
    (h.stopSweep e p).requestedIso = h.requestedIso ∧
    (h.stopSweep e p).cell = h.cell ∧
    (h.stopSweep e p).encoder = h.encoder ∧
    (h.stopSweep e p).lines = h.lines ∧
    (h.stopSweep e p).view = h.view ∧
    (h.stopSweep e p).pipe = h.pipe ∧
    (h.stopSweep e p).freeCount = h.freeCount ∧
    (h.stopSweep e p).mgmt.requests = h.mgmt.requests ∧
    (h.stopSweep e p).mgmt.taking = h.mgmt.taking ∧
    (h.stopSweep e p).mgmt.replyOwed = h.mgmt.replyOwed ∧
    (h.stopSweep e p).mgmt.enables = h.mgmt.enables ∧
    (h.stopSweep e p).mgmt.overflow = h.mgmt.overflow ∧
    (h.stopSweep e p).trunk.up = h.trunk.up ∧
    (h.stopSweep e p).trunk.lane = h.trunk.lane ∧
    (h.stopSweep e p).trunk.grant = h.trunk.grant ∧
    (h.stopSweep e p).trunk.lowShare = h.trunk.lowShare ∧
    (h.stopSweep e p).trunk.replyGroup = h.trunk.replyGroup ∧
    (h.stopSweep e p).trunk.replyBurst = h.trunk.replyBurst ∧
    (h.stopSweep e p).trunk.bursts = h.trunk.bursts ∧
    (h.stopSweep e p).trunk.sent = h.trunk.sent ∧
    (h.stopSweep e p).trunk.losses = h.trunk.losses ∧
    (h.stopSweep e p).trunk.images = h.trunk.images := by
  unfold Hub.stopSweep
  simp

/-- A completed sweep (R75). -/
@[simp] theorem Hub.completeSweep_frame (h : Hub) (e : EngineNo) (c : SweepContext) :
    (h.completeSweep e c).time = h.time ∧
    (h.completeSweep e c).requestedIso = h.requestedIso ∧
    (h.completeSweep e c).cell = h.cell ∧
    (h.completeSweep e c).encoder = h.encoder ∧
    (h.completeSweep e c).lines = h.lines ∧
    (h.completeSweep e c).view = h.view ∧
    (h.completeSweep e c).pipe = h.pipe ∧
    (h.completeSweep e c).freeCount = h.freeCount ∧
    (h.completeSweep e c).mgmt.requests = h.mgmt.requests ∧
    (h.completeSweep e c).mgmt.taking = h.mgmt.taking ∧
    (h.completeSweep e c).mgmt.replyOwed = h.mgmt.replyOwed ∧
    (h.completeSweep e c).mgmt.enables = h.mgmt.enables ∧
    (h.completeSweep e c).mgmt.overflow = h.mgmt.overflow ∧
    (h.completeSweep e c).trunk.up = h.trunk.up ∧
    (h.completeSweep e c).trunk.lane = h.trunk.lane ∧
    (h.completeSweep e c).trunk.grant = h.trunk.grant ∧
    (h.completeSweep e c).trunk.lowShare = h.trunk.lowShare ∧
    (h.completeSweep e c).trunk.replyGroup = h.trunk.replyGroup ∧
    (h.completeSweep e c).trunk.replyBurst = h.trunk.replyBurst ∧
    (h.completeSweep e c).trunk.bursts = h.trunk.bursts ∧
    (h.completeSweep e c).trunk.sent = h.trunk.sent ∧
    (h.completeSweep e c).trunk.losses = h.trunk.losses ∧
    (h.completeSweep e c).trunk.images = h.trunk.images := by
  unfold Hub.completeSweep; dsimp only
  (repeat' split) <;> simp

/-- The end of a repeat (R69). -/
@[simp] theorem Hub.repeatEnd_frame (h : Hub) (e : EngineNo) (c : SweepContext) (t : HubTime) :
    (h.repeatEnd e c t).time = h.time ∧
    (h.repeatEnd e c t).requestedIso = h.requestedIso ∧
    (h.repeatEnd e c t).cell = h.cell ∧
    (h.repeatEnd e c t).encoder = h.encoder ∧
    (h.repeatEnd e c t).lines = h.lines ∧
    (h.repeatEnd e c t).view = h.view ∧
    (h.repeatEnd e c t).pipe = h.pipe ∧
    (h.repeatEnd e c t).freeCount = h.freeCount ∧
    (h.repeatEnd e c t).mgmt.requests = h.mgmt.requests ∧
    (h.repeatEnd e c t).mgmt.taking = h.mgmt.taking ∧
    (h.repeatEnd e c t).mgmt.replyOwed = h.mgmt.replyOwed ∧
    (h.repeatEnd e c t).mgmt.enables = h.mgmt.enables ∧
    (h.repeatEnd e c t).mgmt.overflow = h.mgmt.overflow ∧
    (h.repeatEnd e c t).trunk.up = h.trunk.up ∧
    (h.repeatEnd e c t).trunk.lane = h.trunk.lane ∧
    (h.repeatEnd e c t).trunk.grant = h.trunk.grant ∧
    (h.repeatEnd e c t).trunk.lowShare = h.trunk.lowShare ∧
    (h.repeatEnd e c t).trunk.replyGroup = h.trunk.replyGroup ∧
    (h.repeatEnd e c t).trunk.replyBurst = h.trunk.replyBurst ∧
    (h.repeatEnd e c t).trunk.bursts = h.trunk.bursts ∧
    (h.repeatEnd e c t).trunk.sent = h.trunk.sent ∧
    (h.repeatEnd e c t).trunk.losses = h.trunk.losses ∧
    (h.repeatEnd e c t).trunk.images = h.trunk.images := by
  unfold Hub.repeatEnd; (try dsimp only)
  (repeat' split) <;> simp

/-- The end of a shot (R69, R70). -/
@[simp] theorem Hub.shotEnd_frame (h : Hub) (e : EngineNo) (c : SweepContext) (tr : List (Nat × Int)) :
    (h.shotEnd e c tr).time = h.time ∧
    (h.shotEnd e c tr).requestedIso = h.requestedIso ∧
    (h.shotEnd e c tr).cell = h.cell ∧
    (h.shotEnd e c tr).encoder = h.encoder ∧
    (h.shotEnd e c tr).lines = h.lines ∧
    (h.shotEnd e c tr).view = h.view ∧
    (h.shotEnd e c tr).pipe = h.pipe ∧
    (h.shotEnd e c tr).freeCount = h.freeCount ∧
    (h.shotEnd e c tr).mgmt.requests = h.mgmt.requests ∧
    (h.shotEnd e c tr).mgmt.taking = h.mgmt.taking ∧
    (h.shotEnd e c tr).mgmt.replyOwed = h.mgmt.replyOwed ∧
    (h.shotEnd e c tr).mgmt.enables = h.mgmt.enables ∧
    (h.shotEnd e c tr).mgmt.overflow = h.mgmt.overflow ∧
    (h.shotEnd e c tr).trunk.up = h.trunk.up ∧
    (h.shotEnd e c tr).trunk.lane = h.trunk.lane ∧
    (h.shotEnd e c tr).trunk.grant = h.trunk.grant ∧
    (h.shotEnd e c tr).trunk.lowShare = h.trunk.lowShare ∧
    (h.shotEnd e c tr).trunk.replyGroup = h.trunk.replyGroup ∧
    (h.shotEnd e c tr).trunk.replyBurst = h.trunk.replyBurst ∧
    (h.shotEnd e c tr).trunk.bursts = h.trunk.bursts ∧
    (h.shotEnd e c tr).trunk.sent = h.trunk.sent ∧
    (h.shotEnd e c tr).trunk.losses = h.trunk.losses ∧
    (h.shotEnd e c tr).trunk.images = h.trunk.images := by
  unfold Hub.shotEnd; (try dsimp only)
  (repeat' split) <;> simp

/-- A step offered to a port fires at most its trigger (R111). -/
@[simp] theorem Hub.offerStep_frame (h : Hub) (fwd : Bool) (p : Port) :
    (h.offerStep fwd p).time = h.time ∧
    (h.offerStep fwd p).requestedIso = h.requestedIso ∧
    (h.offerStep fwd p).power = h.power ∧
    (h.offerStep fwd p).cell = h.cell ∧
    (h.offerStep fwd p).cable = h.cable ∧
    (h.offerStep fwd p).cables = h.cables ∧
    (h.offerStep fwd p).lens = h.lens ∧
    (h.offerStep fwd p).encoder = h.encoder ∧
    (h.offerStep fwd p).lines = h.lines ∧
    (h.offerStep fwd p).frames = h.frames ∧
    (h.offerStep fwd p).view = h.view ∧
    (h.offerStep fwd p).pipe = h.pipe ∧
    (h.offerStep fwd p).freeCount = h.freeCount ∧
    (h.offerStep fwd p).mgmt.requests = h.mgmt.requests ∧
    (h.offerStep fwd p).mgmt.taking = h.mgmt.taking ∧
    (h.offerStep fwd p).mgmt.replyOwed = h.mgmt.replyOwed ∧
    (h.offerStep fwd p).mgmt.enables = h.mgmt.enables ∧
    (h.offerStep fwd p).mgmt.overflow = h.mgmt.overflow ∧
    (h.offerStep fwd p).trunk.up = h.trunk.up ∧
    (h.offerStep fwd p).trunk.lane = h.trunk.lane ∧
    (h.offerStep fwd p).trunk.grant = h.trunk.grant ∧
    (h.offerStep fwd p).trunk.lowShare = h.trunk.lowShare ∧
    (h.offerStep fwd p).trunk.replyGroup = h.trunk.replyGroup ∧
    (h.offerStep fwd p).trunk.replyBurst = h.trunk.replyBurst ∧
    (h.offerStep fwd p).trunk.bursts = h.trunk.bursts ∧
    (h.offerStep fwd p).trunk.sent = h.trunk.sent ∧
    (h.offerStep fwd p).trunk.losses = h.trunk.losses ∧
    (h.offerStep fwd p).trunk.images = h.trunk.images := by
  unfold Hub.offerStep; dsimp only
  split <;> simp

/-- A step offered to several ports fires their triggers alone (R111). -/
@[simp] theorem foldl_offerStep_frame (h : Hub) (fwd : Bool) (l : List Port) :
    (l.foldl (fun h p => h.offerStep fwd p) h).time = h.time ∧
    (l.foldl (fun h p => h.offerStep fwd p) h).requestedIso = h.requestedIso ∧
    (l.foldl (fun h p => h.offerStep fwd p) h).power = h.power ∧
    (l.foldl (fun h p => h.offerStep fwd p) h).cell = h.cell ∧
    (l.foldl (fun h p => h.offerStep fwd p) h).cable = h.cable ∧
    (l.foldl (fun h p => h.offerStep fwd p) h).cables = h.cables ∧
    (l.foldl (fun h p => h.offerStep fwd p) h).lens = h.lens ∧
    (l.foldl (fun h p => h.offerStep fwd p) h).encoder = h.encoder ∧
    (l.foldl (fun h p => h.offerStep fwd p) h).lines = h.lines ∧
    (l.foldl (fun h p => h.offerStep fwd p) h).frames = h.frames ∧
    (l.foldl (fun h p => h.offerStep fwd p) h).view = h.view ∧
    (l.foldl (fun h p => h.offerStep fwd p) h).pipe = h.pipe ∧
    (l.foldl (fun h p => h.offerStep fwd p) h).freeCount = h.freeCount ∧
    (l.foldl (fun h p => h.offerStep fwd p) h).mgmt.requests = h.mgmt.requests ∧
    (l.foldl (fun h p => h.offerStep fwd p) h).mgmt.taking = h.mgmt.taking ∧
    (l.foldl (fun h p => h.offerStep fwd p) h).mgmt.replyOwed = h.mgmt.replyOwed ∧
    (l.foldl (fun h p => h.offerStep fwd p) h).mgmt.enables = h.mgmt.enables ∧
    (l.foldl (fun h p => h.offerStep fwd p) h).mgmt.overflow = h.mgmt.overflow ∧
    (l.foldl (fun h p => h.offerStep fwd p) h).trunk.up = h.trunk.up ∧
    (l.foldl (fun h p => h.offerStep fwd p) h).trunk.lane = h.trunk.lane ∧
    (l.foldl (fun h p => h.offerStep fwd p) h).trunk.grant = h.trunk.grant ∧
    (l.foldl (fun h p => h.offerStep fwd p) h).trunk.lowShare = h.trunk.lowShare ∧
    (l.foldl (fun h p => h.offerStep fwd p) h).trunk.replyGroup = h.trunk.replyGroup ∧
    (l.foldl (fun h p => h.offerStep fwd p) h).trunk.replyBurst = h.trunk.replyBurst ∧
    (l.foldl (fun h p => h.offerStep fwd p) h).trunk.bursts = h.trunk.bursts ∧
    (l.foldl (fun h p => h.offerStep fwd p) h).trunk.sent = h.trunk.sent ∧
    (l.foldl (fun h p => h.offerStep fwd p) h).trunk.losses = h.trunk.losses ∧
    (l.foldl (fun h p => h.offerStep fwd p) h).trunk.images = h.trunk.images :=
  ⟨foldl_keep (fun h : Hub => h.time) _ (fun _ _ => by simp) _ _, foldl_keep (fun h : Hub => h.requestedIso) _ (fun _ _ => by simp) _ _, foldl_keep (fun h : Hub => h.power) _ (fun _ _ => by simp) _ _, foldl_keep (fun h : Hub => h.cell) _ (fun _ _ => by simp) _ _, foldl_keep (fun h : Hub => h.cable) _ (fun _ _ => by simp) _ _, foldl_keep (fun h : Hub => h.cables) _ (fun _ _ => by simp) _ _, foldl_keep (fun h : Hub => h.lens) _ (fun _ _ => by simp) _ _, foldl_keep (fun h : Hub => h.encoder) _ (fun _ _ => by simp) _ _, foldl_keep (fun h : Hub => h.lines) _ (fun _ _ => by simp) _ _, foldl_keep (fun h : Hub => h.frames) _ (fun _ _ => by simp) _ _, foldl_keep (fun h : Hub => h.view) _ (fun _ _ => by simp) _ _, foldl_keep (fun h : Hub => h.pipe) _ (fun _ _ => by simp) _ _, foldl_keep (fun h : Hub => h.freeCount) _ (fun _ _ => by simp) _ _, foldl_keep (fun h : Hub => h.mgmt.requests) _ (fun _ _ => by simp) _ _, foldl_keep (fun h : Hub => h.mgmt.taking) _ (fun _ _ => by simp) _ _, foldl_keep (fun h : Hub => h.mgmt.replyOwed) _ (fun _ _ => by simp) _ _, foldl_keep (fun h : Hub => h.mgmt.enables) _ (fun _ _ => by simp) _ _, foldl_keep (fun h : Hub => h.mgmt.overflow) _ (fun _ _ => by simp) _ _, foldl_keep (fun h : Hub => h.trunk.up) _ (fun _ _ => by simp) _ _, foldl_keep (fun h : Hub => h.trunk.lane) _ (fun _ _ => by simp) _ _, foldl_keep (fun h : Hub => h.trunk.grant) _ (fun _ _ => by simp) _ _, foldl_keep (fun h : Hub => h.trunk.lowShare) _ (fun _ _ => by simp) _ _, foldl_keep (fun h : Hub => h.trunk.replyGroup) _ (fun _ _ => by simp) _ _, foldl_keep (fun h : Hub => h.trunk.replyBurst) _ (fun _ _ => by simp) _ _, foldl_keep (fun h : Hub => h.trunk.bursts) _ (fun _ _ => by simp) _ _, foldl_keep (fun h : Hub => h.trunk.sent) _ (fun _ _ => by simp) _ _, foldl_keep (fun h : Hub => h.trunk.losses) _ (fun _ _ => by simp) _ _, foldl_keep (fun h : Hub => h.trunk.images) _ (fun _ _ => by simp) _ _⟩

/-- A level change at the encoder changes the encoder and fires triggers (R105, R111). -/
@[simp] theorem Hub.encoderStep_frame (h : Hub) (a b : Bool) :
    (h.encoderStep a b).time = h.time ∧
    (h.encoderStep a b).requestedIso = h.requestedIso ∧
    (h.encoderStep a b).power = h.power ∧
    (h.encoderStep a b).cell = h.cell ∧
    (h.encoderStep a b).cable = h.cable ∧
    (h.encoderStep a b).cables = h.cables ∧
    (h.encoderStep a b).lens = h.lens ∧
    (h.encoderStep a b).lines = h.lines ∧
    (h.encoderStep a b).frames = h.frames ∧
    (h.encoderStep a b).view = h.view ∧
    (h.encoderStep a b).pipe = h.pipe ∧
    (h.encoderStep a b).freeCount = h.freeCount ∧
    (h.encoderStep a b).mgmt.requests = h.mgmt.requests ∧
    (h.encoderStep a b).mgmt.taking = h.mgmt.taking ∧
    (h.encoderStep a b).mgmt.replyOwed = h.mgmt.replyOwed ∧
    (h.encoderStep a b).mgmt.enables = h.mgmt.enables ∧
    (h.encoderStep a b).mgmt.overflow = h.mgmt.overflow ∧
    (h.encoderStep a b).trunk.up = h.trunk.up ∧
    (h.encoderStep a b).trunk.lane = h.trunk.lane ∧
    (h.encoderStep a b).trunk.grant = h.trunk.grant ∧
    (h.encoderStep a b).trunk.lowShare = h.trunk.lowShare ∧
    (h.encoderStep a b).trunk.replyGroup = h.trunk.replyGroup ∧
    (h.encoderStep a b).trunk.replyBurst = h.trunk.replyBurst ∧
    (h.encoderStep a b).trunk.bursts = h.trunk.bursts ∧
    (h.encoderStep a b).trunk.sent = h.trunk.sent ∧
    (h.encoderStep a b).trunk.losses = h.trunk.losses ∧
    (h.encoderStep a b).trunk.images = h.trunk.images := by
  unfold Hub.encoderStep; dsimp only
  split_ifs <;> simp

/-- A release changes the frame records alone (R133). -/
@[simp] theorem Hub.checkRelease_frame (h : Hub) (p : Port) (n : Nat) :
    (h.checkRelease p n).time = h.time ∧
    (h.checkRelease p n).requestedIso = h.requestedIso ∧
    (h.checkRelease p n).power = h.power ∧
    (h.checkRelease p n).cell = h.cell ∧
    (h.checkRelease p n).link = h.link ∧
    (h.checkRelease p n).cable = h.cable ∧
    (h.checkRelease p n).cables = h.cables ∧
    (h.checkRelease p n).lens = h.lens ∧
    (h.checkRelease p n).encoder = h.encoder ∧
    (h.checkRelease p n).lines = h.lines ∧
    (h.checkRelease p n).trig = h.trig ∧
    (h.checkRelease p n).view = h.view ∧
    (h.checkRelease p n).mgmt = h.mgmt ∧
    (h.checkRelease p n).trunk.up = h.trunk.up ∧
    (h.checkRelease p n).trunk.replies = h.trunk.replies ∧
    (h.checkRelease p n).trunk.lane = h.trunk.lane ∧
    (h.checkRelease p n).trunk.grant = h.trunk.grant ∧
    (h.checkRelease p n).trunk.lowShare = h.trunk.lowShare ∧
    (h.checkRelease p n).trunk.replyGroup = h.trunk.replyGroup ∧
    (h.checkRelease p n).trunk.replyBurst = h.trunk.replyBurst ∧
    (h.checkRelease p n).trunk.bursts = h.trunk.bursts ∧
    (h.checkRelease p n).trunk.sent = h.trunk.sent ∧
    (h.checkRelease p n).trunk.losses = h.trunk.losses ∧
    (h.checkRelease p n).trunk.discarded = h.trunk.discarded ∧
    (h.checkRelease p n).trunk.lastHigh = h.trunk.lastHigh ∧
    (h.checkRelease p n).trunk.lastLow = h.trunk.lastLow ∧
    (h.checkRelease p n).trunk.highRun = h.trunk.highRun := by
  unfold Hub.checkRelease
  simp

/-- A record changed changes the frame records alone. -/
@[simp] theorem Hub.modRecord_frame (h : Hub) (p : Port) (n : Nat) (g : FrameRecord → FrameRecord) :
    (h.modRecord p n g).time = h.time ∧
    (h.modRecord p n g).requestedIso = h.requestedIso ∧
    (h.modRecord p n g).power = h.power ∧
    (h.modRecord p n g).cell = h.cell ∧
    (h.modRecord p n g).link = h.link ∧
    (h.modRecord p n g).cable = h.cable ∧
    (h.modRecord p n g).cables = h.cables ∧
    (h.modRecord p n g).lens = h.lens ∧
    (h.modRecord p n g).encoder = h.encoder ∧
    (h.modRecord p n g).lines = h.lines ∧
    (h.modRecord p n g).trig = h.trig ∧
    (h.modRecord p n g).view = h.view ∧
    (h.modRecord p n g).mgmt = h.mgmt ∧
    (h.modRecord p n g).trunk.up = h.trunk.up ∧
    (h.modRecord p n g).trunk.replies = h.trunk.replies ∧
    (h.modRecord p n g).trunk.lane = h.trunk.lane ∧
    (h.modRecord p n g).trunk.grant = h.trunk.grant ∧
    (h.modRecord p n g).trunk.lowShare = h.trunk.lowShare ∧
    (h.modRecord p n g).trunk.replyGroup = h.trunk.replyGroup ∧
    (h.modRecord p n g).trunk.replyBurst = h.trunk.replyBurst ∧
    (h.modRecord p n g).trunk.bursts = h.trunk.bursts ∧
    (h.modRecord p n g).trunk.sent = h.trunk.sent ∧
    (h.modRecord p n g).trunk.losses = h.trunk.losses ∧
    (h.modRecord p n g).trunk.discarded = h.trunk.discarded ∧
    (h.modRecord p n g).trunk.lastHigh = h.trunk.lastHigh ∧
    (h.modRecord p n g).trunk.lastLow = h.trunk.lastLow ∧
    (h.modRecord p n g).trunk.highRun = h.trunk.highRun := by
  unfold Hub.modRecord
  simp

/-- The end of an item changes a pipeline and its records alone (R151). -/
@[simp] theorem Hub.endItem_frame (h : Hub) (p : Port) (fl : BitVec 32) :
    (h.endItem p fl).time = h.time ∧
    (h.endItem p fl).requestedIso = h.requestedIso ∧
    (h.endItem p fl).power = h.power ∧
    (h.endItem p fl).cell = h.cell ∧
    (h.endItem p fl).link = h.link ∧
    (h.endItem p fl).cable = h.cable ∧
    (h.endItem p fl).cables = h.cables ∧
    (h.endItem p fl).lens = h.lens ∧
    (h.endItem p fl).encoder = h.encoder ∧
    (h.endItem p fl).lines = h.lines ∧
    (h.endItem p fl).trig = h.trig ∧
    (h.endItem p fl).view = h.view ∧
    (h.endItem p fl).mgmt = h.mgmt ∧
    (h.endItem p fl).trunk.up = h.trunk.up ∧
    (h.endItem p fl).trunk.replies = h.trunk.replies ∧
    (h.endItem p fl).trunk.lane = h.trunk.lane ∧
    (h.endItem p fl).trunk.grant = h.trunk.grant ∧
    (h.endItem p fl).trunk.lowShare = h.trunk.lowShare ∧
    (h.endItem p fl).trunk.replyGroup = h.trunk.replyGroup ∧
    (h.endItem p fl).trunk.replyBurst = h.trunk.replyBurst ∧
    (h.endItem p fl).trunk.bursts = h.trunk.bursts ∧
    (h.endItem p fl).trunk.sent = h.trunk.sent ∧
    (h.endItem p fl).trunk.losses = h.trunk.losses ∧
    (h.endItem p fl).trunk.discarded = h.trunk.discarded ∧
    (h.endItem p fl).trunk.lastHigh = h.trunk.lastHigh ∧
    (h.endItem p fl).trunk.lastLow = h.trunk.lastLow ∧
    (h.endItem p fl).trunk.highRun = h.trunk.highRun := by
  unfold Hub.endItem
  split <;> simp

/-- An item begun changes a pipeline, its record and the free-value index alone (R147). -/
@[simp] theorem Hub.beginItem_frame (h : Hub) (p : Port) (i : WorkItem) (r : FrameRecord) :
    (h.beginItem p i r).time = h.time ∧
    (h.beginItem p i r).requestedIso = h.requestedIso ∧
    (h.beginItem p i r).power = h.power ∧
    (h.beginItem p i r).cell = h.cell ∧
    (h.beginItem p i r).link = h.link ∧
    (h.beginItem p i r).cable = h.cable ∧
    (h.beginItem p i r).cables = h.cables ∧
    (h.beginItem p i r).lens = h.lens ∧
    (h.beginItem p i r).encoder = h.encoder ∧
    (h.beginItem p i r).lines = h.lines ∧
    (h.beginItem p i r).trig = h.trig ∧
    (h.beginItem p i r).view = h.view ∧
    (h.beginItem p i r).mgmt = h.mgmt ∧
    (h.beginItem p i r).trunk.up = h.trunk.up ∧
    (h.beginItem p i r).trunk.replies = h.trunk.replies ∧
    (h.beginItem p i r).trunk.lane = h.trunk.lane ∧
    (h.beginItem p i r).trunk.grant = h.trunk.grant ∧
    (h.beginItem p i r).trunk.lowShare = h.trunk.lowShare ∧
    (h.beginItem p i r).trunk.replyGroup = h.trunk.replyGroup ∧
    (h.beginItem p i r).trunk.replyBurst = h.trunk.replyBurst ∧
    (h.beginItem p i r).trunk.bursts = h.trunk.bursts ∧
    (h.beginItem p i r).trunk.sent = h.trunk.sent ∧
    (h.beginItem p i r).trunk.losses = h.trunk.losses ∧
    (h.beginItem p i r).trunk.discarded = h.trunk.discarded ∧
    (h.beginItem p i r).trunk.lastHigh = h.trunk.lastHigh ∧
    (h.beginItem p i r).trunk.lastLow = h.trunk.lastLow ∧
    (h.beginItem p i r).trunk.highRun = h.trunk.highRun := by
  unfold Hub.beginItem; dsimp only
  split <;> simp

/-- A packet placed changes an image queue alone (R157). -/
@[simp] theorem Hub.placeImage_frame (h : Hub) (p : Port) (k : Packet) :
    (h.placeImage p k).time = h.time ∧
    (h.placeImage p k).requestedIso = h.requestedIso ∧
    (h.placeImage p k).power = h.power ∧
    (h.placeImage p k).cell = h.cell ∧
    (h.placeImage p k).link = h.link ∧
    (h.placeImage p k).cable = h.cable ∧
    (h.placeImage p k).cables = h.cables ∧
    (h.placeImage p k).lens = h.lens ∧
    (h.placeImage p k).encoder = h.encoder ∧
    (h.placeImage p k).lines = h.lines ∧
    (h.placeImage p k).trig = h.trig ∧
    (h.placeImage p k).view = h.view ∧
    (h.placeImage p k).mgmt = h.mgmt ∧
    (h.placeImage p k).trunk.up = h.trunk.up ∧
    (h.placeImage p k).trunk.replies = h.trunk.replies ∧
    (h.placeImage p k).trunk.lane = h.trunk.lane ∧
    (h.placeImage p k).trunk.grant = h.trunk.grant ∧
    (h.placeImage p k).trunk.lowShare = h.trunk.lowShare ∧
    (h.placeImage p k).trunk.replyGroup = h.trunk.replyGroup ∧
    (h.placeImage p k).trunk.replyBurst = h.trunk.replyBurst ∧
    (h.placeImage p k).trunk.bursts = h.trunk.bursts ∧
    (h.placeImage p k).trunk.sent = h.trunk.sent ∧
    (h.placeImage p k).trunk.losses = h.trunk.losses ∧
    (h.placeImage p k).trunk.discarded = h.trunk.discarded ∧
    (h.placeImage p k).trunk.lastHigh = h.trunk.lastHigh ∧
    (h.placeImage p k).trunk.lastLow = h.trunk.lastLow ∧
    (h.placeImage p k).trunk.highRun = h.trunk.highRun := by
  unfold Hub.placeImage
  simp

/-- A packet taken changes a pipeline alone (R151). -/
@[simp] theorem Hub.planTaken_frame (h : Hub) (p : Port) (f : OutputPlan → OutputPlan) :
    (h.planTaken p f).time = h.time ∧
    (h.planTaken p f).requestedIso = h.requestedIso ∧
    (h.planTaken p f).power = h.power ∧
    (h.planTaken p f).cell = h.cell ∧
    (h.planTaken p f).link = h.link ∧
    (h.planTaken p f).cable = h.cable ∧
    (h.planTaken p f).cables = h.cables ∧
    (h.planTaken p f).lens = h.lens ∧
    (h.planTaken p f).encoder = h.encoder ∧
    (h.planTaken p f).lines = h.lines ∧
    (h.planTaken p f).trig = h.trig ∧
    (h.planTaken p f).view = h.view ∧
    (h.planTaken p f).mgmt = h.mgmt ∧
    (h.planTaken p f).trunk.up = h.trunk.up ∧
    (h.planTaken p f).trunk.replies = h.trunk.replies ∧
    (h.planTaken p f).trunk.lane = h.trunk.lane ∧
    (h.planTaken p f).trunk.grant = h.trunk.grant ∧
    (h.planTaken p f).trunk.lowShare = h.trunk.lowShare ∧
    (h.planTaken p f).trunk.replyGroup = h.trunk.replyGroup ∧
    (h.planTaken p f).trunk.replyBurst = h.trunk.replyBurst ∧
    (h.planTaken p f).trunk.bursts = h.trunk.bursts ∧
    (h.planTaken p f).trunk.sent = h.trunk.sent ∧
    (h.planTaken p f).trunk.losses = h.trunk.losses ∧
    (h.planTaken p f).trunk.discarded = h.trunk.discarded ∧
    (h.planTaken p f).trunk.lastHigh = h.trunk.lastHigh ∧
    (h.planTaken p f).trunk.lastLow = h.trunk.lastLow ∧
    (h.planTaken p f).trunk.highRun = h.trunk.highRun := by
  unfold Hub.planTaken
  simp

/-- A FRAME_CLOSE taken marks a pipeline alone (R164). -/
@[simp] theorem Hub.closeTaken_frame (h : Hub) (p : Port) (serial : Nat) :
    (h.closeTaken p serial).time = h.time ∧
    (h.closeTaken p serial).requestedIso = h.requestedIso ∧
    (h.closeTaken p serial).power = h.power ∧
    (h.closeTaken p serial).cell = h.cell ∧
    (h.closeTaken p serial).link = h.link ∧
    (h.closeTaken p serial).cable = h.cable ∧
    (h.closeTaken p serial).cables = h.cables ∧
    (h.closeTaken p serial).lens = h.lens ∧
    (h.closeTaken p serial).encoder = h.encoder ∧
    (h.closeTaken p serial).lines = h.lines ∧
    (h.closeTaken p serial).trig = h.trig ∧
    (h.closeTaken p serial).view = h.view ∧
    (h.closeTaken p serial).mgmt = h.mgmt ∧
    (h.closeTaken p serial).trunk.up = h.trunk.up ∧
    (h.closeTaken p serial).trunk.replies = h.trunk.replies ∧
    (h.closeTaken p serial).trunk.lane = h.trunk.lane ∧
    (h.closeTaken p serial).trunk.grant = h.trunk.grant ∧
    (h.closeTaken p serial).trunk.lowShare = h.trunk.lowShare ∧
    (h.closeTaken p serial).trunk.replyGroup = h.trunk.replyGroup ∧
    (h.closeTaken p serial).trunk.replyBurst = h.trunk.replyBurst ∧
    (h.closeTaken p serial).trunk.bursts = h.trunk.bursts ∧
    (h.closeTaken p serial).trunk.sent = h.trunk.sent ∧
    (h.closeTaken p serial).trunk.losses = h.trunk.losses ∧
    (h.closeTaken p serial).trunk.discarded = h.trunk.discarded ∧
    (h.closeTaken p serial).trunk.lastHigh = h.trunk.lastHigh ∧
    (h.closeTaken p serial).trunk.lastLow = h.trunk.lastLow ∧
    (h.closeTaken p serial).trunk.highRun = h.trunk.highRun := by
  unfold Hub.closeTaken
  simp

/-- The FRAME_CLOSEs that a loss finds change a pipeline and its frame records alone (R164). -/
@[simp] theorem Hub.closesLost_frame (h : Hub) (p : Port) :
    (h.closesLost p).time = h.time ∧
    (h.closesLost p).requestedIso = h.requestedIso ∧
    (h.closesLost p).power = h.power ∧
    (h.closesLost p).cell = h.cell ∧
    (h.closesLost p).link = h.link ∧
    (h.closesLost p).cable = h.cable ∧
    (h.closesLost p).cables = h.cables ∧
    (h.closesLost p).lens = h.lens ∧
    (h.closesLost p).encoder = h.encoder ∧
    (h.closesLost p).lines = h.lines ∧
    (h.closesLost p).trig = h.trig ∧
    (h.closesLost p).view = h.view ∧
    (h.closesLost p).mgmt = h.mgmt ∧
    (h.closesLost p).trunk.up = h.trunk.up ∧
    (h.closesLost p).trunk.replies = h.trunk.replies ∧
    (h.closesLost p).trunk.lane = h.trunk.lane ∧
    (h.closesLost p).trunk.grant = h.trunk.grant ∧
    (h.closesLost p).trunk.lowShare = h.trunk.lowShare ∧
    (h.closesLost p).trunk.replyGroup = h.trunk.replyGroup ∧
    (h.closesLost p).trunk.replyBurst = h.trunk.replyBurst ∧
    (h.closesLost p).trunk.bursts = h.trunk.bursts ∧
    (h.closesLost p).trunk.sent = h.trunk.sent ∧
    (h.closesLost p).trunk.losses = h.trunk.losses ∧
    (h.closesLost p).trunk.discarded = h.trunk.discarded ∧
    (h.closesLost p).trunk.lastHigh = h.trunk.lastHigh ∧
    (h.closesLost p).trunk.lastLow = h.trunk.lastLow ∧
    (h.closesLost p).trunk.highRun = h.trunk.highRun := by
  unfold Hub.closesLost
  simp

/-- A pipeline's run changes the pipelines, the frame records, the image queues and the free-value index alone (R146 to
R154). -/
@[simp] theorem Hub.pipeRun_frame (m : Memory) (p : Port) : ∀ (n : Nat) (h : Hub),
    (Hub.pipeRun m p n h).time = h.time ∧
    (Hub.pipeRun m p n h).requestedIso = h.requestedIso ∧
    (Hub.pipeRun m p n h).power = h.power ∧
    (Hub.pipeRun m p n h).cell = h.cell ∧
    (Hub.pipeRun m p n h).link = h.link ∧
    (Hub.pipeRun m p n h).cable = h.cable ∧
    (Hub.pipeRun m p n h).cables = h.cables ∧
    (Hub.pipeRun m p n h).lens = h.lens ∧
    (Hub.pipeRun m p n h).encoder = h.encoder ∧
    (Hub.pipeRun m p n h).lines = h.lines ∧
    (Hub.pipeRun m p n h).trig = h.trig ∧
    (Hub.pipeRun m p n h).view = h.view ∧
    (Hub.pipeRun m p n h).mgmt = h.mgmt ∧
    (Hub.pipeRun m p n h).trunk.up = h.trunk.up ∧
    (Hub.pipeRun m p n h).trunk.replies = h.trunk.replies ∧
    (Hub.pipeRun m p n h).trunk.lane = h.trunk.lane ∧
    (Hub.pipeRun m p n h).trunk.grant = h.trunk.grant ∧
    (Hub.pipeRun m p n h).trunk.lowShare = h.trunk.lowShare ∧
    (Hub.pipeRun m p n h).trunk.replyGroup = h.trunk.replyGroup ∧
    (Hub.pipeRun m p n h).trunk.replyBurst = h.trunk.replyBurst ∧
    (Hub.pipeRun m p n h).trunk.bursts = h.trunk.bursts ∧
    (Hub.pipeRun m p n h).trunk.sent = h.trunk.sent ∧
    (Hub.pipeRun m p n h).trunk.losses = h.trunk.losses ∧
    (Hub.pipeRun m p n h).trunk.discarded = h.trunk.discarded ∧
    (Hub.pipeRun m p n h).trunk.lastHigh = h.trunk.lastHigh ∧
    (Hub.pipeRun m p n h).trunk.lastLow = h.trunk.lastLow ∧
    (Hub.pipeRun m p n h).trunk.highRun = h.trunk.highRun
  | 0, h => by simp [Hub.pipeRun]
  | n + 1, h => by
    have ih := Hub.pipeRun_frame m p n
    unfold Hub.pipeRun; dsimp only
    (repeat' split) <;> simp [ih]

/-- As for Hub.pipeRun. -/
@[simp] theorem Hub.pipeAct_frame (h : Hub) (m : Memory) (p : Port) :
    (h.pipeAct m p).time = h.time ∧
    (h.pipeAct m p).requestedIso = h.requestedIso ∧
    (h.pipeAct m p).power = h.power ∧
    (h.pipeAct m p).cell = h.cell ∧
    (h.pipeAct m p).link = h.link ∧
    (h.pipeAct m p).cable = h.cable ∧
    (h.pipeAct m p).cables = h.cables ∧
    (h.pipeAct m p).lens = h.lens ∧
    (h.pipeAct m p).encoder = h.encoder ∧
    (h.pipeAct m p).lines = h.lines ∧
    (h.pipeAct m p).trig = h.trig ∧
    (h.pipeAct m p).view = h.view ∧
    (h.pipeAct m p).mgmt = h.mgmt ∧
    (h.pipeAct m p).trunk.up = h.trunk.up ∧
    (h.pipeAct m p).trunk.replies = h.trunk.replies ∧
    (h.pipeAct m p).trunk.lane = h.trunk.lane ∧
    (h.pipeAct m p).trunk.grant = h.trunk.grant ∧
    (h.pipeAct m p).trunk.lowShare = h.trunk.lowShare ∧
    (h.pipeAct m p).trunk.replyGroup = h.trunk.replyGroup ∧
    (h.pipeAct m p).trunk.replyBurst = h.trunk.replyBurst ∧
    (h.pipeAct m p).trunk.bursts = h.trunk.bursts ∧
    (h.pipeAct m p).trunk.sent = h.trunk.sent ∧
    (h.pipeAct m p).trunk.losses = h.trunk.losses ∧
    (h.pipeAct m p).trunk.discarded = h.trunk.discarded ∧
    (h.pipeAct m p).trunk.lastHigh = h.trunk.lastHigh ∧
    (h.pipeAct m p).trunk.lastLow = h.trunk.lastLow ∧
    (h.pipeAct m p).trunk.highRun = h.trunk.highRun := by
  unfold Hub.pipeAct
  simp

/-- As for Hub.pipeRun. -/
@[simp] theorem Hub.pipeWake_frame (h : Hub) (m : Memory) (p : Port) :
    (h.pipeWake m p).time = h.time ∧
    (h.pipeWake m p).requestedIso = h.requestedIso ∧
    (h.pipeWake m p).power = h.power ∧
    (h.pipeWake m p).cell = h.cell ∧
    (h.pipeWake m p).link = h.link ∧
    (h.pipeWake m p).cable = h.cable ∧
    (h.pipeWake m p).cables = h.cables ∧
    (h.pipeWake m p).lens = h.lens ∧
    (h.pipeWake m p).encoder = h.encoder ∧
    (h.pipeWake m p).lines = h.lines ∧
    (h.pipeWake m p).trig = h.trig ∧
    (h.pipeWake m p).view = h.view ∧
    (h.pipeWake m p).mgmt = h.mgmt ∧
    (h.pipeWake m p).trunk.up = h.trunk.up ∧
    (h.pipeWake m p).trunk.replies = h.trunk.replies ∧
    (h.pipeWake m p).trunk.lane = h.trunk.lane ∧
    (h.pipeWake m p).trunk.grant = h.trunk.grant ∧
    (h.pipeWake m p).trunk.lowShare = h.trunk.lowShare ∧
    (h.pipeWake m p).trunk.replyGroup = h.trunk.replyGroup ∧
    (h.pipeWake m p).trunk.replyBurst = h.trunk.replyBurst ∧
    (h.pipeWake m p).trunk.bursts = h.trunk.bursts ∧
    (h.pipeWake m p).trunk.sent = h.trunk.sent ∧
    (h.pipeWake m p).trunk.losses = h.trunk.losses ∧
    (h.pipeWake m p).trunk.discarded = h.trunk.discarded ∧
    (h.pipeWake m p).trunk.lastHigh = h.trunk.lastHigh ∧
    (h.pipeWake m p).trunk.lastLow = h.trunk.lastLow ∧
    (h.pipeWake m p).trunk.highRun = h.trunk.highRun := by
  unfold Hub.pipeWake
  split <;> simp

/-- The end of a queue changes the queues alone. -/
@[simp] theorem Trunk.dropHead_frame (t : Trunk) (q : QueueNo) :
    (t.dropHead q).up = t.up ∧
    (t.dropHead q).bursts = t.bursts ∧
    (t.dropHead q).replyGroup = t.replyGroup ∧
    (t.dropHead q).replyBurst = t.replyBurst ∧
    (t.dropHead q).lowShare = t.lowShare ∧
    (t.dropHead q).highRun = t.highRun ∧
    (t.dropHead q).lastHigh = t.lastHigh ∧
    (t.dropHead q).lastLow = t.lastLow ∧
    (t.dropHead q).grant = t.grant ∧
    (t.dropHead q).sent = t.sent ∧
    (t.dropHead q).losses = t.losses ∧
    (t.dropHead q).discarded = t.discarded ∧
    (t.dropHead q).lane = t.lane := by
  unfold Trunk.dropHead
  split <;> simp

/-- A grant changes the arbiter's items alone (R160 to R162). -/
@[simp] theorem Hub.grantDecision_frame (h : Hub) :
    (h.grantDecision).time = h.time ∧
    (h.grantDecision).requestedIso = h.requestedIso ∧
    (h.grantDecision).power = h.power ∧
    (h.grantDecision).cell = h.cell ∧
    (h.grantDecision).link = h.link ∧
    (h.grantDecision).cable = h.cable ∧
    (h.grantDecision).cables = h.cables ∧
    (h.grantDecision).lens = h.lens ∧
    (h.grantDecision).encoder = h.encoder ∧
    (h.grantDecision).lines = h.lines ∧
    (h.grantDecision).trig = h.trig ∧
    (h.grantDecision).view = h.view ∧
    (h.grantDecision).mgmt.requests = h.mgmt.requests ∧
    (h.grantDecision).mgmt.overflow = h.mgmt.overflow ∧
    (h.grantDecision).mgmt.slots = h.mgmt.slots ∧
    (h.grantDecision).mgmt.answered = h.mgmt.answered ∧
    (h.grantDecision).mgmt.lateReplies = h.mgmt.lateReplies ∧
    (h.grantDecision).mgmt.portFlags = h.mgmt.portFlags ∧
    (h.grantDecision).mgmt.partFlags = h.mgmt.partFlags ∧
    (h.grantDecision).mgmt.enables = h.mgmt.enables ∧
    (h.grantDecision).mgmt.unsent = h.mgmt.unsent ∧
    (h.grantDecision).mgmt.replyOwed = h.mgmt.replyOwed ∧
    (h.grantDecision).trunk.up = h.trunk.up ∧
    (h.grantDecision).trunk.lowShare = h.trunk.lowShare ∧
    (h.grantDecision).trunk.replyGroup = h.trunk.replyGroup ∧
    (h.grantDecision).trunk.replyBurst = h.trunk.replyBurst ∧
    (h.grantDecision).trunk.bursts = h.trunk.bursts ∧
    (h.grantDecision).trunk.losses = h.trunk.losses ∧
    (h.grantDecision).trunk.discarded = h.trunk.discarded := by
  unfold Hub.grantDecision; dsimp only
  split <;> simp

/-- A send begun changes the trunk and the pipeline it makes room for (R159). -/
@[simp] theorem Hub.beginSend_frame (h : Hub) (m : Memory) :
    (h.beginSend m).time = h.time ∧
    (h.beginSend m).requestedIso = h.requestedIso ∧
    (h.beginSend m).power = h.power ∧
    (h.beginSend m).cell = h.cell ∧
    (h.beginSend m).link = h.link ∧
    (h.beginSend m).cable = h.cable ∧
    (h.beginSend m).cables = h.cables ∧
    (h.beginSend m).lens = h.lens ∧
    (h.beginSend m).encoder = h.encoder ∧
    (h.beginSend m).lines = h.lines ∧
    (h.beginSend m).trig = h.trig ∧
    (h.beginSend m).view = h.view ∧
    (h.beginSend m).mgmt.requests = h.mgmt.requests ∧
    (h.beginSend m).mgmt.overflow = h.mgmt.overflow ∧
    (h.beginSend m).mgmt.slots = h.mgmt.slots ∧
    (h.beginSend m).mgmt.answered = h.mgmt.answered ∧
    (h.beginSend m).mgmt.lateReplies = h.mgmt.lateReplies ∧
    (h.beginSend m).mgmt.portFlags = h.mgmt.portFlags ∧
    (h.beginSend m).mgmt.partFlags = h.mgmt.partFlags ∧
    (h.beginSend m).mgmt.enables = h.mgmt.enables ∧
    (h.beginSend m).mgmt.unsent = h.mgmt.unsent ∧
    (h.beginSend m).mgmt.replyOwed = h.mgmt.replyOwed ∧
    (h.beginSend m).trunk.up = h.trunk.up ∧
    (h.beginSend m).trunk.lowShare = h.trunk.lowShare ∧
    (h.beginSend m).trunk.replyGroup = h.trunk.replyGroup ∧
    (h.beginSend m).trunk.replyBurst = h.trunk.replyBurst ∧
    (h.beginSend m).trunk.bursts = h.trunk.bursts ∧
    (h.beginSend m).trunk.losses = h.trunk.losses ∧
    (h.beginSend m).trunk.discarded = h.trunk.discarded := by
  unfold Hub.beginSend; (try dsimp only)
  (repeat' split) <;> simp

/-- The arbiter changes the trunk and the pipelines alone (R160). -/
@[simp] theorem Hub.arbitrate_frame (h : Hub) (m : Memory) :
    (h.arbitrate m).time = h.time ∧
    (h.arbitrate m).requestedIso = h.requestedIso ∧
    (h.arbitrate m).power = h.power ∧
    (h.arbitrate m).cell = h.cell ∧
    (h.arbitrate m).link = h.link ∧
    (h.arbitrate m).cable = h.cable ∧
    (h.arbitrate m).cables = h.cables ∧
    (h.arbitrate m).lens = h.lens ∧
    (h.arbitrate m).encoder = h.encoder ∧
    (h.arbitrate m).lines = h.lines ∧
    (h.arbitrate m).trig = h.trig ∧
    (h.arbitrate m).view = h.view ∧
    (h.arbitrate m).mgmt.requests = h.mgmt.requests ∧
    (h.arbitrate m).mgmt.overflow = h.mgmt.overflow ∧
    (h.arbitrate m).mgmt.slots = h.mgmt.slots ∧
    (h.arbitrate m).mgmt.answered = h.mgmt.answered ∧
    (h.arbitrate m).mgmt.lateReplies = h.mgmt.lateReplies ∧
    (h.arbitrate m).mgmt.portFlags = h.mgmt.portFlags ∧
    (h.arbitrate m).mgmt.partFlags = h.mgmt.partFlags ∧
    (h.arbitrate m).mgmt.enables = h.mgmt.enables ∧
    (h.arbitrate m).mgmt.unsent = h.mgmt.unsent ∧
    (h.arbitrate m).mgmt.replyOwed = h.mgmt.replyOwed ∧
    (h.arbitrate m).trunk.up = h.trunk.up ∧
    (h.arbitrate m).trunk.lowShare = h.trunk.lowShare ∧
    (h.arbitrate m).trunk.replyGroup = h.trunk.replyGroup ∧
    (h.arbitrate m).trunk.replyBurst = h.trunk.replyBurst ∧
    (h.arbitrate m).trunk.bursts = h.trunk.bursts ∧
    (h.arbitrate m).trunk.losses = h.trunk.losses ∧
    (h.arbitrate m).trunk.discarded = h.trunk.discarded := by
  unfold Hub.arbitrate
  split <;> simp

/-- The taking state alone (R169). -/
@[simp] theorem Hub.updateTaking_frame (h : Hub) :
    (h.updateTaking).time = h.time ∧
    (h.updateTaking).requestedIso = h.requestedIso ∧
    (h.updateTaking).power = h.power ∧
    (h.updateTaking).cell = h.cell ∧
    (h.updateTaking).link = h.link ∧
    (h.updateTaking).cable = h.cable ∧
    (h.updateTaking).cables = h.cables ∧
    (h.updateTaking).lens = h.lens ∧
    (h.updateTaking).encoder = h.encoder ∧
    (h.updateTaking).lines = h.lines ∧
    (h.updateTaking).trig = h.trig ∧
    (h.updateTaking).view = h.view ∧
    (h.updateTaking).mgmt.requests = h.mgmt.requests ∧
    (h.updateTaking).mgmt.overflow = h.mgmt.overflow ∧
    (h.updateTaking).mgmt.slots = h.mgmt.slots ∧
    (h.updateTaking).mgmt.answered = h.mgmt.answered ∧
    (h.updateTaking).mgmt.lateReplies = h.mgmt.lateReplies ∧
    (h.updateTaking).mgmt.portFlags = h.mgmt.portFlags ∧
    (h.updateTaking).mgmt.partFlags = h.mgmt.partFlags ∧
    (h.updateTaking).mgmt.enables = h.mgmt.enables ∧
    (h.updateTaking).mgmt.unsent = h.mgmt.unsent ∧
    (h.updateTaking).mgmt.replyOwed = h.mgmt.replyOwed ∧
    (h.updateTaking).trunk.up = h.trunk.up ∧
    (h.updateTaking).trunk.lowShare = h.trunk.lowShare ∧
    (h.updateTaking).trunk.replyGroup = h.trunk.replyGroup ∧
    (h.updateTaking).trunk.replyBurst = h.trunk.replyBurst ∧
    (h.updateTaking).trunk.bursts = h.trunk.bursts ∧
    (h.updateTaking).trunk.losses = h.trunk.losses ∧
    (h.updateTaking).trunk.discarded = h.trunk.discarded := by
  unfold Hub.updateTaking
  simp

/-- The end of an event changes the trunk, the pipelines, the frame records and the taking state alone (log entry 10). -/
@[simp] theorem Hub.settle_frame (h : Hub) (m : Memory) :
    (h.settle m).time = h.time ∧
    (h.settle m).requestedIso = h.requestedIso ∧
    (h.settle m).power = h.power ∧
    (h.settle m).cell = h.cell ∧
    (h.settle m).link = h.link ∧
    (h.settle m).cable = h.cable ∧
    (h.settle m).cables = h.cables ∧
    (h.settle m).lens = h.lens ∧
    (h.settle m).encoder = h.encoder ∧
    (h.settle m).lines = h.lines ∧
    (h.settle m).trig = h.trig ∧
    (h.settle m).view = h.view ∧
    (h.settle m).mgmt.requests = h.mgmt.requests ∧
    (h.settle m).mgmt.overflow = h.mgmt.overflow ∧
    (h.settle m).mgmt.slots = h.mgmt.slots ∧
    (h.settle m).mgmt.answered = h.mgmt.answered ∧
    (h.settle m).mgmt.lateReplies = h.mgmt.lateReplies ∧
    (h.settle m).mgmt.portFlags = h.mgmt.portFlags ∧
    (h.settle m).mgmt.partFlags = h.mgmt.partFlags ∧
    (h.settle m).mgmt.enables = h.mgmt.enables ∧
    (h.settle m).mgmt.unsent = h.mgmt.unsent ∧
    (h.settle m).mgmt.replyOwed = h.mgmt.replyOwed ∧
    (h.settle m).trunk.up = h.trunk.up ∧
    (h.settle m).trunk.lowShare = h.trunk.lowShare ∧
    (h.settle m).trunk.replyGroup = h.trunk.replyGroup ∧
    (h.settle m).trunk.replyBurst = h.trunk.replyBurst ∧
    (h.settle m).trunk.bursts = h.trunk.bursts ∧
    (h.settle m).trunk.losses = h.trunk.losses ∧
    (h.settle m).trunk.discarded = h.trunk.discarded := by
  unfold Hub.settle
  simp

end Sys2Proof.Machine
end

