-- ==== Sys2Proof/Laws/Takings.lean ====
section
/-! SUPPORT. The taking of a request and the happening of an event, each said once (R169, log entry 3): a request that is
asked answers with what its owner leaves; an event whose condition holds leaves what its rule gives. -/

namespace Sys2Proof.Machine

/-! ## The request taken: nothing but the Management Unit changes -/

@[simp] theorem Hub.popRequest_time (h : Hub) : h.popRequest.time = h.time := rfl
@[simp] theorem Hub.popRequest_requestedIso (h : Hub) : h.popRequest.requestedIso = h.requestedIso := rfl
@[simp] theorem Hub.popRequest_power (h : Hub) : h.popRequest.power = h.power := rfl
@[simp] theorem Hub.popRequest_cell (h : Hub) : h.popRequest.cell = h.cell := rfl
@[simp] theorem Hub.popRequest_link (h : Hub) : h.popRequest.link = h.link := rfl
@[simp] theorem Hub.popRequest_cable (h : Hub) : h.popRequest.cable = h.cable := rfl
@[simp] theorem Hub.popRequest_cables (h : Hub) : h.popRequest.cables = h.cables := rfl
@[simp] theorem Hub.popRequest_lens (h : Hub) : h.popRequest.lens = h.lens := rfl
@[simp] theorem Hub.popRequest_encoder (h : Hub) : h.popRequest.encoder = h.encoder := rfl
@[simp] theorem Hub.popRequest_lines (h : Hub) : h.popRequest.lines = h.lines := rfl
@[simp] theorem Hub.popRequest_trig (h : Hub) : h.popRequest.trig = h.trig := rfl
@[simp] theorem Hub.popRequest_frames (h : Hub) : h.popRequest.frames = h.frames := rfl
@[simp] theorem Hub.popRequest_view (h : Hub) : h.popRequest.view = h.view := rfl
@[simp] theorem Hub.popRequest_pipe (h : Hub) : h.popRequest.pipe = h.pipe := rfl
@[simp] theorem Hub.popRequest_trunk (h : Hub) : h.popRequest.trunk = h.trunk := rfl
@[simp] theorem Hub.popRequest_freeCount (h : Hub) : h.popRequest.freeCount = h.freeCount := rfl
@[simp] theorem Hub.popRequest_pw (h : Hub) (p : Port) : h.popRequest.pw p = h.pw p := rfl
@[simp] theorem Hub.popRequest_lk (h : Hub) (p : Port) : h.popRequest.lk p = h.lk p := rfl
@[simp] theorem Hub.popRequest_cb (h : Hub) (p : Port) : h.popRequest.cb p = h.cb p := rfl
@[simp] theorem Hub.popRequest_ln (h : Hub) (p : Port) : h.popRequest.ln p = h.ln p := rfl
@[simp] theorem Hub.popRequest_tg (h : Hub) (p : Port) : h.popRequest.tg p = h.tg p := rfl
@[simp] theorem Hub.popRequest_fr (h : Hub) (p : Port) : h.popRequest.fr p = h.fr p := rfl
@[simp] theorem Hub.popRequest_pl (h : Hub) (p : Port) : h.popRequest.pl p = h.pl p := rfl
@[simp] theorem Hub.popRequest_line (h : Hub) (p : LineNo) : h.popRequest.line p = h.line p := rfl
@[simp] theorem Hub.popRequest_effectiveIso (h : Hub) (p : Port) : h.popRequest.effectiveIso p = h.effectiveIso p := rfl
@[simp] theorem Hub.popRequest_engine (h : Hub) (p : EngineNo) : h.popRequest.engine p = h.engine p := rfl
@[simp] theorem Hub.popRequest_commandRefusal (h : Hub) (p : Port) : h.popRequest.commandRefusal p = h.commandRefusal p := rfl
@[simp] theorem Hub.popRequest_queuePackets (h : Hub) (p : QueueNo) : h.popRequest.queuePackets p = h.queuePackets p := rfl
@[simp] theorem Hub.popRequest_groupOf (h : Hub) (p : QueueNo) : h.popRequest.groupOf p = h.groupOf p := rfl
@[simp] theorem Hub.popRequest_ax (h : Hub) (p : Port) (x : AxisId) : h.popRequest.ax p x = h.ax p x := rfl
@[simp] theorem Hub.popRequest_grantedTotal (h : Hub) : h.popRequest.grantedTotal = h.grantedTotal := rfl
@[simp] theorem Hub.popRequest_admissionTotal (h : Hub) : h.popRequest.admissionTotal = h.admissionTotal := rfl
@[simp] theorem Hub.popRequest_freeSlot (h : Hub) : h.popRequest.freeSlot = h.freeSlot := rfl
@[simp] theorem Hub.replyDue_time (h : Hub) : h.replyDue.time = h.time := rfl
@[simp] theorem Hub.replyDue_requestedIso (h : Hub) : h.replyDue.requestedIso = h.requestedIso := rfl
@[simp] theorem Hub.replyDue_power (h : Hub) : h.replyDue.power = h.power := rfl
@[simp] theorem Hub.replyDue_cell (h : Hub) : h.replyDue.cell = h.cell := rfl
@[simp] theorem Hub.replyDue_link (h : Hub) : h.replyDue.link = h.link := rfl
@[simp] theorem Hub.replyDue_cable (h : Hub) : h.replyDue.cable = h.cable := rfl
@[simp] theorem Hub.replyDue_cables (h : Hub) : h.replyDue.cables = h.cables := rfl
@[simp] theorem Hub.replyDue_lens (h : Hub) : h.replyDue.lens = h.lens := rfl
@[simp] theorem Hub.replyDue_encoder (h : Hub) : h.replyDue.encoder = h.encoder := rfl
@[simp] theorem Hub.replyDue_lines (h : Hub) : h.replyDue.lines = h.lines := rfl
@[simp] theorem Hub.replyDue_trig (h : Hub) : h.replyDue.trig = h.trig := rfl
@[simp] theorem Hub.replyDue_frames (h : Hub) : h.replyDue.frames = h.frames := rfl
@[simp] theorem Hub.replyDue_view (h : Hub) : h.replyDue.view = h.view := rfl
@[simp] theorem Hub.replyDue_pipe (h : Hub) : h.replyDue.pipe = h.pipe := rfl
@[simp] theorem Hub.replyDue_trunk (h : Hub) : h.replyDue.trunk = h.trunk := rfl
@[simp] theorem Hub.replyDue_freeCount (h : Hub) : h.replyDue.freeCount = h.freeCount := rfl
@[simp] theorem Hub.replyDue_pw (h : Hub) (p : Port) : h.replyDue.pw p = h.pw p := rfl
@[simp] theorem Hub.replyDue_lk (h : Hub) (p : Port) : h.replyDue.lk p = h.lk p := rfl
@[simp] theorem Hub.replyDue_cb (h : Hub) (p : Port) : h.replyDue.cb p = h.cb p := rfl
@[simp] theorem Hub.replyDue_ln (h : Hub) (p : Port) : h.replyDue.ln p = h.ln p := rfl
@[simp] theorem Hub.replyDue_tg (h : Hub) (p : Port) : h.replyDue.tg p = h.tg p := rfl
@[simp] theorem Hub.replyDue_fr (h : Hub) (p : Port) : h.replyDue.fr p = h.fr p := rfl
@[simp] theorem Hub.replyDue_pl (h : Hub) (p : Port) : h.replyDue.pl p = h.pl p := rfl
@[simp] theorem Hub.replyDue_line (h : Hub) (p : LineNo) : h.replyDue.line p = h.line p := rfl
@[simp] theorem Hub.replyDue_effectiveIso (h : Hub) (p : Port) : h.replyDue.effectiveIso p = h.effectiveIso p := rfl
@[simp] theorem Hub.replyDue_engine (h : Hub) (p : EngineNo) : h.replyDue.engine p = h.engine p := rfl
@[simp] theorem Hub.replyDue_commandRefusal (h : Hub) (p : Port) : h.replyDue.commandRefusal p = h.commandRefusal p := rfl
@[simp] theorem Hub.replyDue_queuePackets (h : Hub) (p : QueueNo) : h.replyDue.queuePackets p = h.queuePackets p := rfl
@[simp] theorem Hub.replyDue_groupOf (h : Hub) (p : QueueNo) : h.replyDue.groupOf p = h.groupOf p := rfl
@[simp] theorem Hub.replyDue_ax (h : Hub) (p : Port) (x : AxisId) : h.replyDue.ax p x = h.ax p x := rfl
@[simp] theorem Hub.replyDue_grantedTotal (h : Hub) : h.replyDue.grantedTotal = h.grantedTotal := rfl
@[simp] theorem Hub.replyDue_admissionTotal (h : Hub) : h.replyDue.admissionTotal = h.admissionTotal := rfl
@[simp] theorem Hub.replyDue_freeSlot (h : Hub) : h.replyDue.freeSlot = h.freeSlot := rfl

/-! ## Takings -/

/-- A request that is asked answers with what its owner leaves (R169). -/
theorem State.answers_of_take {i : Instr} {s : State} {pkt : Packet} {c : ReqCode} {r : ReqHeader} {ps : List Byte}
    {owner : Byte → Hub → Hub × Reply} (parts : requestPartsOf i = some (c, r, ps))
    (means : exec i s = s.take c r ps owner) (asked : s.asks i pkt = true) :
    s.Answers i pkt (owner pkt.port s.hub.popRequest).1 (owner pkt.port s.hub.popRequest).2 := by
  refine ⟨c, r, ps, parts, ?_⟩
  simp only [State.asks, parts, decide_eq_true_eq] at asked
  simp only [means, State.take, State.takeLater, asked, State.event, Hub.takeHead, atOnce, State.afterTaking]

/-- No port's target byte is the hub's. -/
theorem targetPort_ne_hub {b : Byte} {p : Port} (h : targetPort b = some p) : b ≠ hubTarget := by
  rintro rfl
  exact absurd h (by revert p; decide)

/-- A request that is asked for a port, at an owner of port requests. -/
theorem State.answers_forPort {i : Instr} {s : State} {pkt : Packet} {p : Port} {c : ReqCode} {r : ReqHeader}
    {ps : List Byte} {owner : Port → Hub → Hub × Reply} {h : Hub} {reply : Reply}
    (parts : requestPartsOf i = some (c, r, ps)) (means : exec i s = s.take c r ps (forPort owner))
    (asked : s.asksPort i pkt p = true) (left : owner p s.hub.popRequest = (h, reply)) :
    s.Answers i pkt h reply := by
  simp only [State.asksPort, Bool.and_eq_true, decide_eq_true_eq] at asked
  simpa [forPort, asked.2, left] using State.answers_of_take parts means asked.1

/-- A request that is asked for the hub, at an owner of hub requests. -/
theorem State.answers_forHub {i : Instr} {s : State} {pkt : Packet} {c : ReqCode} {r : ReqHeader} {ps : List Byte}
    {owner : Hub → Hub × Reply} {h : Hub} {reply : Reply} (parts : requestPartsOf i = some (c, r, ps))
    (means : exec i s = s.take c r ps (forHub owner)) (asked : s.asksHub i pkt = true)
    (left : owner s.hub.popRequest = (h, reply)) : s.Answers i pkt h reply := by
  simp only [State.asksHub, Bool.and_eq_true, decide_eq_true_eq] at asked
  simpa [forHub, asked.2, left] using State.answers_of_take parts means asked.1

/-- A request that is asked for a port, at an owner of both targets. -/
theorem State.answers_forEither_port {i : Instr} {s : State} {pkt : Packet} {p : Port} {c : ReqCode} {r : ReqHeader}
    {ps : List Byte} {owner : Option Port → Hub → Hub × Reply} {h : Hub} {reply : Reply}
    (parts : requestPartsOf i = some (c, r, ps)) (means : exec i s = s.take c r ps (forEither owner))
    (asked : s.asksPort i pkt p = true) (left : owner (some p) s.hub.popRequest = (h, reply)) :
    s.Answers i pkt h reply := by
  simp only [State.asksPort, Bool.and_eq_true, decide_eq_true_eq] at asked
  simpa [forEither, asked.2, left, targetPort_ne_hub asked.2] using State.answers_of_take parts means asked.1

/-- A request that is asked for the hub, at an owner of both targets. -/
theorem State.answers_forEither_hub {i : Instr} {s : State} {pkt : Packet} {c : ReqCode} {r : ReqHeader}
    {ps : List Byte} {owner : Option Port → Hub → Hub × Reply} {h : Hub} {reply : Reply}
    (parts : requestPartsOf i = some (c, r, ps)) (means : exec i s = s.take c r ps (forEither owner))
    (asked : s.asksHub i pkt = true) (left : owner none s.hub.popRequest = (h, reply)) : s.Answers i pkt h reply := by
  simp only [State.asksHub, Bool.and_eq_true, decide_eq_true_eq] at asked
  simpa [forEither, asked.2, left] using State.answers_of_take parts means asked.1

/-! ## Events -/

/-- An event whose condition holds leaves what its rule gives. -/
theorem State.does_of_when {i : Instr} {s : State} {b : Bool} {f : Hub → Hub} (means : exec i s = s.when b f)
    (holds : b = true) : s.Does i (f s.hub) := by
  simp [State.Does, means, State.when, holds, State.event]

/-- An event whose condition does not hold changes nothing (log entry 3). -/
theorem State.next_of_not_when {i : Instr} {s : State} {b : Bool} {f : Hub → Hub} (means : exec i s = s.when b f)
    (fails : b = false) : exec i s = .next s := by simp [means, State.when, fails]

end Sys2Proof.Machine
end

