-- ==== Sys2Proof/Laws/Ports.lean ====
section
/-! SUPPORT. What the shared operations on one port leave alone at every other port, and that they only add to the latched
event flags (R172): one lemma of each kind for each operation. -/

namespace Sys2Proof.Machine

/-- No flag set in h is clear in h'. -/
def Hub.FlagsGrow (h h' : Hub) : Prop :=
  (∀ q f, vget h.mgmt.portFlags q &&& f = f → vget h'.mgmt.portFlags q &&& f = f) ∧
    ∀ f, h.mgmt.partFlags &&& f = f → h'.mgmt.partFlags &&& f = f

theorem Hub.FlagsGrow.refl (h : Hub) : h.FlagsGrow h := ⟨fun _ _ e => e, fun _ e => e⟩

theorem Hub.FlagsGrow.trans {a b c : Hub} (h : a.FlagsGrow b) (k : b.FlagsGrow c) : a.FlagsGrow c :=
  ⟨fun q f e => k.1 q f (h.1 q f e), fun f e => k.2 f (h.2 f e)⟩

theorem Hub.FlagsGrow.of_eq {a b : Hub} (h : b.mgmt.portFlags = a.mgmt.portFlags) (k : b.mgmt.partFlags = a.mgmt.partFlags) :
    a.FlagsGrow b := ⟨fun q f e => by rw [h]; exact e, fun f e => by rw [k]; exact e⟩


theorem and_or_keep {a b f : BitVec 16} (e : a &&& f = f) : (a ||| b) &&& f = f := by
  ext i hi
  have := congrArg (fun x => x[i]) e
  simp at this ⊢
  cases h1 : a[i] <;> cases h2 : f[i] <;> simp_all

theorem and_or_self (a f : BitVec 16) : (a ||| f) &&& f = f := by
  ext i hi
  simp
  cases h2 : f[i] <;> simp_all

/-- The flags after flags are raised: those of the event are added to the port's and to the part's (R172). -/
@[simp] theorem Hub.raise_portFlags (h : Hub) (p : Port) (a b : BitVec 16) :
    (h.raise p a b).mgmt.portFlags = vmod h.mgmt.portFlags p (· ||| a) := by
  unfold Hub.raise Hub.noticeFor Hub.setFlags Hub.offerNotice Hub.offerReply; dsimp only
  (repeat' split) <;> simp
@[simp] theorem Hub.raise_partFlags (h : Hub) (p : Port) (a b : BitVec 16) :
    (h.raise p a b).mgmt.partFlags = h.mgmt.partFlags ||| b := by
  unfold Hub.raise Hub.noticeFor Hub.setFlags Hub.offerNotice Hub.offerReply; dsimp only
  (repeat' split) <;> simp
@[simp] theorem Hub.setFlags_portFlags (h : Hub) (p : Port) (a b : BitVec 16) :
    (h.setFlags p a b).mgmt.portFlags = vmod h.mgmt.portFlags p (· ||| a) := rfl
@[simp] theorem Hub.setFlags_partFlags (h : Hub) (p : Port) (a b : BitVec 16) :
    (h.setFlags p a b).mgmt.partFlags = h.mgmt.partFlags ||| b := rfl
@[simp] theorem Hub.noticeFor_portFlags (h : Hub) (a : BitVec 16) :
    (h.noticeFor a).mgmt.portFlags = h.mgmt.portFlags := by
  unfold Hub.noticeFor Hub.offerNotice Hub.offerReply; dsimp only
  (repeat' split) <;> simp
@[simp] theorem Hub.noticeFor_partFlags (h : Hub) (a : BitVec 16) :
    (h.noticeFor a).mgmt.partFlags = h.mgmt.partFlags := by
  unfold Hub.noticeFor Hub.offerNotice Hub.offerReply; dsimp only
  (repeat' split) <;> simp
theorem Hub.flag_has (h : Hub) (p : Port) (f : BitVec 16) : vget (h.flag p f).mgmt.portFlags p &&& f = f := by
  simp [Hub.flag, and_or_self]
theorem Hub.setFlags_grow (h : Hub) (p : Port) (a b : BitVec 16) : h.FlagsGrow (h.setFlags p a b) := by
  refine ⟨fun q f e => ?_, fun f e => ?_⟩
  · rw [Hub.setFlags_portFlags, vget_vmod]
    by_cases hq : q = p
    · subst hq; simpa using and_or_keep e
    · simpa [hq] using e
  · rw [Hub.setFlags_partFlags]; exact and_or_keep e
theorem Hub.raise_grow (h : Hub) (p : Port) (a b : BitVec 16) : h.FlagsGrow (h.raise p a b) := by
  refine ⟨fun q f e => ?_, fun f e => ?_⟩
  · rw [Hub.raise_portFlags, vget_vmod]
    by_cases hq : q = p
    · subst hq; simpa using and_or_keep e
    · simpa [hq] using e
  · rw [Hub.raise_partFlags]; exact and_or_keep e

/-- A command queued is its port's (R27). -/
@[simp] theorem Hub.queueCommand_other (h : Hub) (p : Port) (isAttr : Bool) (mk : BitVec 8 → Command) {q : Port} (e : q ≠ p) :
    vget (h.queueCommand p isAttr mk).link q = vget h.link q := by
  unfold Hub.queueCommand; (try dsimp only)
  (repeat' split) <;> simp [e, vget_vmod_ne, Hub.modAxis]

/-- A trigger sent is its port's (R115). -/
@[simp] theorem Hub.sendTrigger_other (h : Hub) (p : Port) (fired : FiredAt) (mv : Bool) {q : Port} (e : q ≠ p) :
    vget (h.sendTrigger p fired mv).link q = vget h.link q ∧
    vget (h.sendTrigger p fired mv).trig q = vget h.trig q := by
  unfold Hub.sendTrigger; (try dsimp only)
  (repeat' split) <;> simp [e, vget_vmod_ne, Hub.modAxis]

/-- A trigger fired is its port's (R114). -/
@[simp] theorem Hub.fire_other (h : Hub) (p : Port) {q : Port} (e : q ≠ p) :
    vget ((h.fire p).1).link q = vget h.link q ∧
    vget ((h.fire p).1).trig q = vget h.trig q := by
  unfold Hub.fire; (try dsimp only)
  (repeat' split) <;> simp [e, vget_vmod_ne, Hub.modAxis]

/-- A release is its port's (R116). -/
@[simp] theorem Hub.releaseDeferred_other (h : Hub) (p : Port) {q : Port} (e : q ≠ p) :
    vget (h.releaseDeferred p).link q = vget h.link q ∧
    vget (h.releaseDeferred p).trig q = vget h.trig q := by
  unfold Hub.releaseDeferred; (try dsimp only)
  (repeat' split) <;> simp [e, vget_vmod_ne, Hub.modAxis]

/-- A resolution is its port's (R117). -/
@[simp] theorem Hub.resolveId_other (h : Hub) (p : Port) (id : Nat) {q : Port} (e : q ≠ p) :
    vget ((h.resolveId p id).1).trig q = vget h.trig q := by
  unfold Hub.resolveId; (try dsimp only)
  (repeat' split) <;> simp [e, vget_vmod_ne, Hub.modAxis]

/-- A drop at the Trigger Unit is its port's (R119). -/
@[simp] theorem Hub.dropTrigger_other (h : Hub) (p : Port) {q : Port} (e : q ≠ p) :
    vget (h.dropTrigger p).trig q = vget h.trig q := by
  unfold Hub.dropTrigger; (try dsimp only)
  (repeat' split) <;> simp [e, vget_vmod_ne, Hub.modAxis]

/-- The report of a last axis is its port's (R86). -/
@[simp] theorem Hub.reportIdle_other (h : Hub) (p : Port) {q : Port} (e : q ≠ p) :
    vget (h.reportIdle p).power q = vget h.power q ∧
    vget (h.reportIdle p).link q = vget h.link q ∧
    vget (h.reportIdle p).trig q = vget h.trig q := by
  unfold Hub.reportIdle; (try dsimp only)
  (repeat' split) <;> simp [e, vget_vmod_ne, Hub.modAxis]

/-- An allowance is its port's (R42). -/
@[simp] theorem Hub.holdAllowance_other (h : Hub) (p : Port) {q : Port} (e : q ≠ p) :
    vget (h.holdAllowance p).power q = vget h.power q := by
  unfold Hub.holdAllowance; (try dsimp only)
  (repeat' split) <;> simp [e, vget_vmod_ne, Hub.modAxis]

/-- A lens command is its port's (R87). -/
@[simp] theorem Hub.lensCommand_other (h : Hub) (p : Port) (c : Command) {q : Port} (e : q ≠ p) :
    vget ((h.lensCommand p c).1).power q = vget h.power q ∧
    vget ((h.lensCommand p c).1).link q = vget h.link q ∧
    vget ((h.lensCommand p c).1).trig q = vget h.trig q := by
  unfold Hub.lensCommand; (try dsimp only)
  (repeat' split) <;> simp [e, vget_vmod_ne, Hub.modAxis]

/-- A completion at an axis is its port's (R93). -/
@[simp] theorem Hub.completeLens_other (h : Hub) (p : Port) (x : AxisId) (how : Completion) {q : Port} (e : q ≠ p) :
    vget (h.completeLens p x how).power q = vget h.power q ∧
    vget (h.completeLens p x how).link q = vget h.link q ∧
    vget (h.completeLens p x how).lens q = vget h.lens q ∧
    vget (h.completeLens p x how).trig q = vget h.trig q := by
  unfold Hub.completeLens; dsimp only
  (repeat' split) <;> simp [e, vget_vmod_ne, Hub.modAxis]

/-- A lens report is its port's (R94). -/
@[simp] theorem Hub.lensReport_other (h : Hub) (p : Port) (axis position kind : Nat) {q : Port} (e : q ≠ p) :
    vget (h.lensReport p axis position kind).power q = vget h.power q ∧
    vget (h.lensReport p axis position kind).link q = vget h.link q ∧
    vget (h.lensReport p axis position kind).lens q = vget h.lens q ∧
    vget (h.lensReport p axis position kind).trig q = vget h.trig q := by
  unfold Hub.lensReport Hub.ignoreReport; dsimp only
  (repeat' split) <;> simp [e, vget_vmod_ne, Hub.modAxis]

/-- A drop at the Lens Controller is its port's (R97). -/
@[simp] theorem Hub.dropLens_other (h : Hub) (p : Port) {q : Port} (e : q ≠ p) :
    vget (h.dropLens p).power q = vget h.power q ∧
    vget (h.dropLens p).link q = vget h.link q ∧
    vget (h.dropLens p).lens q = vget h.lens q ∧
    vget (h.dropLens p).trig q = vget h.trig q := by
  unfold Hub.dropLens; (try dsimp only)
  (repeat' split) <;> simp [e, vget_vmod_ne, Hub.modAxis]

/-- A departure from ON is its port's (R98). -/
@[simp] theorem Hub.lensPowerLost_other (h : Hub) (p : Port) {q : Port} (e : q ≠ p) :
    vget (h.lensPowerLost p).power q = vget h.power q ∧
    vget (h.lensPowerLost p).link q = vget h.link q ∧
    vget (h.lensPowerLost p).lens q = vget h.lens q ∧
    vget (h.lensPowerLost p).trig q = vget h.trig q := by
  unfold Hub.lensPowerLost; (try dsimp only)
  (repeat' split) <;> simp [e, vget_vmod_ne, Hub.modAxis]

/-- A degraded link marks its port's record (R128). -/
@[simp] theorem Hub.degradeFilling_other (h : Hub) (p : Port) {q : Port} (e : q ≠ p) :
    vget (h.degradeFilling p).frames q = vget h.frames q := by
  unfold Hub.degradeFilling; (try dsimp only)
  (repeat' split) <;> simp [e, vget_vmod_ne, Hub.modAxis]

/-- A drop at frame memory is its port's (R131). -/
@[simp] theorem Hub.dropFrame_other (h : Hub) (p : Port) {q : Port} (e : q ≠ p) :
    vget (h.dropFrame p).frames q = vget h.frames q := by
  unfold Hub.dropFrame; (try dsimp only)
  (repeat' split) <;> simp [e, vget_vmod_ne, Hub.modAxis]

/-- Admission is its port's (R125). -/
@[simp] theorem Hub.admit_other (h : Hub) (p : Port) (number w ht id : Nat) (res : Resolution) {q : Port} (e : q ≠ p) :
    vget (h.admitFrame p number w ht id res).frames q = vget h.frames q := by
  unfold Hub.admitFrame; (try dsimp only)
  (repeat' split) <;> simp [e, vget_vmod_ne, Hub.modAxis]

/-- A link error is its port's (R24). -/
@[simp] theorem Hub.linkError_other (h : Hub) (p : Port) {q : Port} (e : q ≠ p) :
    vget (h.linkError p).link q = vget h.link q ∧
    vget (h.linkError p).frames q = vget h.frames q := by
  unfold Hub.linkError; dsimp only
  split <;> simp [e, vget_vmod_ne]

/-- A completed command is its port's (R29). -/
@[simp] theorem Hub.completeCommand_other (h : Hub) (p : Port) (c : Command) (how : Completion) {q : Port} (e : q ≠ p) :
    vget (h.completeCommand p c how).power q = vget h.power q ∧
    vget (h.completeCommand p c how).link q = vget h.link q ∧
    vget (h.completeCommand p c how).lens q = vget h.lens q ∧
    vget (h.completeCommand p c how).trig q = vget h.trig q := by
  unfold Hub.completeCommand; (try dsimp only)
  (repeat' split) <;> simp [e, vget_vmod_ne, Hub.modAxis]

/-- Completions of several commands of a port are its own (R22). -/
@[simp] theorem foldl_completeCommand_other (h : Hub) (p : Port) (l : List Command) (how : Completion) {q : Port} (e : q ≠ p) :
    vget (l.foldl (fun h c => h.completeCommand p c how) h).power q = vget h.power q ∧
    vget (l.foldl (fun h c => h.completeCommand p c how) h).link q = vget h.link q ∧
    vget (l.foldl (fun h c => h.completeCommand p c how) h).lens q = vget h.lens q ∧
    vget (l.foldl (fun h c => h.completeCommand p c how) h).trig q = vget h.trig q :=
  ⟨foldl_keep (fun h : Hub => vget h.power q) _ (fun _ _ => by simp [e]) _ _, foldl_keep (fun h : Hub => vget h.link q) _ (fun _ _ => by simp [e]) _ _, foldl_keep (fun h : Hub => vget h.lens q) _ (fun _ _ => by simp [e]) _ _, foldl_keep (fun h : Hub => vget h.trig q) _ (fun _ _ => by simp [e]) _ _⟩

/-- A link drop is its port's (R22). -/
@[simp] theorem Hub.drop_other (h : Hub) (p : Port) (cause : DropCause) (enter : LinkCtl → LinkCtl) {q : Port} (e : q ≠ p) :
    vget (h.drop p cause enter).power q = vget h.power q ∧
    vget (h.drop p cause enter).link q = vget h.link q ∧
    vget (h.drop p cause enter).lens q = vget h.lens q ∧
    vget (h.drop p cause enter).trig q = vget h.trig q ∧
    vget (h.drop p cause enter).frames q = vget h.frames q := by
  unfold Hub.drop; dsimp only
  simp [e, vget_vmod_ne]

/-- A departure from ON is its port's (R20, R50). -/
@[simp] theorem Hub.linkPowerLost_other (h : Hub) (p : Port) {q : Port} (e : q ≠ p) :
    vget (h.linkPowerLost p).power q = vget h.power q ∧
    vget (h.linkPowerLost p).link q = vget h.link q ∧
    vget (h.linkPowerLost p).lens q = vget h.lens q ∧
    vget (h.linkPowerLost p).trig q = vget h.trig q ∧
    vget (h.linkPowerLost p).frames q = vget h.frames q := by
  unfold Hub.linkPowerLost; (try dsimp only)
  (repeat' split) <;> simp [e, vget_vmod_ne, Hub.modAxis]

/-- A departure from ON is its port's (R20, R50). -/
@[simp] theorem Hub.leftOn_other (h : Hub) (p : Port) {q : Port} (e : q ≠ p) :
    vget (h.leftOn p).power q = vget h.power q ∧
    vget (h.leftOn p).link q = vget h.link q ∧
    vget (h.leftOn p).lens q = vget h.lens q ∧
    vget (h.leftOn p).trig q = vget h.trig q ∧
    vget (h.leftOn p).frames q = vget h.frames q := by
  unfold Hub.leftOn; (try dsimp only)
  (repeat' split) <;> simp [e, vget_vmod_ne, Hub.modAxis]

/-- A port turned off is alone in it (R9, R50). -/
@[simp] theorem Hub.turnOff_other (h : Hub) (p : Port) (cause : OffCause) (part : BitVec 16) {q : Port} (e : q ≠ p) :
    vget (h.turnOff p cause part).power q = vget h.power q ∧
    vget (h.turnOff p cause part).link q = vget h.link q ∧
    vget (h.turnOff p cause part).lens q = vget h.lens q ∧
    vget (h.turnOff p cause part).trig q = vget h.trig q ∧
    vget (h.turnOff p cause part).frames q = vget h.frames q := by
  unfold Hub.turnOff; dsimp only
  split <;> simp [e, vget_vmod_ne]

/-- Entering DETECTING is the port's (R44). -/
@[simp] theorem Hub.enterDetecting_other (h : Hub) (p : Port) {q : Port} (e : q ≠ p) :
    vget (h.enterDetecting p).power q = vget h.power q := by
  unfold Hub.enterDetecting; (try dsimp only)
  (repeat' split) <;> simp [e, vget_vmod_ne, Hub.modAxis]

/-- It is the port's alone (R9, R51 to R55). -/
@[simp] theorem Hub.isolationRise_other (h : Hub) (p : Port) {q : Port} (e : q ≠ p) :
    vget (h.isolationRise p).power q = vget h.power q ∧
    vget (h.isolationRise p).link q = vget h.link q ∧
    vget (h.isolationRise p).lens q = vget h.lens q ∧
    vget (h.isolationRise p).trig q = vget h.trig q ∧
    vget (h.isolationRise p).frames q = vget h.frames q := by
  unfold Hub.isolationRise; (try dsimp only)
  (repeat' split) <;> simp [e, vget_vmod_ne, Hub.modAxis]

/-- It is the port's alone (R9, R51 to R55). -/
@[simp] theorem Hub.retry_other (h : Hub) (p : Port) {q : Port} (e : q ≠ p) :
    vget (h.retry p).power q = vget h.power q ∧
    vget (h.retry p).link q = vget h.link q ∧
    vget (h.retry p).lens q = vget h.lens q ∧
    vget (h.retry p).trig q = vget h.trig q ∧
    vget (h.retry p).frames q = vget h.frames q := by
  unfold Hub.retry; (try dsimp only)
  (repeat' split) <;> simp [e, vget_vmod_ne, Hub.modAxis]

/-- It is the port's alone (R9, R51 to R55). -/
@[simp] theorem Hub.cooldownOver_other (h : Hub) (p : Port) {q : Port} (e : q ≠ p) :
    vget (h.cooldownOver p).power q = vget h.power q ∧
    vget (h.cooldownOver p).link q = vget h.link q ∧
    vget (h.cooldownOver p).lens q = vget h.lens q ∧
    vget (h.cooldownOver p).trig q = vget h.trig q ∧
    vget (h.cooldownOver p).frames q = vget h.frames q := by
  unfold Hub.cooldownOver; (try dsimp only)
  (repeat' split) <;> simp [e, vget_vmod_ne, Hub.modAxis]

/-- It is the port's alone (R9, R51 to R55). -/
@[simp] theorem Hub.sweepReported_other (h : Hub) (p : Port) {q : Port} (e : q ≠ p) :
    vget (h.sweepReported p).power q = vget h.power q ∧
    vget (h.sweepReported p).link q = vget h.link q ∧
    vget (h.sweepReported p).lens q = vget h.lens q ∧
    vget (h.sweepReported p).trig q = vget h.trig q ∧
    vget (h.sweepReported p).frames q = vget h.frames q := by
  unfold Hub.sweepReported; (try dsimp only)
  (repeat' split) <;> simp [e, vget_vmod_ne, Hub.modAxis]

/-- It is the port's alone (R9, R51 to R55). -/
@[simp] theorem Hub.powerDown_other (h : Hub) (p : Port) {q : Port} (e : q ≠ p) :
    vget (h.powerDown p).power q = vget h.power q ∧
    vget (h.powerDown p).link q = vget h.link q ∧
    vget (h.powerDown p).lens q = vget h.lens q ∧
    vget (h.powerDown p).trig q = vget h.trig q ∧
    vget (h.powerDown p).frames q = vget h.frames q := by
  unfold Hub.powerDown; (try dsimp only)
  (repeat' split) <;> simp [e, vget_vmod_ne, Hub.modAxis]

/-- It is the port's alone (R9, R51 to R55). -/
@[simp] theorem Hub.powerOff_other (h : Hub) (p : Port) {q : Port} (e : q ≠ p) :
    vget (h.powerOff p).power q = vget h.power q ∧
    vget (h.powerOff p).link q = vget h.link q ∧
    vget (h.powerOff p).lens q = vget h.lens q ∧
    vget (h.powerOff p).trig q = vget h.trig q ∧
    vget (h.powerOff p).frames q = vget h.frames q := by
  unfold Hub.powerOff; (try dsimp only)
  (repeat' split) <;> simp [e, vget_vmod_ne, Hub.modAxis]

/-- An automatic request powers its own port down (R67). -/
@[simp] theorem Hub.autoSweep_other (h : Hub) (p : Port) (o : SweepOrigin) {q : Port} (e : q ≠ p) :
    vget (h.autoSweep p o).power q = vget h.power q ∧
    vget (h.autoSweep p o).link q = vget h.link q ∧
    vget (h.autoSweep p o).lens q = vget h.lens q ∧
    vget (h.autoSweep p o).trig q = vget h.trig q ∧
    vget (h.autoSweep p o).frames q = vget h.frames q := by
  unfold Hub.autoSweep; (try dsimp only)
  (repeat' split) <;> simp [e, vget_vmod_ne, Hub.modAxis]

/-- As for Hub.autoSweep. -/
@[simp] theorem Hub.maySweep_other (h : Hub) (p : Port) (o : Option SweepOrigin) {q : Port} (e : q ≠ p) :
    vget (h.maySweep p o).power q = vget h.power q ∧
    vget (h.maySweep p o).link q = vget h.link q ∧
    vget (h.maySweep p o).lens q = vget h.lens q ∧
    vget (h.maySweep p o).trig q = vget h.trig q ∧
    vget (h.maySweep p o).frames q = vget h.frames q := by
  unfold Hub.maySweep; (try dsimp only)
  (repeat' split) <;> simp [e, vget_vmod_ne, Hub.modAxis]

/-- A trip is its port's (R48). -/
@[simp] theorem Hub.trip_other (h : Hub) (p : Port) (c : OffCause) {q : Port} (e : q ≠ p) :
    vget (h.trip p c).power q = vget h.power q ∧
    vget (h.trip p c).link q = vget h.link q ∧
    vget (h.trip p c).lens q = vget h.lens q ∧
    vget (h.trip p c).trig q = vget h.trig q ∧
    vget (h.trip p c).frames q = vget h.frames q := by
  unfold Hub.trip; dsimp only
  split_ifs <;> simp [e, vget_vmod_ne]

/-- A detection is its port's (R45). -/
@[simp] theorem Hub.detected_other (h : Hub) (p : Port) (load : Nat) {q : Port} (e : q ≠ p) :
    vget (h.detected p load).power q = vget h.power q ∧
    vget (h.detected p load).link q = vget h.link q ∧
    vget (h.detected p load).lens q = vget h.lens q ∧
    vget (h.detected p load).trig q = vget h.trig q ∧
    vget (h.detected p load).frames q = vget h.frames q := by
  unfold Hub.detected; dsimp only
  split_ifs <;> simp [e, vget_vmod_ne]

/-- Training is its port's (R17). -/
@[simp] theorem Hub.beginTraining_other (h : Hub) (p : Port) {q : Port} (e : q ≠ p) :
    vget (h.beginTraining p).link q = vget h.link q := by
  unfold Hub.beginTraining; (try dsimp only)
  (repeat' split) <;> simp [e, vget_vmod_ne, Hub.modAxis]

/-- A loss of lock is its port's (R21). -/
@[simp] theorem Hub.lossOfLock_other (h : Hub) (p : Port) {q : Port} (e : q ≠ p) :
    vget (h.lossOfLock p).power q = vget h.power q ∧
    vget (h.lossOfLock p).link q = vget h.link q ∧
    vget (h.lossOfLock p).lens q = vget h.lens q ∧
    vget (h.lossOfLock p).trig q = vget h.trig q ∧
    vget (h.lossOfLock p).frames q = vget h.frames q := by
  unfold Hub.lossOfLock; dsimp only
  split <;> simp [e]

/-- The end of an attempt is its port's (R19). -/
@[simp] theorem Hub.attemptEnd_other (h : Hub) (p : Port) {q : Port} (e : q ≠ p) :
    vget (h.attemptEnd p).power q = vget h.power q ∧
    vget (h.attemptEnd p).link q = vget h.link q ∧
    vget (h.attemptEnd p).lens q = vget h.lens q ∧
    vget (h.attemptEnd p).trig q = vget h.trig q ∧
    vget (h.attemptEnd p).frames q = vget h.frames q := by
  unfold Hub.attemptEnd; dsimp only
  split_ifs <;> simp [e, vget_vmod_ne]

/-- The end of a sweep is its port's (R75). -/
@[simp] theorem Hub.sweepOver_other (h : Hub) (p : Port) {q : Port} (e : q ≠ p) :
    vget (h.sweepOver p).power q = vget h.power q ∧
    vget (h.sweepOver p).link q = vget h.link q ∧
    vget (h.sweepOver p).lens q = vget h.lens q ∧
    vget (h.sweepOver p).trig q = vget h.trig q ∧
    vget (h.sweepOver p).frames q = vget h.frames q := by
  unfold Hub.sweepOver; (try dsimp only)
  (repeat' split) <;> simp [e, vget_vmod_ne, Hub.modAxis]

/-- It is its port's (R30). -/
@[simp] theorem Hub.waitOver_other (h : Hub) (p : Port) {q : Port} (e : q ≠ p) :
    vget (h.waitOver p).power q = vget h.power q ∧
    vget (h.waitOver p).link q = vget h.link q ∧
    vget (h.waitOver p).lens q = vget h.lens q ∧
    vget (h.waitOver p).trig q = vget h.trig q ∧
    vget (h.waitOver p).frames q = vget h.frames q := by
  unfold Hub.waitOver; (try dsimp only)
  (repeat' split) <;> simp [e, vget_vmod_ne, Hub.modAxis]

/-- An acknowledgement is its port's (R29). -/
@[simp] theorem Hub.ackTaken_other (h : Hub) (p : Port) (b : Bool) {q : Port} (e : q ≠ p) :
    vget (h.ackTaken p b).power q = vget h.power q ∧
    vget (h.ackTaken p b).link q = vget h.link q ∧
    vget (h.ackTaken p b).lens q = vget h.lens q ∧
    vget (h.ackTaken p b).trig q = vget h.trig q ∧
    vget (h.ackTaken p b).frames q = vget h.frames q := by
  unfold Hub.ackTaken; (try dsimp only)
  (repeat' split) <;> simp [e, vget_vmod_ne, Hub.modAxis]

/-- A message boundary is its port's (R28). -/
@[simp] theorem Hub.boundary_other (h : Hub) (p : Port) {q : Port} (e : q ≠ p) :
    vget (h.boundary p).power q = vget h.power q ∧
    vget (h.boundary p).link q = vget h.link q ∧
    vget (h.boundary p).lens q = vget h.lens q ∧
    vget (h.boundary p).trig q = vget h.trig q ∧
    vget (h.boundary p).frames q = vget h.frames q := by
  unfold Hub.boundary; (try dsimp only)
  (repeat' split) <;> simp [e, vget_vmod_ne, Hub.modAxis]

/-- A step offered to a port is its own (R111). -/
@[simp] theorem Hub.offerStep_other (h : Hub) (fwd : Bool) (p : Port) {q : Port} (e : q ≠ p) :
    vget (h.offerStep fwd p).link q = vget h.link q ∧
    vget (h.offerStep fwd p).trig q = vget h.trig q := by
  unfold Hub.offerStep; dsimp only
  split <;> simp [e, vget_vmod_ne]


/-! ## The latched flags only grow -/

theorem Hub.modPower_grow {a h : Hub} {p : Port} {f : PortPower → PortPower} (g : a.FlagsGrow h) : a.FlagsGrow (h.modPower p f) :=
  g.trans (Hub.FlagsGrow.of_eq rfl rfl)

theorem Hub.modLink_grow {a h : Hub} {p : Port} {f : LinkCtl → LinkCtl} (g : a.FlagsGrow h) : a.FlagsGrow (h.modLink p f) :=
  g.trans (Hub.FlagsGrow.of_eq rfl rfl)

theorem Hub.modCable_grow {a h : Hub} {p : Port} {f : PortCable → PortCable} (g : a.FlagsGrow h) : a.FlagsGrow (h.modCable p f) :=
  g.trans (Hub.FlagsGrow.of_eq rfl rfl)

theorem Hub.modLens_grow {a h : Hub} {p : Port} {f : PortLens → PortLens} (g : a.FlagsGrow h) : a.FlagsGrow (h.modLens p f) :=
  g.trans (Hub.FlagsGrow.of_eq rfl rfl)

theorem Hub.modTrig_grow {a h : Hub} {p : Port} {f : PortTrigger → PortTrigger} (g : a.FlagsGrow h) : a.FlagsGrow (h.modTrig p f) :=
  g.trans (Hub.FlagsGrow.of_eq rfl rfl)

theorem Hub.modFrames_grow {a h : Hub} {p : Port} {f : PortFrames → PortFrames} (g : a.FlagsGrow h) : a.FlagsGrow (h.modFrames p f) :=
  g.trans (Hub.FlagsGrow.of_eq rfl rfl)

theorem Hub.modPipe_grow {a h : Hub} {p : Port} {f : Pipeline → Pipeline} (g : a.FlagsGrow h) : a.FlagsGrow (h.modPipe p f) :=
  g.trans (Hub.FlagsGrow.of_eq rfl rfl)

theorem Hub.modLine_grow {a h : Hub} {p : LineNo} {f : TriggerLine → TriggerLine} (g : a.FlagsGrow h) : a.FlagsGrow (h.modLine p f) :=
  g.trans (Hub.FlagsGrow.of_eq rfl rfl)

theorem Hub.modTrunk_grow {a h : Hub} {f : Trunk → Trunk} (g : a.FlagsGrow h) : a.FlagsGrow (h.modTrunk f) :=
  g.trans (Hub.FlagsGrow.of_eq rfl rfl)

theorem Hub.modCell_grow {a h : Hub} {f : CellPower → CellPower} (g : a.FlagsGrow h) : a.FlagsGrow (h.modCell f) :=
  g.trans (Hub.FlagsGrow.of_eq rfl rfl)

theorem Hub.modCables_grow {a h : Hub} {f : CableUnit → CableUnit} (g : a.FlagsGrow h) : a.FlagsGrow (h.modCables f) :=
  g.trans (Hub.FlagsGrow.of_eq rfl rfl)

theorem Hub.modView_grow {a h : Hub} {f : ViewTable → ViewTable} (g : a.FlagsGrow h) : a.FlagsGrow (h.modView f) :=
  g.trans (Hub.FlagsGrow.of_eq rfl rfl)

theorem Hub.flag_grow {a h : Hub} {p : Port} {f : BitVec 16} (g : a.FlagsGrow h) : a.FlagsGrow (h.flag p f) :=
  g.trans (Hub.raise_grow _ _ _ _)

theorem Hub.flagPart_grow {a h : Hub} {f : BitVec 16} (g : a.FlagsGrow h) : a.FlagsGrow (h.flagPart f) :=
  g.trans (Hub.raise_grow _ _ _ _)

theorem Hub.setFlags_grow_of {a h : Hub} {p : Port} {x y : BitVec 16} (g : a.FlagsGrow h) :
    a.FlagsGrow (h.setFlags p x y) := g.trans (h.setFlags_grow p x y)

theorem Hub.raise_grow_of {a h : Hub} {p : Port} {x y : BitVec 16} (g : a.FlagsGrow h) : a.FlagsGrow (h.raise p x y) :=
  g.trans (Hub.raise_grow _ _ _ _)

theorem Hub.offerReply_grow {a h : Hub} {pkt : Packet} (g : a.FlagsGrow h) : a.FlagsGrow (h.offerReply pkt).1 :=
  g.trans (Hub.FlagsGrow.of_eq (by simp) (by simp))

theorem Hub.setSlot_grow {a h : Hub} {i : SlotNo} {x : Slot} (g : a.FlagsGrow h) : a.FlagsGrow (h.setSlot i x) :=
  g.trans (Hub.FlagsGrow.of_eq rfl rfl)

theorem Hub.answered_grow {a h : Hub} {i : SlotNo} (g : a.FlagsGrow h) :
    a.FlagsGrow (h.modMgmt fun m => { m with answered := m.answered ++ [i] }) := g.trans (Hub.FlagsGrow.of_eq rfl rfl)

theorem Hub.offerDue_grow {a h : Hub} (g : a.FlagsGrow h) : a.FlagsGrow h.offerDue :=
  g.trans (Hub.FlagsGrow.of_eq (by simp) (by simp))

theorem Hub.offerSlotReply_grow {a h : Hub} {i : SlotNo} {pkt : Packet} (g : a.FlagsGrow h) : a.FlagsGrow (h.offerSlotReply i pkt) := by
  unfold Hub.offerSlotReply; (try dsimp only)
  (repeat' split) <;> (try dsimp only) <;>
    (repeat (first | with_reducible exact g | with_reducible apply Hub.answered_grow | with_reducible apply Hub.setSlot_grow | with_reducible apply Hub.offerReply_grow |
      with_reducible apply Hub.offerDue_grow))

theorem Hub.answerSlot_grow {a h : Hub} {i : SlotNo} {st : Status} {res : List Byte} (g : a.FlagsGrow h) : a.FlagsGrow (h.answerSlot i st res) := by
  unfold Hub.answerSlot; (try dsimp only)
  (repeat' split) <;> (try dsimp only) <;>
    (repeat (first | with_reducible exact g | with_reducible apply Hub.offerSlotReply_grow))

theorem Hub.completeSlot_grow {a h : Hub} {i : SlotNo} {p : Port} {attr : BitVec 8} {st : Status} (g : a.FlagsGrow h) : a.FlagsGrow (h.completeSlot i p attr st) := by
  unfold Hub.completeSlot; (try dsimp only)
  (repeat' split) <;> (try dsimp only) <;>
    (repeat (first | with_reducible exact g | with_reducible apply Hub.answerSlot_grow))

theorem foldl_grow {α : Type} {f : Hub → α → Hub} (step : ∀ b x, Hub.FlagsGrow b (f b x)) :
    ∀ (l : List α) {a h : Hub}, a.FlagsGrow h → a.FlagsGrow (l.foldl f h)
  | [], _, _, g => g
  | x :: l, _, _, g => foldl_grow step l (g.trans (step _ x))

theorem Hub.dropSlots_grow {a h : Hub} {p : Port} (g : a.FlagsGrow h) : a.FlagsGrow (h.dropSlots p) := by
  unfold Hub.dropSlots
  refine foldl_grow (fun b x => ?_) _ g
  split
  · exact Hub.answerSlot_grow (Hub.FlagsGrow.refl _)
  · exact Hub.FlagsGrow.refl _

theorem Hub.queueCommand_grow {a h : Hub} {p : Port} {isAttr : Bool} {mk : BitVec 8 → Command} (g : a.FlagsGrow h) : a.FlagsGrow (h.queueCommand p isAttr mk) := by
  unfold Hub.queueCommand; (try dsimp only)
  (repeat' split) <;> (try dsimp only) <;>
    (repeat (first | with_reducible exact g | with_reducible apply Hub.modLink_grow))

theorem Hub.sendTrigger_grow {a h : Hub} {p : Port} {fired : FiredAt} {mv : Bool} (g : a.FlagsGrow h) : a.FlagsGrow (h.sendTrigger p fired mv) := by
  unfold Hub.sendTrigger; (try dsimp only)
  (repeat' split) <;> (try dsimp only) <;>
    (repeat (first | with_reducible exact g | with_reducible apply Hub.modTrig_grow | with_reducible apply Hub.modLink_grow))

theorem Hub.fire_grow {a h : Hub} {p : Port} (g : a.FlagsGrow h) : a.FlagsGrow ((h.fire p).1) := by
  unfold Hub.fire; (try dsimp only)
  (repeat' split) <;> (try dsimp only) <;>
    (repeat (first | with_reducible exact g | with_reducible apply Hub.sendTrigger_grow | with_reducible apply Hub.flag_grow | with_reducible apply Hub.modTrig_grow))

theorem Hub.releaseDeferred_grow {a h : Hub} {p : Port} (g : a.FlagsGrow h) : a.FlagsGrow (h.releaseDeferred p) := by
  unfold Hub.releaseDeferred; (try dsimp only)
  (repeat' split) <;> (try dsimp only) <;>
    (repeat (first | with_reducible exact g | with_reducible apply Hub.sendTrigger_grow | with_reducible apply Hub.flag_grow | with_reducible apply Hub.modTrig_grow))

theorem Hub.dropTrigger_grow {a h : Hub} {p : Port} (g : a.FlagsGrow h) : a.FlagsGrow (h.dropTrigger p) := by
  unfold Hub.dropTrigger; (try dsimp only)
  (repeat' split) <;> (try dsimp only) <;>
    (repeat (first | with_reducible exact g | with_reducible apply Hub.flag_grow | with_reducible apply Hub.modTrig_grow))

theorem Hub.reportIdle_grow {a h : Hub} {p : Port} (g : a.FlagsGrow h) : a.FlagsGrow (h.reportIdle p) := by
  unfold Hub.reportIdle; (try dsimp only)
  (repeat' split) <;> (try dsimp only) <;>
    (repeat (first | with_reducible exact g | with_reducible apply Hub.releaseDeferred_grow | with_reducible apply Hub.modPower_grow))

theorem Hub.resolveId_grow {a h : Hub} {p : Port} {id : Nat} (g : a.FlagsGrow h) : a.FlagsGrow ((h.resolveId p id).1) := by
  unfold Hub.resolveId; (try dsimp only)
  (repeat' split) <;> (try dsimp only) <;>
    (repeat (first | with_reducible exact g | with_reducible apply Hub.modTrig_grow))

theorem Hub.completeLens_grow {a h : Hub} {p : Port} {x : AxisId} {how : Completion} (g : a.FlagsGrow h) : a.FlagsGrow (h.completeLens p x how) := by
  unfold Hub.completeLens Hub.modAxis; dsimp only
  (repeat' split) <;> (try dsimp only) <;>
    (repeat (first | with_reducible exact g | with_reducible apply Hub.reportIdle_grow | with_reducible apply Hub.flag_grow | with_reducible apply Hub.modLens_grow))

theorem Hub.dropLens_grow {a h : Hub} {p : Port} (g : a.FlagsGrow h) : a.FlagsGrow (h.dropLens p) := by
  unfold Hub.dropLens; (try dsimp only)
  (repeat' split) <;> (try dsimp only) <;>
    (repeat (first | with_reducible exact g | with_reducible apply Hub.reportIdle_grow | with_reducible apply Hub.flag_grow | with_reducible apply Hub.modLens_grow))

theorem Hub.lensPowerLost_grow {a h : Hub} {p : Port} (g : a.FlagsGrow h) : a.FlagsGrow (h.lensPowerLost p) := by
  unfold Hub.lensPowerLost; (try dsimp only)
  (repeat' split) <;> (try dsimp only) <;>
    (repeat (first | with_reducible exact g | with_reducible apply Hub.reportIdle_grow | with_reducible apply Hub.flag_grow | with_reducible apply Hub.modLens_grow))

theorem Hub.degradeFilling_grow {a h : Hub} {p : Port} (g : a.FlagsGrow h) : a.FlagsGrow (h.degradeFilling p) := by
  unfold Hub.degradeFilling; (try dsimp only)
  (repeat' split) <;> (try dsimp only) <;>
    (repeat (first | with_reducible exact g | with_reducible apply Hub.modFrames_grow))

theorem Hub.dropFrame_grow {a h : Hub} {p : Port} (g : a.FlagsGrow h) : a.FlagsGrow (h.dropFrame p) := by
  unfold Hub.dropFrame; (try dsimp only)
  (repeat' split) <;> (try dsimp only) <;>
    (repeat (first | with_reducible exact g | with_reducible apply Hub.flag_grow | with_reducible apply Hub.modFrames_grow))

theorem Hub.linkError_grow {a h : Hub} {p : Port} (g : a.FlagsGrow h) : a.FlagsGrow (h.linkError p) := by
  unfold Hub.linkError; (try dsimp only)
  (repeat' split) <;> (try dsimp only) <;>
    (repeat (first | with_reducible exact g | with_reducible apply Hub.degradeFilling_grow | with_reducible apply Hub.flag_grow | with_reducible apply Hub.modLink_grow))

theorem Hub.completeCommand_grow {a h : Hub} {p : Port} {c : Command} {how : Completion} (g : a.FlagsGrow h) : a.FlagsGrow (h.completeCommand p c how) := by
  unfold Hub.completeCommand; (try dsimp only)
  (repeat' split) <;> (try dsimp only) <;>
    (repeat (first | with_reducible exact g | with_reducible apply Hub.completeLens_grow | with_reducible apply Hub.completeSlot_grow))

theorem completions_grow {a h : Hub} {p : Port} {l : List Command} {how : Completion} (g : a.FlagsGrow h) :
    a.FlagsGrow (l.foldl (fun h c => h.completeCommand p c how) h) :=
  foldl_grow (fun _ _ => Hub.completeCommand_grow (Hub.FlagsGrow.refl _)) _ g

theorem Hub.drop_grow {a h : Hub} {p : Port} {cause : DropCause} {enter : LinkCtl → LinkCtl} (g : a.FlagsGrow h) : a.FlagsGrow (h.drop p cause enter) := by
  unfold Hub.drop; (try dsimp only)
  (repeat' split) <;> (try dsimp only) <;>
    (repeat (first | with_reducible exact g | with_reducible apply completions_grow | with_reducible apply Hub.completeCommand_grow | with_reducible apply Hub.dropFrame_grow | with_reducible apply Hub.dropLens_grow | with_reducible apply Hub.dropTrigger_grow | with_reducible apply Hub.dropSlots_grow | with_reducible apply Hub.flag_grow | with_reducible apply Hub.modLink_grow))

theorem Hub.linkPowerLost_grow {a h : Hub} {p : Port} (g : a.FlagsGrow h) : a.FlagsGrow (h.linkPowerLost p) := by
  unfold Hub.linkPowerLost; (try dsimp only)
  (repeat' split) <;> (try dsimp only) <;>
    (repeat (first | with_reducible exact g | with_reducible apply Hub.drop_grow | with_reducible apply Hub.flag_grow | with_reducible apply Hub.modLink_grow))

theorem Hub.leftOn_grow {a h : Hub} {p : Port} (g : a.FlagsGrow h) : a.FlagsGrow (h.leftOn p) := by
  unfold Hub.leftOn; (try dsimp only)
  (repeat' split) <;> (try dsimp only) <;>
    (repeat (first | with_reducible exact g | with_reducible apply Hub.linkPowerLost_grow | with_reducible apply Hub.lensPowerLost_grow))

theorem Hub.turnOff_grow {a h : Hub} {p : Port} {cause : OffCause} {part : BitVec 16} (g : a.FlagsGrow h) : a.FlagsGrow (h.turnOff p cause part) := by
  unfold Hub.turnOff; (try dsimp only)
  (repeat' split) <;> (try dsimp only) <;>
    (repeat (first | with_reducible exact g | with_reducible apply Hub.leftOn_grow | with_reducible apply Hub.raise_grow_of | with_reducible apply Hub.modPower_grow))

theorem Hub.enterDetecting_grow {a h : Hub} {p : Port} (g : a.FlagsGrow h) : a.FlagsGrow (h.enterDetecting p) := by
  unfold Hub.enterDetecting; (try dsimp only)
  (repeat' split) <;> (try dsimp only) <;>
    (repeat (first | with_reducible exact g | with_reducible apply Hub.flag_grow | with_reducible apply Hub.modPower_grow))

theorem Hub.isolationRise_grow {a h : Hub} {p : Port} (g : a.FlagsGrow h) : a.FlagsGrow (h.isolationRise p) := by
  unfold Hub.isolationRise; (try dsimp only)
  (repeat' split) <;> (try dsimp only) <;>
    (repeat (first | with_reducible exact g | with_reducible apply Hub.turnOff_grow))

theorem Hub.retry_grow {a h : Hub} {p : Port} (g : a.FlagsGrow h) : a.FlagsGrow (h.retry p) := by
  unfold Hub.retry; (try dsimp only)
  (repeat' split) <;> (try dsimp only) <;>
    (repeat (first | with_reducible exact g | with_reducible apply Hub.enterDetecting_grow | with_reducible apply Hub.turnOff_grow))

theorem Hub.cooldownOver_grow {a h : Hub} {p : Port} (g : a.FlagsGrow h) : a.FlagsGrow (h.cooldownOver p) := by
  unfold Hub.cooldownOver; (try dsimp only)
  (repeat' split) <;> (try dsimp only) <;>
    (repeat (first | with_reducible exact g | with_reducible apply Hub.retry_grow | with_reducible apply Hub.modPower_grow))

theorem Hub.sweepReported_grow {a h : Hub} {p : Port} (g : a.FlagsGrow h) : a.FlagsGrow (h.sweepReported p) := by
  unfold Hub.sweepReported; (try dsimp only)
  (repeat' split) <;> (try dsimp only) <;>
    (repeat (first | with_reducible exact g | with_reducible apply Hub.retry_grow | with_reducible apply Hub.modPower_grow))

theorem Hub.powerDown_grow {a h : Hub} {p : Port} (g : a.FlagsGrow h) : a.FlagsGrow (h.powerDown p) := by
  unfold Hub.powerDown; (try dsimp only)
  (repeat' split) <;> (try dsimp only) <;>
    (repeat (first | with_reducible exact g | with_reducible apply Hub.turnOff_grow))

theorem Hub.powerOff_grow {a h : Hub} {p : Port} (g : a.FlagsGrow h) : a.FlagsGrow (h.powerOff p) := by
  unfold Hub.powerOff; (try dsimp only)
  (repeat' split) <;> (try dsimp only) <;>
    (repeat (first | with_reducible exact g | with_reducible apply Hub.turnOff_grow | with_reducible apply Hub.modPower_grow))

theorem Hub.setEngine_grow {a h : Hub} {e : EngineNo} {x : Option SweepContext} (g : a.FlagsGrow h) : a.FlagsGrow (h.setEngine e x) := by
  unfold Hub.setEngine; (try dsimp only)
  (repeat' split) <;> (try dsimp only) <;>
    (repeat (first | with_reducible exact g | with_reducible apply Hub.modCables_grow))

theorem Hub.engineTakes_grow {a h : Hub} {e : EngineNo} (g : a.FlagsGrow h) : a.FlagsGrow (h.engineTakes e) := by
  unfold Hub.engineTakes; (try dsimp only)
  (repeat' split) <;> (try dsimp only) <;>
    (repeat (first | with_reducible exact g | with_reducible apply Hub.setEngine_grow | with_reducible apply Hub.modCables_grow | with_reducible apply Hub.modCable_grow))

theorem Hub.offerEngines_grow {a h : Hub}  (g : a.FlagsGrow h) : a.FlagsGrow (h.offerEngines) := by
  unfold Hub.offerEngines; (try dsimp only)
  (repeat' split) <;> (try dsimp only) <;>
    (repeat (first | with_reducible exact g | with_reducible apply Hub.engineTakes_grow))

theorem Hub.enqueueSweep_grow {a h : Hub} {p : Port} {q : SweepParams} {o : SweepOrigin} (g : a.FlagsGrow h) : a.FlagsGrow (h.enqueueSweep p q o) := by
  unfold Hub.enqueueSweep; (try dsimp only)
  (repeat' split) <;> (try dsimp only) <;>
    (repeat (first | with_reducible exact g | with_reducible apply Hub.offerEngines_grow | with_reducible apply Hub.modCables_grow | with_reducible apply Hub.modCable_grow))

theorem Hub.autoSweep_grow {a h : Hub} {p : Port} {o : SweepOrigin} (g : a.FlagsGrow h) : a.FlagsGrow (h.autoSweep p o) := by
  unfold Hub.autoSweep; (try dsimp only)
  (repeat' split) <;> (try dsimp only) <;>
    (repeat (first | with_reducible exact g | with_reducible apply Hub.enqueueSweep_grow | with_reducible apply Hub.powerDown_grow | with_reducible apply Hub.modCable_grow))

theorem Hub.maySweep_grow {a h : Hub} {p : Port} {o : Option SweepOrigin} (g : a.FlagsGrow h) : a.FlagsGrow (h.maySweep p o) := by
  unfold Hub.maySweep; (try dsimp only)
  (repeat' split) <;> (try dsimp only) <;>
    (repeat (first | with_reducible exact g | with_reducible apply Hub.autoSweep_grow))

theorem Hub.sweepOver_grow {a h : Hub} {p : Port} (g : a.FlagsGrow h) : a.FlagsGrow (h.sweepOver p) := by
  unfold Hub.sweepOver; (try dsimp only)
  (repeat' split) <;> (try dsimp only) <;>
    (repeat (first | with_reducible exact g | with_reducible apply Hub.sweepReported_grow | with_reducible apply Hub.flag_grow | with_reducible apply Hub.modCable_grow))

theorem Hub.recordPair_grow {a h : Hub} {c : SweepContext} {x : Pair} (g : a.FlagsGrow h) : a.FlagsGrow (h.recordPair c x) := by
  unfold Hub.recordPair; (try dsimp only)
  (repeat' split) <;> (try dsimp only) <;>
    (repeat (first | with_reducible exact g | with_reducible apply Hub.isolationRise_grow | with_reducible apply Hub.setFlags_grow_of | with_reducible apply Hub.modCables_grow | with_reducible apply Hub.modCable_grow))

theorem Hub.offerStep_grow {a h : Hub} {fwd : Bool} {p : Port} (g : a.FlagsGrow h) : a.FlagsGrow (h.offerStep fwd p) := by
  unfold Hub.offerStep; (try dsimp only)
  (repeat' split) <;> (try dsimp only) <;>
    (repeat (first | with_reducible exact g | with_reducible apply Hub.fire_grow | with_reducible apply Hub.modTrig_grow))

end Sys2Proof.Machine
end

