-- ==== Sys2Proof/Laws/Drops.lean ====
section
/-! SUPPORT. What a drop does at its port (R22, R97, R119, R131): the power items but for the lens allowance are kept; the
link, the axes, the trigger in hand and the frame records after it. -/

namespace Sys2Proof.Machine

/-- The power items of a port are as they were, but for its lens allowance, which may have been released. -/
def PowerKept (q q' : PortPower) : Prop := q' = q ∨ q' = { q with allowanceHeld := false }

theorem PowerKept.trans {a b c : PortPower} (h : PowerKept a b) (k : PowerKept b c) : PowerKept a c := by
  rcases h with rfl | rfl <;> rcases k with rfl | rfl <;> simp [PowerKept]

theorem PowerKept.refl (a : PortPower) : PowerKept a a := .inl rfl

/-- The report that the last axis is idle keeps the port's power items, but for the allowance. -/
theorem Hub.reportIdle_kept (h : Hub) (p : Port) : PowerKept (h.pw p) ((h.reportIdle p).pw p) := by
  simp only [Hub.pw]
  unfold Hub.reportIdle
  split
  · exact .refl _
  · right; simp

theorem Hub.completeLens_kept (h : Hub) (p : Port) (x : AxisId) (how : Completion) :
    PowerKept (h.pw p) ((h.completeLens p x how).pw p) := by
  unfold Hub.completeLens; dsimp only
  split
  · refine PowerKept.trans ?_ (Hub.reportIdle_kept _ p)
    left; simp [Hub.pw, Hub.modAxis]
  · left; simp [Hub.pw, Hub.modAxis]

theorem Hub.completeCommand_kept (h : Hub) (p : Port) (c : Command) (how : Completion) :
    PowerKept (h.pw p) ((h.completeCommand p c how).pw p) := by
  unfold Hub.completeCommand
  split
  · split <;> (left; simp [Hub.pw])
  · split <;> (left; simp [Hub.pw])
  all_goals exact Hub.completeLens_kept _ _ _ _

theorem completions_kept (p : Port) (how : Completion) : ∀ (l : List Command) (h : Hub),
    PowerKept (h.pw p) ((l.foldl (fun h c => h.completeCommand p c how) h).pw p)
  | [], h => .refl _
  | c :: l, h => (Hub.completeCommand_kept h p c how).trans (completions_kept p how l _)

theorem Hub.dropLens_kept (h : Hub) (p : Port) : PowerKept (h.pw p) ((h.dropLens p).pw p) := by
  unfold Hub.dropLens; dsimp only
  split
  · refine PowerKept.trans ?_ (Hub.reportIdle_kept _ p)
    left; simp [Hub.pw]
  · exact .refl _

theorem Hub.lensPowerLost_kept (h : Hub) (p : Port) : PowerKept (h.pw p) ((h.lensPowerLost p).pw p) := by
  unfold Hub.lensPowerLost; dsimp only
  split
  · refine PowerKept.trans ?_ (Hub.reportIdle_kept _ p)
    left; simp [Hub.pw]
  · left; simp [Hub.pw]

theorem Hub.completeLens_linkDown (h : Hub) (p : Port) (x : AxisId) :
    h.completeLens p x .linkDown = h.modAxis p x fun a => { a with pending := a.pending - 1 } := by
  unfold Hub.completeLens; dsimp only; rw [if_neg (by simp)]

@[simp] theorem Hub.completeCommand_linkDown_frame (h : Hub) (p : Port) (c : Command) :
    (h.completeCommand p c .linkDown).link = h.link ∧ (h.completeCommand p c .linkDown).trig = h.trig ∧
    (h.completeCommand p c .linkDown).power = h.power := by
  unfold Hub.completeCommand
  split <;> simp [Hub.completeLens_linkDown, Hub.modAxis]

@[simp] theorem completions_linkDown_frame (h : Hub) (p : Port) (l : List Command) :
    (l.foldl (fun h c => h.completeCommand p c .linkDown) h).link = h.link ∧
    (l.foldl (fun h c => h.completeCommand p c .linkDown) h).trig = h.trig ∧
    (l.foldl (fun h c => h.completeCommand p c .linkDown) h).power = h.power :=
  ⟨foldl_keep (fun h : Hub => h.link) _ (fun _ _ => by simp) _ _, foldl_keep (fun h : Hub => h.trig) _ (fun _ _ => by simp) _ _, foldl_keep (fun h : Hub => h.power) _ (fun _ _ => by simp) _ _⟩

/-- The hub of a drop before its four units are told (steps 1 to 5 of R22). -/
def Hub.dropStart (h : Hub) (p : Port) (cause : DropCause) (enter : LinkCtl → LinkCtl) : Hub :=
  (((h.lk p).queue.foldl (fun h c => h.completeCommand p c .linkDown) (h.modLink p fun l =>
    { l with
      history := appendBounded 16 l.history (h.dropRecord p cause), drops := l.drops + 1, testCount := 0
      pendingTrigger := none, queue := [], sendCount := 0, ackWait := none, waitEnded := false })).modLink p fun l =>
    enter { l with context := none }).flag p fLink

theorem Hub.drop_eq (h : Hub) (p : Port) (cause : DropCause) (enter : LinkCtl → LinkCtl) :
    h.drop p cause enter = ((((h.dropStart p cause enter).dropLens p).dropTrigger p).dropFrame p).dropSlots p := rfl

/-- A drop keeps the port's power items, but for the allowance. -/
theorem Hub.drop_kept (h : Hub) (p : Port) (cause : DropCause) (enter : LinkCtl → LinkCtl) :
    PowerKept (h.pw p) ((h.drop p cause enter).pw p) := by
  rw [Hub.drop_eq]
  refine PowerKept.trans (b := (h.dropStart p cause enter).pw p) (.inl ?_) ?_
  · simp [Hub.dropStart, Hub.pw]
  · refine (Hub.dropLens_kept _ p).trans (.inl ?_)
    simp [Hub.pw]

/-- The departure from ON keeps the port's power items, but for the allowance. -/
theorem Hub.leftOn_kept (h : Hub) (p : Port) : PowerKept (h.pw p) ((h.leftOn p).pw p) := by
  unfold Hub.leftOn
  refine PowerKept.trans ?_ (Hub.lensPowerLost_kept _ p)
  unfold Hub.linkPowerLost
  split
  · exact Hub.drop_kept ..
  · exact Hub.drop_kept ..
  · left; simp [Hub.pw]
  · exact .refl _

/-- An axis but for its pending commands. -/
def Axis.bare (a : Axis) : Axis := { a with pending := 0 }

@[simp] theorem PortLens.modAxis_axis (l : PortLens) (x y : AxisId) (f : Axis → Axis) :
    (l.modAxis x f).axis y = if y = x then f (l.axis x) else l.axis y := by
  cases x <;> cases y <;> rfl

theorem completeCommand_bare (h : Hub) (p : Port) (c : Command) (y : AxisId) :
    ((h.completeCommand p c .linkDown).ax p y).bare = (h.ax p y).bare := by
  simp only [Hub.ax, Hub.ln]
  unfold Hub.completeCommand
  split <;> simp [Hub.completeLens_linkDown, Hub.modAxis, Hub.modLens, vget_vmod]
  all_goals (split <;> simp_all [Axis.bare])

theorem completions_bare (p : Port) (y : AxisId) : ∀ (l : List Command) (h : Hub),
    ((l.foldl (fun h c => h.completeCommand p c .linkDown) h).ax p y).bare = (h.ax p y).bare
  | [], _ => rfl
  | c :: l, h => by rw [List.foldl_cons, completions_bare p y l, completeCommand_bare]

theorem moving_of_bare {a b : Axis} (h : a.bare = b.bare) : a.moving = b.moving ∧ a.position = b.position ∧ a.motion = b.motion ∧ a.outcome = b.outcome := by
  simp only [Axis.bare, Axis.mk.injEq] at h
  simp [Axis.moving, h]

theorem reportIdle_link (h : Hub) (p : Port) (e : (h.lk p).established = false) :
    (h.reportIdle p).link = h.link := by
  unfold Hub.reportIdle Hub.releaseDeferred
  split
  · rfl
  · simp [e]; split <;> simp [Hub.flag]

theorem Hub.dropLens_link (h : Hub) (p : Port) (e : (h.lk p).established = false) : (h.dropLens p).link = h.link := by
  unfold Hub.dropLens; dsimp only
  split
  · rw [reportIdle_link]; · simp
    simpa [Hub.lk] using e
  · rfl

theorem Hub.lensPowerLost_link (h : Hub) (p : Port) (e : (h.lk p).established = false) : (h.lensPowerLost p).link = h.link := by
  unfold Hub.lensPowerLost; dsimp only
  split
  · rw [reportIdle_link]; · simp
    simpa [Hub.lk] using e
  · rfl

/-- A drop at an axis (R97): in motion, it is lost with LINK; else all but its pending commands stays. -/
theorem Hub.drop_ax (h : Hub) (p : Port) (cause : DropCause) (enter : LinkCtl → LinkCtl) (x : AxisId) :
    ((h.ax p x).moving = true →
      (h.drop p cause enter).ax p x = { h.ax p x with position := none, motion := .idle, outcome := .link, pending := 0 }) ∧
    ((h.ax p x).moving = false → ((h.drop p cause enter).ax p x).bare = (h.ax p x).bare) := by
  have hs : ((h.dropStart p cause enter).ax p x).bare = (h.ax p x).bare := by
    unfold Hub.dropStart
    have := completions_bare p x (h.lk p).queue (h.modLink p fun l =>
      { l with
        history := appendBounded 16 l.history (h.dropRecord p cause), drops := l.drops + 1, testCount := 0
        pendingTrigger := none, queue := [], sendCount := 0, ackWait := none, waitEnded := false })
    simpa [Hub.ax, Hub.ln] using this
  obtain ⟨hm, hp, -, ho⟩ := moving_of_bare hs
  rw [Hub.drop_eq]
  simp only [Hub.ax, Hub.ln] at *
  simp only [Hub.dropSlots_frame, Hub.dropFrame_frame, Hub.dropTrigger_frame]
  generalize h.dropStart p cause enter = k at *
  unfold Hub.dropLens; dsimp only
  constructor
  · intro hx
    have hk : (k.ln p).anyMotion = true := by
      simp only [Hub.ln, PortLens.anyMotion]
      cases x <;> simp [PortLens.axis] at hx hm <;> simp [hm, hx]
    simp only [hk, if_true]
    simp only [Axis.bare, Axis.mk.injEq] at hs
    cases x <;> simp [PortLens.axis, Axis.lost, hm, hx] at * <;> simp [hs, hm, hx]
  · intro hx
    split
    · cases x <;> simp [PortLens.axis, Axis.lost, hm, hx] at * <;> simp [hs, hm, hx]
    · exact hs

/-- The link items after a drop (R22). -/
theorem Hub.drop_lk (h : Hub) (p : Port) (cause : DropCause) (enter : LinkCtl → LinkCtl)
    (he : ∀ l, (enter l).established = false) :
    (h.drop p cause enter).lk p = enter { h.lk p with
      history := appendBounded 16 (h.lk p).history (h.dropRecord p cause), drops := (h.lk p).drops + 1
      testCount := 0, pendingTrigger := none, queue := [], sendCount := 0, ackWait := none, waitEnded := false
      context := none } := by
  unfold Hub.drop; dsimp only
  simp only [Hub.lk]
  have := Hub.dropLens_link (((List.foldl (fun (h : Hub) c => h.completeCommand p c Completion.linkDown)
    (h.modLink p fun l =>
        { l with
          history := appendBounded 16 l.history (h.dropRecord p cause), drops := l.drops + 1, testCount := 0
          pendingTrigger := none, queue := [], sendCount := 0, ackWait := none, waitEnded := false }) (h.lk p).queue).modLink p fun l => enter { l with context := none }).flag p fLink) p (by simp [Hub.lk, he])
  simp [Hub.lk] at this ⊢
  simp [this]

theorem Hub.dropStart_lk (h : Hub) (p : Port) (cause : DropCause) (enter : LinkCtl → LinkCtl) :
    (h.dropStart p cause enter).lk p = enter { h.lk p with
      history := appendBounded 16 (h.lk p).history (h.dropRecord p cause), drops := (h.lk p).drops + 1
      testCount := 0, pendingTrigger := none, queue := [], sendCount := 0, ackWait := none, waitEnded := false
      context := none } := by
  simp [Hub.dropStart, Hub.lk]

@[simp] theorem Hub.dropStart_tg (h : Hub) (p : Port) (cause : DropCause) (enter : LinkCtl → LinkCtl) :
    (h.dropStart p cause enter).trig = h.trig ∧ (h.dropStart p cause enter).frames = h.frames ∧ (h.dropStart p cause enter).time = h.time := by
  simp [Hub.dropStart]

/-- The last axis's report on a link that is not established gives up a deferred trigger. -/
theorem Hub.reportIdle_tg (h : Hub) (p : Port) (e : (h.lk p).established = false) :
    (h.reportIdle p).tg p = h.tg p ∨ ∃ f, (h.tg p).hand = .deferred f ∧
      (h.reportIdle p).tg p = { h.tg p with hand := .none, lostLink := (h.tg p).lostLink + 1 } := by
  unfold Hub.reportIdle
  split
  · exact .inl rfl
  · unfold Hub.releaseDeferred
    have e' : ((h.modPower p fun q => { q with allowanceHeld := false }).lk p).established = false := e
    cases hh : (h.tg p).hand with
    | deferred f =>
      refine .inr ⟨f, rfl, ?_⟩
      have hh' : ((h.modPower p fun q => { q with allowanceHeld := false }).tg p).hand = .deferred f := hh
      simp only [hh', e', Bool.false_eq_true, if_false]
      simp [Hub.tg]
    | none =>
      have hh' : ((h.modPower p fun q => { q with allowanceHeld := false }).tg p).hand = .none := hh
      simp only [hh']
      exact .inl rfl
    | outstanding =>
      have hh' : ((h.modPower p fun q => { q with allowanceHeld := false }).tg p).hand = .outstanding .. := hh
      simp only [hh']
      exact .inl rfl

theorem Hub.dropLens_tg (h : Hub) (p : Port) (e : (h.lk p).established = false) :
    (h.dropLens p).tg p = h.tg p ∨ ∃ f, (h.tg p).hand = .deferred f ∧
      (h.dropLens p).tg p = { h.tg p with hand := .none, lostLink := (h.tg p).lostLink + 1 } := by
  unfold Hub.dropLens
  dsimp only
  split
  · refine (?_ : _ ∨ _)
    have := Hub.reportIdle_tg ((h.modLens p fun l =>
      { l with
        focus := if l.focus.moving then { l.focus.lost .link with pending := 0 } else l.focus
        zoom := if l.zoom.moving then { l.zoom.lost .link with pending := 0 } else l.zoom
        iris := if l.iris.moving then { l.iris.lost .link with pending := 0 } else l.iris }).flag p fLensFault) p
      (by simpa [Hub.lk] using e)
    simpa [Hub.tg] using this
  · exact .inl rfl

/-- The trigger items after a drop (R119): the trigger in hand is given up and counted. -/
theorem Hub.drop_tg (h : Hub) (p : Port) (cause : DropCause) (enter : LinkCtl → LinkCtl)
    (he : ∀ l, (enter l).established = false) :
    (h.drop p cause enter).tg p = { h.tg p with
      hand := .none
      lostLink := (h.tg p).lostLink + (h.tg p).hand.deferredOne
      aborted := (h.tg p).aborted + (h.tg p).hand.outstandingOne } := by
  rw [Hub.drop_eq]
  have hl : ((h.dropStart p cause enter).lk p).established = false := by rw [Hub.dropStart_lk]; exact he _
  have ht : (h.dropStart p cause enter).tg p = h.tg p := by simp [Hub.tg]
  have h2 := Hub.dropLens_tg _ p hl
  rw [ht] at h2
  have h3 : (((((h.dropStart p cause enter).dropLens p).dropTrigger p).dropFrame p).dropSlots p).tg p = (((h.dropStart p cause enter).dropLens p).dropTrigger p).tg p := by simp [Hub.tg]
  rw [h3]
  generalize (h.dropStart p cause enter).dropLens p = k at *
  unfold Hub.dropTrigger
  rcases h2 with h2 | ⟨f, hf, h2⟩
  · rw [h2]
    cases hh : (h.tg p).hand with
    | none => simp [h2, hh, Hand.deferredOne, Hand.outstandingOne]; rw [← hh]
    | deferred f =>
      simp only [Hub.tg] at *
      simp [h2, Hand.deferredOne, Hand.outstandingOne]
    | outstanding =>
      simp only [Hub.tg] at *
      simp [h2, Hand.deferredOne, Hand.outstandingOne]
  · rw [h2]
    simp only [Hub.tg] at *
    simp [h2, hf, Hand.deferredOne, Hand.outstandingOne]

/-- The frame items after a drop (R131): the record being filled is removed and counted. -/
theorem Hub.dropFrame_fr (h : Hub) (p : Port) :
    (h.dropFrame p).fr p = { h.fr p with
      intake := .idle
      linkAbort := (h.fr p).linkAbort + (if (h.fr p).filling.isSome then 1 else 0)
      table := match (h.fr p).filling with
        | some r => (h.fr p).table.filter fun x => x.serial ≠ r.serial
        | none => (h.fr p).table } := by
  unfold Hub.dropFrame
  cases hf : (h.fr p).filling <;> simp [Hub.fr] at * 

theorem Hub.drop_fr (h : Hub) (p : Port) (cause : DropCause) (enter : LinkCtl → LinkCtl) :
    (h.drop p cause enter).fr p = (h.dropFrame p).fr p := by
  rw [Hub.drop_eq, Hub.dropFrame_fr]
  have e : (((h.dropStart p cause enter).dropLens p).dropTrigger p).fr p = h.fr p := by simp [Hub.fr]
  have := Hub.dropFrame_fr (((h.dropStart p cause enter).dropLens p).dropTrigger p) p
  rw [e] at this
  rw [← this]; simp [Hub.fr]

end Sys2Proof.Machine
end

