-- ==== Sys2Proof/Laws/Memory.lean ====
section
/-! SUPPORT. The laws of frame memory: reading after writing, and the canonical form kept (log entry 8). -/

namespace Sys2Proof.Machine

/-- A list whose addresses start later starts later still from any earlier one. -/
theorem Memory.wfFrom_mono {lo lo' : Nat} (h : lo' ≤ lo) : ∀ m, Memory.wfFrom lo m = true → Memory.wfFrom lo' m = true
  | [], _ => rfl
  | (a, v) :: rest, w => by
    simp only [Memory.wfFrom, Bool.and_eq_true, decide_eq_true_eq] at w ⊢
    exact ⟨⟨⟨by omega, w.1.1.2⟩, w.1.2⟩, w.2⟩

/-- An address before every listed one reads as unlisted. -/
theorem Memory.read_before {a lo : Nat} (h : a < lo) : ∀ m, Memory.wfFrom lo m = true → Memory.read m a = Memory.unlisted
  | [], _ => rfl
  | (b, v) :: rest, w => by
    simp only [Memory.wfFrom, Bool.and_eq_true, decide_eq_true_eq] at w
    have hb : b ≠ a := by omega
    simp only [Memory.read, hb, if_false]
    exact Memory.read_before (lo := b + 1) (by omega) rest w.2

/-- Writing keeps the canonical form from any address at or before both. -/
theorem Memory.wfFrom_write {lo a : Nat} (v : Byte) (ha : a < memoryBytes) (hlo : lo ≤ a) :
    ∀ m, Memory.wfFrom lo m = true → Memory.wfFrom lo (Memory.write m a v) = true
  | [], _ => by
    simp only [Memory.write]
    split
    · rfl
    · simp_all [Memory.wfFrom]
  | (b, w) :: rest, h => by
    have h' := h
    simp only [Memory.wfFrom, Bool.and_eq_true, decide_eq_true_eq] at h'
    simp only [Memory.write]
    split
    · split
      · exact h
      · simp only [Memory.wfFrom, Bool.and_eq_true, decide_eq_true_eq]
        exact ⟨⟨⟨hlo, ha⟩, by assumption⟩, ⟨⟨by omega, h'.1.1.2⟩, h'.1.2⟩, h'.2⟩
    · split
      · split
        · exact Memory.wfFrom_mono (by omega) rest h'.2
        · simp only [Memory.wfFrom, Bool.and_eq_true, decide_eq_true_eq]
          subst_vars
          exact ⟨⟨⟨hlo, ha⟩, by assumption⟩, h'.2⟩
      · simp only [Memory.wfFrom, Bool.and_eq_true, decide_eq_true_eq]
        exact ⟨h'.1, Memory.wfFrom_write v ha (by omega) rest h'.2⟩

/-- A write of one byte keeps the canonical form. -/
theorem Memory.wf_write {m : Memory} {a : Nat} (v : Byte) (ha : a < memoryBytes) (h : m.wf = true) :
    (Memory.write m a v).wf = true := Memory.wfFrom_write v ha (by omega) m h

/-- A byte read after it was written is the byte written. -/
theorem Memory.read_write_same {lo a : Nat} (v : Byte) : ∀ m, Memory.wfFrom lo m = true → Memory.read (Memory.write m a v) a = v
  | [], _ => by
    simp only [Memory.write]
    split
    · simp_all [Memory.read]
    · simp [Memory.read]
  | (b, w) :: rest, h => by
    simp only [Memory.wfFrom, Bool.and_eq_true, decide_eq_true_eq] at h
    simp only [Memory.write]
    split
    · split
      · have hb : b ≠ a := by omega
        simp only [Memory.read, hb, if_false]
        rw [Memory.read_before (lo := b + 1) (by omega) rest h.2]
        exact (by assumption : v = Memory.unlisted).symm
      · simp [Memory.read]
    · split
      · split
        · subst_vars
          exact Memory.read_before (lo := b + 1) (by omega) rest h.2
        · simp [Memory.read]
      · have hb : b ≠ a := by omega
        simp only [Memory.read, hb, if_false]
        exact Memory.read_write_same v rest h.2

/-- A byte read after another was written is as it was. -/
theorem Memory.read_write_ne {lo a x : Nat} (v : Byte) (hx : x ≠ a) :
    ∀ m, Memory.wfFrom lo m = true → Memory.read (Memory.write m a v) x = Memory.read m x
  | [], _ => by
    simp only [Memory.write]
    split
    · rfl
    · simp [Memory.read, hx.symm]
  | (b, w) :: rest, h => by
    simp only [Memory.wfFrom, Bool.and_eq_true, decide_eq_true_eq] at h
    simp only [Memory.write]
    split
    · split
      · rfl
      · simp [Memory.read, hx.symm]
    · split
      · subst_vars
        split
        · simp only [Memory.read, hx.symm, if_false]
        · simp [Memory.read, hx.symm]
      · by_cases hb : b = x
        · simp [Memory.read, hb]
        · simp only [Memory.read, hb, if_false]
          exact Memory.read_write_ne v hx rest h.2

/-- An address of the DRAM lies in it. -/
theorem memoryAddress_lt (a : Nat) : memoryAddress a < memoryBytes := Nat.mod_lt _ (by decide)

/-- A run of bytes written keeps the canonical form. -/
theorem Memory.wf_writeBytes : ∀ (bytes : List Byte) (m : Memory) (a : Nat), m.wf = true →
    (Memory.writeBytes m a bytes).wf = true
  | [], _, _, h => h
  | v :: rest, m, a, h => Memory.wf_writeBytes rest _ (a + 1) (Memory.wf_write v (memoryAddress_lt a) h)

/-- A byte outside a run that is written is as it was. -/
theorem Memory.read_writeBytes_ne : ∀ (bytes : List Byte) (m : Memory) (a x : Nat), m.wf = true →
    (∀ k < bytes.length, x ≠ memoryAddress (a + k)) → Memory.read (Memory.writeBytes m a bytes) x = Memory.read m x
  | [], _, _, _, _, _ => rfl
  | v :: rest, m, a, x, h, hx => by
    have h0 : x ≠ memoryAddress a := hx 0 (by simp)
    rw [Memory.writeBytes, Memory.read_writeBytes_ne rest _ (a + 1) x (Memory.wf_write v (memoryAddress_lt a) h)
      (fun k hk => by
        have := hx (k + 1) (by simpa using hk)
        rwa [show a + (k + 1) = a + 1 + k by omega] at this)]
    exact Memory.read_write_ne v h0 m h

/-- Lines concealed keep the canonical form (R129). -/
theorem concealFrom_wf (base bytes : Nat) (written : List Nat) : ∀ (n r : Nat) (m : Memory), m.wf = true →
    (concealFrom m base bytes written r n).wf = true
  | 0, _, _, h => h
  | n + 1, r, m, h => by
    simp only [concealFrom]
    apply concealFrom_wf
    split
    · exact h
    · split <;> exact Memory.wf_writeBytes _ _ _ h

/-- A record's concealment keeps the canonical form (R129). -/
theorem PortFrames.conceal_wf (f : PortFrames) (r : FrameRecord) {m : Memory} (h : m.wf = true) :
    (f.conceal r m).wf = true := concealFrom_wf _ _ _ _ _ _ h

/-- Frame memory at reset has the canonical form. -/
theorem reset_memory_wf : Memory.wf State.reset.dram = true := rfl

end Sys2Proof.Machine
end

