-- ==== Sys2Proof/Laws/PerInstr.lean ====
section
/-! SUPPORT. Families of lemmas, one for each command, about the command as syntax. -/

namespace Sys2Proof.Laws.LengthFits

open Sys2Proof Sys2Proof.Machine

/-- A well-formed request's parameters have the length that R177 gives its code and target. -/
def Statement (i : Instr) : Prop :=
  i.wf = true → ∀ c r ps, requestPartsOf i = some (c, r, ps) → lengthFits c (BitVec.ofNat 8 r.target) ps = true

/-- An event is no request. -/
theorem of_event {i : Instr} (h : requestPartsOf i = none) : Statement i := by
  intro _ c r ps hp
  rw [h] at hp
  cases hp

/-- A request whose parameters have the fixed width of its code. -/
theorem of_fixed {i : Instr} {c : ReqCode} {r : ReqHeader} {ps : List Byte} {n : Nat}
    (h : requestPartsOf i = some (c, r, ps)) (hr : lengthRule c = .fixed n) (hn : ps.length = n) : Statement i := by
  intro _ c' r' ps' hp
  rw [h] at hp
  cases hp
  simp [lengthFits, hr, hn]

/-- A request without parameters, whichever its target. -/
theorem of_none {i : Instr} {c : ReqCode} {r : ReqHeader} (h : requestPartsOf i = some (c, r, []))
    (hr : lengthRule c = .byTarget 0 0) : Statement i := by
  intro _ c' r' ps' hp
  rw [h] at hp
  cases hp
  simp [lengthFits, hr]

/-- A run of items of one width is as long as its count says. -/
theorem flatMap_length {α : Type} (f : α → List Byte) (n : Nat) (hf : ∀ x, (f x).length = n) (l : List α) :
    (l.flatMap f).length = n * l.length := by
  induction l with
  | nil => rfl
  | cons x xs ih => simp [List.flatMap_cons, hf, ih, Nat.mul_add, Nat.add_comm]

/-- A list whose count travels in one byte (R177). -/
theorem of_list {i : Instr} {c : ReqCode} {r : ReqHeader} {α : Type} {f : α → List Byte} {l : List α}
    {front : List Byte} {before item : Nat} (h : requestPartsOf i = some (c, r, front ++ counted f l))
    (hr : lengthRule c = .list before item) (hb : front.length = before) (hf : ∀ x, (f x).length = item)
    (hl : i.wf = true → l.length < 256) : Statement i := by
  intro hw c' r' ps' hp
  rw [h] at hp
  cases hp
  have hn : (front ++ counted f l)[before]? = some (BitVec.ofNat 8 l.length) := by
    rw [List.getElem?_append_right (by omega), hb, Nat.sub_self]
    rfl
  simp only [lengthFits, hr, hn]
  simp only [counted, List.length_append, flatMap_length f item hf, hb, u8, List.length_cons, List.length_nil,
    BitVec.toNat_ofNat, Nat.mod_eq_of_lt (hl hw), decide_eq_true_eq]
  omega

/-- The statement for coldReset. -/
theorem coldReset : Statement .coldReset := of_event rfl

/-- The statement for trunkUp. -/
theorem trunkUp : Statement .trunkUp := of_event rfl

/-- The statement for trunkLoss. -/
theorem trunkLoss : Statement .trunkLoss := of_event rfl

/-- The statement for requestPacketReceived. -/
theorem requestPacketReceived (pkt : Packet) : Statement (.requestPacketReceived pkt) := of_event rfl

/-- The statement for badRequest. -/
theorem badRequest : Statement .badRequest := of_event rfl

/-- The statement for packetSendEnd. -/
theorem packetSendEnd : Statement .packetSendEnd := of_event rfl

/-- The statement for imageQueueTakesPacket. -/
theorem imageQueueTakesPacket (p : Port) : Statement (.imageQueueTakesPacket p) := of_event rfl

/-- The statement for answeredSlotReplyOffer. -/
theorem answeredSlotReplyOffer : Statement .answeredSlotReplyOffer := of_event rfl

/-- The statement for identify. -/
theorem identify (r : ReqHeader) : Statement (.identify r) := of_fixed rfl rfl rfl

/-- The statement for timeRead. -/
theorem timeRead (r : ReqHeader) : Statement (.timeRead r) := of_fixed rfl rfl rfl

/-- The statement for partReset. -/
theorem partReset (r : ReqHeader) : Statement (.partReset r) := of_fixed rfl rfl rfl

/-- The statement for readEvents. -/
theorem readEvents (r : ReqHeader) : Statement (.readEvents r) := of_none rfl rfl

/-- The statement for noticeSet. -/
theorem noticeSet (r : ReqHeader) (kinds : Nat) : Statement (.noticeSet r kinds) := of_fixed rfl rfl rfl

/-- The statement for isolate. -/
theorem isolate (r : ReqHeader) (action : Nat) : Statement (.isolate r action) := of_fixed rfl rfl rfl

/-- The statement for portRead. -/
theorem portRead (r : ReqHeader) : Statement (.portRead r) := of_fixed rfl rfl rfl

/-- The statement for linkSet. -/
theorem linkSet (r : ReqHeader) (degrade drop : Nat) : Statement (.linkSet r degrade drop) := of_fixed rfl rfl rfl

/-- The statement for linkTest. -/
theorem linkTest (r : ReqHeader) (count : Nat) : Statement (.linkTest r count) := of_fixed rfl rfl rfl

/-- The statement for dropHistoryRead. -/
theorem dropHistoryRead (r : ReqHeader) : Statement (.dropHistoryRead r) := of_fixed rfl rfl rfl

/-- The statement for attrRead. -/
theorem attrRead (r : ReqHeader) (address count : Nat) : Statement (.attrRead r address count) := of_fixed rfl rfl rfl

/-- The statement for attrWrite. -/
theorem attrWrite (r : ReqHeader) (address : Nat) (words : List Nat) : Statement (.attrWrite r address words) :=
  of_list rfl rfl rfl (fun _ => rfl) (by
    intro h
    simp only [Instr.wf, fitsList, Bool.and_eq_true, decide_eq_true_eq] at h
    omega)

/-- The statement for passThroughTimeout. -/
theorem passThroughTimeout (slot : SlotNo) : Statement (.passThroughTimeout slot) := of_event rfl

/-- The statement for budgetSet. -/
theorem budgetSet (r : ReqHeader) (budget : Nat) : Statement (.budgetSet r budget) := of_fixed rfl rfl rfl

/-- The statement for portPowerSet. -/
theorem portPowerSet (r : ReqHeader) (grant limit priority allowance : Nat) : Statement (.portPowerSet r grant limit priority allowance) := of_fixed rfl rfl rfl

/-- The statement for powerOn. -/
theorem powerOn (r : ReqHeader) : Statement (.powerOn r) := of_fixed rfl rfl rfl

/-- The statement for powerOff. -/
theorem powerOff (r : ReqHeader) : Statement (.powerOff r) := of_fixed rfl rfl rfl

/-- The statement for detectionEnd. -/
theorem detectionEnd (p : Port) (load : Nat) : Statement (.detectionEnd p load) := of_event rfl

/-- The statement for rampOutputReached. -/
theorem rampOutputReached (p : Port) (output : Nat) : Statement (.rampOutputReached p output) := of_event rfl

/-- The statement for rampFail. -/
theorem rampFail (p : Port) (output : Nat) : Statement (.rampFail p output) := of_event rfl

/-- The statement for overcurrentRise. -/
theorem overcurrentRise (p : Port) (current : Nat) : Statement (.overcurrentRise p current) := of_event rfl

/-- The statement for overcurrentFall. -/
theorem overcurrentFall (p : Port) (current : Nat) : Statement (.overcurrentFall p current) := of_event rfl

/-- The statement for trip. -/
theorem trip (p : Port) (current : Nat) : Statement (.trip p current) := of_event rfl

/-- The statement for hardShort. -/
theorem hardShort (p : Port) (current : Nat) : Statement (.hardShort p current) := of_event rfl

/-- The statement for cooldownEnd. -/
theorem cooldownEnd (p : Port) : Statement (.cooldownEnd p) := of_event rfl

/-- The statement for supplySample. -/
theorem supplySample (millivolt : Nat) : Statement (.supplySample millivolt) := of_event rfl

/-- The statement for trainingAttemptEnd. -/
theorem trainingAttemptEnd (p : Port) : Statement (.trainingAttemptEnd p) := of_event rfl

/-- The statement for lockReply. -/
theorem lockReply (p : Port) : Statement (.lockReply p) := of_event rfl

/-- The statement for lossOfLock. -/
theorem lossOfLock (p : Port) : Statement (.lossOfLock p) := of_event rfl

/-- The statement for errorWindowEnd. -/
theorem errorWindowEnd (p : Port) : Statement (.errorWindowEnd p) := of_event rfl

/-- The statement for badUpstreamPacket. -/
theorem badUpstreamPacket (p : Port) (bytes : List Byte) : Statement (.badUpstreamPacket p bytes) := of_event rfl

/-- The statement for frameStart. -/
theorem frameStart (p : Port) (number width height id : Nat) : Statement (.frameStart p number width height id) := of_event rfl

/-- The statement for line. -/
theorem line (p : Port) (number : Nat) (pixels : List Nat) : Statement (.line p number pixels) := of_event rfl

/-- The statement for frameEnd. -/
theorem frameEnd (p : Port) (linesSent status : Nat) : Statement (.frameEnd p linesSent status) := of_event rfl

/-- The statement for fillDeadline. -/
theorem fillDeadline (p : Port) : Statement (.fillDeadline p) := of_event rfl

/-- The statement for ack. -/
theorem ack (p : Port) (sequence : Nat) : Statement (.ack p sequence) := of_event rfl

/-- The statement for ackWaitEnd. -/
theorem ackWaitEnd (p : Port) : Statement (.ackWaitEnd p) := of_event rfl

/-- The statement for downstreamMessageSent. -/
theorem downstreamMessageSent (p : Port) : Statement (.downstreamMessageSent p) := of_event rfl

/-- The statement for attrReply. -/
theorem attrReply (p : Port) (attr status : Nat) (words : List Nat) : Statement (.attrReply p attr status words) := of_event rfl

/-- The statement for lensReport. -/
theorem lensReport (p : Port) (axis position kind : Nat) : Statement (.lensReport p axis position kind) := of_event rfl

/-- The statement for lensDeadline. -/
theorem lensDeadline (p : Port) (axis : AxisId) : Statement (.lensDeadline p axis) := of_event rfl

/-- The statement for lensProfileLoad. -/
theorem lensProfileLoad (r : ReqHeader) (focus zoom iris : ProfileParams) : Statement (.lensProfileLoad r focus zoom iris) := of_fixed rfl rfl rfl

/-- The statement for lensHome. -/
theorem lensHome (r : ReqHeader) (axis : Nat) : Statement (.lensHome r axis) := of_fixed rfl rfl rfl

/-- The statement for lensMove. -/
theorem lensMove (r : ReqHeader) (axis target : Nat) : Statement (.lensMove r axis target) := of_fixed rfl rfl rfl

/-- The statement for lensStop. -/
theorem lensStop (r : ReqHeader) (axis : Nat) : Statement (.lensStop r axis) := of_fixed rfl rfl rfl

/-- The statement for focusTableLoad. -/
theorem focusTableLoad (r : ReqHeader) (stop zoom : Nat) (points : List (Nat × Nat)) : Statement (.focusTableLoad r stop zoom points) :=
  of_list rfl rfl rfl (fun _ => rfl) (by
    intro h
    simp only [Instr.wf, fitsList, Bool.and_eq_true, decide_eq_true_eq] at h
    omega)

/-- The statement for lensFocusDistance. -/
theorem lensFocusDistance (r : ReqHeader) (distance : Nat) : Statement (.lensFocusDistance r distance) := of_fixed rfl rfl rfl

/-- The statement for lensRead. -/
theorem lensRead (r : ReqHeader) : Statement (.lensRead r) := of_fixed rfl rfl rfl

/-- The statement for encoderStep. -/
theorem encoderStep (a b : Bool) : Statement (.encoderStep a b) := of_event rfl

/-- The statement for triggerTimeout. -/
theorem triggerTimeout (p : Port) : Statement (.triggerTimeout p) := of_event rfl

/-- The statement for triggerLineRise. -/
theorem triggerLineRise (l : LineNo) : Statement (.triggerLineRise l) := of_event rfl

/-- The statement for triggerLineFall. -/
theorem triggerLineFall (l : LineNo) : Statement (.triggerLineFall l) := of_event rfl

/-- The statement for filterTimeEnd. -/
theorem filterTimeEnd (l : LineNo) : Statement (.filterTimeEnd l) := of_event rfl

/-- The statement for encoderSet. -/
theorem encoderSet (r : ReqHeader) (value : Nat) : Statement (.encoderSet r value) := of_fixed rfl rfl rfl

/-- The statement for triggerLineSet. -/
theorem triggerLineSet (r : ReqHeader) (line filter : Nat) : Statement (.triggerLineSet r line filter) := of_fixed rfl rfl rfl

/-- The statement for triggerSet. -/
theorem triggerSet (r : ReqHeader) (source pitch phase direction policy timeout : Nat) : Statement (.triggerSet r source pitch phase direction policy timeout) := of_fixed rfl rfl rfl

/-- The statement for triggerSoft. -/
theorem triggerSoft (r : ReqHeader) (mask : Nat) : Statement (.triggerSoft r mask) := of_fixed rfl rfl rfl

/-- The statement for triggerRead. -/
theorem triggerRead (r : ReqHeader) : Statement (.triggerRead r) := of_none rfl rfl

/-- The statement for cableTypeSet. -/
theorem cableTypeSet (r : ReqHeader) (type speed polarity threshold : Nat) : Statement (.cableTypeSet r type speed polarity threshold) := of_fixed rfl rfl rfl

/-- The statement for portCableSet. -/
theorem portCableSet (r : ReqHeader) (type length tolerance offset : Nat) : Statement (.portCableSet r type length tolerance offset) := of_fixed rfl rfl rfl

/-- The statement for autoSweepSet. -/
theorem autoSweepSet (r : ReqHeader) (flags : Nat) (sweep : SweepParamsRaw) : Statement (.autoSweepSet r flags sweep) := of_fixed rfl rfl rfl

/-- The statement for sweepRequest. -/
theorem sweepRequest (r : ReqHeader) (sweep : SweepParamsRaw) (powerDownFirst : Nat) : Statement (.sweepRequest r sweep powerDownFirst) := of_fixed rfl rfl rfl

/-- The statement for settlingEnd. -/
theorem settlingEnd (e : EngineNo) : Statement (.settlingEnd e) := of_event rfl

/-- The statement for shot. -/
theorem shot (e : EngineNo) (trace : List (Nat × Int)) : Statement (.shot e trace) := of_event rfl

/-- The statement for repeatIntervalEnd. -/
theorem repeatIntervalEnd (e : EngineNo) : Statement (.repeatIntervalEnd e) := of_event rfl

/-- The statement for sweepCancel. -/
theorem sweepCancel (r : ReqHeader) : Statement (.sweepCancel r) := of_fixed rfl rfl rfl

/-- The statement for faultClear. -/
theorem faultClear (r : ReqHeader) : Statement (.faultClear r) := of_fixed rfl rfl rfl

/-- The statement for faultRead. -/
theorem faultRead (r : ReqHeader) : Statement (.faultRead r) := of_none rfl rfl

/-- The statement for ringSet. -/
theorem ringSet (r : ReqHeader) (start length timeout : Nat) : Statement (.ringSet r start length timeout) := of_fixed rfl rfl rfl

/-- The statement for frameHold. -/
theorem frameHold (r : ReqHeader) (number : Nat) : Statement (.frameHold r number) := of_fixed rfl rfl rfl

/-- The statement for frameRelease. -/
theorem frameRelease (r : ReqHeader) (number : Nat) : Statement (.frameRelease r number) := of_fixed rfl rfl rfl

/-- The statement for frameList. -/
theorem frameList (r : ReqHeader) : Statement (.frameList r) := of_fixed rfl rfl rfl

/-- The statement for viewLoad. -/
theorem viewLoad (r : ReqHeader) (view : Nat) (params : ViewParams) : Statement (.viewLoad r view params) := of_fixed rfl rfl rfl

/-- The statement for viewBind. -/
theorem viewBind (r : ReqHeader) (view : Nat) : Statement (.viewBind r view) := of_fixed rfl rfl rfl

/-- The statement for viewUnbind. -/
theorem viewUnbind (r : ReqHeader) : Statement (.viewUnbind r) := of_fixed rfl rfl rfl

/-- The statement for coefSelect. -/
theorem coefSelect (r : ReqHeader) (table : Nat) : Statement (.coefSelect r table) := of_fixed rfl rfl rfl

/-- The statement for coefWrite. -/
theorem coefWrite (r : ReqHeader) (values : List Nat) : Statement (.coefWrite r values) :=
  of_list (front := []) rfl rfl rfl (fun _ => rfl) (by
    intro h
    simp only [Instr.wf, fitsList, Bool.and_eq_true, decide_eq_true_eq] at h
    omega)

/-- The statement for frameResend. -/
theorem frameResend (r : ReqHeader) (number view : Nat) : Statement (.frameResend r number view) := of_fixed rfl rfl rfl

/-- The statement for pipeReset. -/
theorem pipeReset (r : ReqHeader) : Statement (.pipeReset r) := of_fixed rfl rfl rfl

/-- The statement for egressSet. -/
theorem egressSet (r : ReqHeader) (settings : EgressParams) : Statement (.egressSet r settings) := by
  intro hw c r' ps hp
  cases hp
  simp only [Instr.wf, Bool.and_eq_true, ReqHeader.wf, fits16, fits8, decide_eq_true_eq] at hw
  obtain ⟨⟨⟨-, ht⟩, -⟩, hf⟩ := hw
  cases settings with
  | hub k g b =>
    simp only [EgressParams.fitsTarget, decide_eq_true_eq] at hf
    have hp : targetPort (BitVec.ofNat 8 r.target) = none := by
      simp only [targetPort, asFin, BitVec.toNat_ofNat, Nat.mod_eq_of_lt ht]
      rw [dif_neg (by omega)]
    simp [lengthFits, lengthRule, egressParamsBytes, u8, hp]
  | port b =>
    simp only [EgressParams.fitsTarget, decide_eq_true_eq] at hf
    have hne : BitVec.ofNat 8 r.target ≠ hubTarget := by
      intro h
      have := congrArg BitVec.toNat h
      simp only [BitVec.toNat_ofNat, Nat.mod_eq_of_lt ht, hubTarget] at this
      exact hf this
    simp [lengthFits, lengthRule, egressParamsBytes, u8, hne]

end Sys2Proof.Laws.LengthFits
end

