-- ==== Sys2Proof/Tests/Slice0.lean ====
section
/-! SUPPORT. Tests of the model: a term that each check of WellFormed refuses; one step each on small states, with
results worked out by hand from the manual; and, for every statement that has hypotheses, a state and operands that meet
them. -/

namespace Sys2Proof.Tests

set_option Elab.async false

open Sys2Proof Sys2Proof.Machine

/-! ## Helpers -/

/-- The header of a request for port 3. -/
def q3 : ReqHeader := ⟨7, 3⟩

/-- The header of a request for the hub. -/
def qHub : ReqHeader := ⟨7, 255⟩

/-- The packet that spells a request. -/
def req (i : Instr) : Packet :=
  match requestPartsOf i with
  | some (c, r, ps) => requestPacket c r ps
  | none => ⟨0, 0, 0, 0, []⟩

/-- The machine with a hub, empty frame memory and nothing waiting. -/
def on (h : Hub) : State := { pending := [], dram := [], hub := h }

/-- The machine with a hub whose request queue holds the packet of a request. -/
def asked (h : Hub) (i : Instr) : State := on (h.modMgmt fun m => { m with requests := [req i] })

/-- The request may be taken on the hub, for port 3. -/
def asks3 (h : Hub) (i : Instr) : Bool := (asked h i).asksPort i (req i) 3

/-- The request may be taken on the hub, for the hub. -/
def asksHub (h : Hub) (i : Instr) : Bool := (asked h i).asksHub i (req i)

/-- The hub after a command that stops nowhere. -/
def ran (s : State) (i : Instr) : Hub :=
  match exec i s with
  | .next t => t.hub
  | .fault _ => s.hub
  | .refused _ => s.hub

/-- The hub after an event. -/
def event (h : Hub) (i : Instr) : Hub := ran (on h) i

/-- The hub after a request. -/
def request (h : Hub) (i : Instr) : Hub := ran (asked h i) i

/-- The status and results of the reply on the lane, as bytes. -/
def replyOf (h : Hub) : Option (List Byte) := h.trunk.lane.map fun x => x.2.payload.drop 2

/-- The hub after reset with its trunk UP. -/
def up : Hub := State.reset.hub.modTrunk fun t => { t with up := true }

/-- The same at a hub time. -/
def upAt (t : HubTime) : Hub := { up with time := t }

/-- Port 3 in a power state. -/
def power (h : Hub) (x : PowerState) : Hub := h.modPower 3 fun q => { q with state := x }

/-- Port 3 ON, its link in a state. -/
def link (h : Hub) (x : LinkState) : Hub := (power h .on).modLink 3 fun l => { l with state := x }

/-- A budget for the cell. -/
def budget (h : Hub) (mw : Nat) : Hub := h.modCell fun c => { c with budget := mw }

/-- Port 3 with its link UP and a focus axis that may be moved, at 500 of 1,000. -/
def lens : Hub :=
  (budget (link up .up) 200000).modAxis 3 .focus fun a => { a with present := true, position := some 500 }

/-- The axis in motion, as a command that is acknowledged leaves it. -/
def moving (x : Motion) : Hub := lens.modAxis 3 .focus fun a => { a with motion := x, target := 600, start := 500 }

/-- The sweep parameters with one repeat of one shot. -/
def short : SweepParams := { pair := .data, k := 0, repeats := 1 }

/-- An engine's context on port 3 in a phase. -/
def context (x : EnginePhase) : SweepContext :=
  { up.sweepContext ⟨3, short, .requested⟩ with phase := x, repeatNo := 1, shotNo := 1 }

/-- Engine 0 with a context, the port's sweep RUNNING. -/
def sweeping (h : Hub) (c : SweepContext) : Hub :=
  (h.setEngine 0 (some c)).modCable 3 fun x => { x with sweepStatus := .running }

/-- A frame record of one line of two pixels. -/
def record (x : FrameState) : FrameRecord :=
  { serial := 0, number := 9, triggerId := 0, trigger := none, arrival := 0, fillDeadline := 500000, width := 2
    height := 1, offset := 0, size := 4096, state := x, held := false, retained := false, view := some 2, flags := 0
    concealed := 0, cameraEnd := none, resends := [], written := [] }

/-- Port 3 with a ring of one unit at 5 that holds a record. -/
def framed (h : Hub) (r : FrameRecord) : Hub :=
  h.modFrames 3 fun f =>
    { f with
      ringStart := 5, ringLength := 1, table := [r], nextSerial := 1
      intake := if r.state = .filling then .filling else .idle }

/-- Slot 1 ANSWERED, its reply kept. -/
def kept (h : Hub) : Hub :=
  (h.setSlot 1 (.answered (req (.timeRead qHub)))).modMgmt fun m => { m with answered := [1] }

/-- Port 3 in COOLDOWN, its retry postponed by a sweep. -/
def postponed (h : Hub) : Hub := h.modPower 3 fun q => { q with state := .cooldown, postponed := true }

/-- Port 3 with a record, and its pipeline in a phase on that record's live item. -/
def piped (h : Hub) (x : FrameState) (phase : PipePhase) (plan : Option OutputPlan) : Hub :=
  (framed h (record x)).modPipe 3 fun _ => { phase := phase, work := [⟨0, none⟩], plan := plan }

/-- The plan of the record's one line, with its FRAME_OPEN taken or not and the next line. -/
def planAt (opened : Bool) (n : Nat) : OutputPlan := ⟨2, 0, 0, 2, 1, 2, 1, false, opened, n⟩

/-! ## WellFormed: one ill-formed term for each check -/

theorem test_wf_refuses_headers :
    (Instr.identify ⟨65536, 255⟩).wf = false ∧ (Instr.identify ⟨0, 256⟩).wf = false ∧ (Instr.identify qHub).wf = true := by
  decide +kernel

theorem test_wf_refuses_wide_fields :
    (Instr.isolate q3 256).wf = false ∧ (Instr.noticeSet qHub 65536).wf = false ∧
      (Instr.budgetSet qHub 4294967296).wf = false ∧ (Instr.portPowerSet q3 65536 0 0 0).wf = false ∧
      (Instr.portPowerSet q3 0 65536 0 0).wf = false ∧ (Instr.portPowerSet q3 0 0 256 0).wf = false ∧
      (Instr.portPowerSet q3 0 0 0 65536).wf = false := by decide +kernel

theorem test_wf_refuses_parameter_groups :
    (Instr.lensProfileLoad q3 ⟨256, 0, 0, 0⟩ ⟨0, 0, 0, 0⟩ ⟨0, 0, 0, 0⟩).wf = false ∧
      (Instr.lensProfileLoad q3 ⟨0, 65536, 0, 0⟩ ⟨0, 0, 0, 0⟩ ⟨0, 0, 0, 0⟩).wf = false ∧
      (Instr.lensProfileLoad q3 ⟨0, 0, 65536, 0⟩ ⟨0, 0, 0, 0⟩ ⟨0, 0, 0, 0⟩).wf = false ∧
      (Instr.lensProfileLoad q3 ⟨0, 0, 0, 256⟩ ⟨0, 0, 0, 0⟩ ⟨0, 0, 0, 0⟩).wf = false ∧
      (Instr.sweepRequest q3 ⟨256, 0, 0, 0, 0, 0⟩ 0).wf = false ∧ (Instr.sweepRequest q3 ⟨0, 0, 0, 65536, 0, 0⟩ 0).wf = false ∧
      (Instr.viewLoad qHub 0 ⟨256, 0, 0, 0, 0, 0, 0, 0, 0, 0, 0, 0⟩).wf = false ∧
      (Instr.viewLoad qHub 0 ⟨0, 0, 0, 0, 0, 0, 0, 0, 0, 0, 4294967296, 0⟩).wf = false := by decide +kernel

theorem test_wf_refuses_lists :
    (Instr.attrWrite q3 0 [65536]).wf = false ∧ (Instr.coefWrite qHub [256]).wf = false ∧
      (Instr.coefWrite qHub (List.replicate 256 0)).wf = false ∧ (Instr.focusTableLoad q3 0 0 [(0, 65536)]).wf = false := by
  decide +kernel

theorem test_wf_refuses_egress_form :
    (Instr.egressSet qHub (.port 4)).wf = false ∧ (Instr.egressSet q3 (.hub 4 0 4)).wf = false ∧
      (Instr.egressSet qHub (.hub 256 0 4)).wf = false ∧ (Instr.egressSet q3 (.port 256)).wf = false ∧
      (Instr.egressSet q3 (.port 4)).wf = true := by decide +kernel

theorem test_wf_refuses_events :
    (Instr.supplySample 40001).wf = false ∧ (Instr.frameStart 0 0 65536 0 0).wf = false ∧ (Instr.line 0 0 [65536]).wf = false ∧
      (Instr.frameEnd 0 0 256).wf = false ∧ (Instr.ack 0 256).wf = false ∧
      (Instr.attrReply 0 0 0 (List.replicate 17 0)).wf = false ∧ (Instr.lensReport 0 0 65536 0).wf = false ∧
      (Instr.shot 0 [(3, 256)]).wf = false ∧ (Instr.shot 0 [(3, 0), (3, 1)]).wf = false := by decide +kernel

/-! ## Words and packets -/

/-- The opcode table gives bits to no row, so no word spells a command. -/
theorem test_table_words_spell_nothing : decodeTableWord 8 0x01 = none ∧ State.reset.withFetchWord 8 0x01 = State.reset := by
  decide +kernel

/-- LENS_MOVE of axis ZOOM to >1234 on port 3 with tag >0007, header and payload written out from Tables 11-1 and 11-2. -/
theorem test_lens_move_packet :
    readPacket [0x01, 0x03, 0x00, 0x05, 0x00, 0x07, 0x00, 0x00, 0x00, 0x52, 0x01, 0x12, 0x34] =
        some (req (.lensMove q3 1 0x1234)) ∧
      requestOf (req (.lensMove q3 1 0x1234)) = some .lensMove := by decide +kernel

/-- The published check value of the CRC-16 with generator >1021 and start value >FFFF (R179), on the digits 1 to 9. -/
theorem test_crc16_check_value : crc16 [0x31, 0x32, 0x33, 0x34, 0x35, 0x36, 0x37, 0x38, 0x39] = 0x29B1#16 := by decide +kernel

theorem test_up_packets_read : readUp (UpPacket.ack 1).bytes = some (.ack 1) ∧ readUp [0x04, 0x01, 0x00, 0x00] = none := by decide +kernel

/-- The training pattern of Table 11-5, its CRC-16 worked out by hand. -/
theorem test_training_pattern :
    trainingBytes = [0x80, 0x55, 0xAA, 0x55, 0xAA, 0x0F, 0xF0, 0x49, 0x6A] ∧
      ((event (power up .ramping) (.rampOutputReached 3 21600)).lk 3).channel = .training trainingBytes := by decide +kernel

/-! ## The trunk and the Management Unit -/

theorem test_cold_reset_ends_everything :
    (event (link up .up) .coldReset).trunk.up = false ∧ ((event (link up .up) .coldReset).pw 3).state = .off := by
  decide +kernel

theorem test_trunk_up_sets_trunk :
    (event State.reset.hub .trunkUp).trunk.up = true ∧ (event State.reset.hub .trunkUp).mgmt.partFlags = 8#16 := by
  decide +kernel

/-- A loss counts the packets of the queues and the replies that slots keep (R164, R171). -/
theorem test_trunk_loss_counts_packets :
    (event (up.modTrunk fun t => { t with replies := [req (.timeRead qHub)], images := vset t.images 2 [req (.timeRead qHub)] })
        .trunkLoss).trunk.discarded = 2 ∧
      ((event (kept up) .trunkLoss).trunk.discarded, (event (kept up) .trunkLoss).mgmt.answered) = (1, []) := by decide +kernel

/-- The kept reply takes the place that is free, and the notice behind it is unsent (R171, R174). -/
theorem test_kept_reply_goes_before_a_notice :
    let h := (kept up).modTrunk fun t => { t with replies := List.replicate 31 (req (.identify qHub)) }
    let t := (h.modMgmt fun m => { m with enables := 1#16 }).flag 3 fPower
    (t.trunk.replies.getLast?, t.mgmt.unsent, t.mgmt.answered) = (some (req (.timeRead qHub)), 1, []) := by decide +kernel

/-- A FRAME_CLOSE taken first and the loss at the same time leave the frame SENT with TRUNK_LOST; a microsecond later, or
with the FRAME_CLOSE sent, the frame has no flag (R164). -/
theorem test_trunk_loss_with_a_frame_close :
    let h := (piped up .sending .running (some (planAt true 1))).modFrames 3 fun f =>
      { f with table := f.table.map fun r => { r with held := true } }
    let taken := event h (.imageQueueTakesPacket 3)
    let flags (h : Hub) : List (FrameState × BitVec 32) := (h.fr 3).table.map fun r => (r.state, r.flags)
    flags (event taken .trunkLoss) = [(.sent, flagTrunkLost)] ∧ flags (event taken.tick .trunkLoss) = [(.sent, 0)] ∧
      flags (event (event taken .packetSendEnd) .trunkLoss) = [(.sent, 0)] := by decide +kernel

theorem test_seventeenth_request_overflows :
    let full := up.modMgmt fun m => { m with requests := List.replicate 16 (req (.timeRead qHub)) }
    (event full (.requestPacketReceived (req (.identify qHub)))).mgmt.requests.length = 16 ∧
      (event full (.requestPacketReceived (req (.identify qHub)))).mgmt.overflow = 1 := by decide +kernel

theorem test_unknown_code_is_bad_request :
    replyOf (event (up.modMgmt fun m => { m with requests := [⟨1, 3, 7, 0, [0x00, 0x99]⟩] }) .badRequest) = some [3, 0] := by
  decide +kernel

theorem test_identify_counts :
    (replyOf (request up (.identify qHub))).map (·.take 9) = some [0, 0, 0x0C, 0x08, 1, 0, 8, 0, 4] := by decide +kernel

theorem test_time_read : replyOf (request (upAt 0x01020304#32) (.timeRead qHub)) = some [0, 0, 1, 2, 3, 4] := by decide +kernel

theorem test_part_reset_waits_for_its_reply :
    (request up (.partReset qHub)).mgmt.taking = .resetting ∧
      (event (request up (.partReset qHub)) .packetSendEnd).trunk.up = false := by decide +kernel

theorem test_read_events_clears_its_port :
    let flagged := (up.flag 3 fPower).flag 2 fLink
    vget (request flagged (.readEvents q3)).mgmt.portFlags 3 = 0 ∧ vget (request flagged (.readEvents q3)).mgmt.portFlags 2 = 8 := by
  decide +kernel

theorem test_notice_set_lets_a_flag_be_told :
    let enabled := request (up.modTrunk fun t => { t with lane := some (0, req (.timeRead qHub)) }) (.noticeSet qHub 1)
    enabled.mgmt.enables = 1 ∧ (enabled.flag 3 fPower).trunk.replies.length = 2 ∧
      (enabled.flag 3 fLink).trunk.replies.length = 1 := by decide +kernel

theorem test_isolate_powers_down :
    ((request (power up .on) (.isolate q3 0)).pw 3).state = .off ∧ ((request (power up .on) (.isolate q3 0)).pw 3).cause = .isolate ∧
      ((request (power up .locked) (.isolate q3 0)).pw 3).state = .locked := by decide +kernel

theorem test_port_read_tells_the_power_state :
    (request (power up .ramping) (.portRead q3)).trunk.lane ≠ (request (power up .on) (.portRead q3)).trunk.lane := by
  decide +kernel

theorem test_bad_target : replyOf (request up (.portRead ⟨7, 8⟩)) = some [4, 0] := by decide +kernel

theorem test_wrong_order_takes_nothing : ran (asked up (.identify qHub)) (.timeRead qHub) = (asked up (.identify qHub)).hub := by
  decide +kernel

theorem test_image_queue_takes_frame_open :
    let running := framed ((link up .up).modPipe 3 fun _ =>
      { phase := .running, work := [⟨0, none⟩], plan := some ⟨2, 0, 0, 2, 1, 2, 1, false, false, 0⟩ }) (record .sending)
    ((event running (.imageQueueTakesPacket 3)).trunk.lane.map fun x => x.2.kind) = some 0x10 := by decide +kernel

theorem test_egress_set_range :
    replyOf (request up (.egressSet qHub (.hub 17 0 4))) = some [5, 0] ∧
      (request up (.egressSet qHub (.hub 16 1 4))).trunk.lowShare = 16 := by decide +kernel

/-! ## Power and the link -/

theorem test_budget_set_sheds_lowest_priority :
    let two := ((budget up 12000).modPower 3 fun q => { q with state := .on }).modPower 5 fun q => { q with state := .on }
    ((request two (.budgetSet qHub 5000)).pw 5).cause = .shed ∧ ((request two (.budgetSet qHub 5000)).pw 3).state = .on := by
  decide +kernel

theorem test_port_power_set_while_on : replyOf (request (power up .on) (.portPowerSet q3 5000 300 0 0)) = some [10, 0] := by
  decide +kernel

theorem test_power_on_needs_budget :
    replyOf (request up (.powerOn q3)) = some [8, 0, 0, 0, 0, 0, 0, 0] ∧
      ((request (budget up 5000) (.powerOn q3)).pw 3).state = .detecting := by decide +kernel

theorem test_power_off_of_locked_empties_trips :
    ((request ((power up .locked).modPower 3 fun q => { q with trips := [1, 2, 3] }) (.powerOff q3)).pw 3).trips = [] := by
  decide +kernel

theorem test_detection_short :
    let at' := { (power up .detecting).modPower 3 (fun q => { q with phaseEnd := 20000 }) with time := 20000 }
    ((event at' (.detectionEnd 3 9999)).pw 3).cause = .detectShort ∧ ((event at' (.detectionEnd 3 10000)).pw 3).state = .ramping ∧
      ((event { at' with time := 19999 } (.detectionEnd 3 9999)).pw 3).state = .detecting := by decide +kernel

theorem test_ramp_reaches_ninety_percent :
    ((event (power up .ramping) (.rampOutputReached 3 21600)).lk 3).state = .training ∧
      ((event (power up .ramping) (.rampOutputReached 3 21599)).pw 3).state = .ramping := by decide +kernel

theorem test_third_trip_locks :
    let excess := { (power up .on).modPower 3 (fun q => { q with overSince := some 8000000#32, trips := [1, 2] }) with time := 8002000 }
    ((event excess (.trip 3 301)).pw 3).state = .locked ∧
      ((event { excess with time := 8001999 } (.trip 3 301)).pw 3).state = .on := by decide +kernel

theorem test_hard_short_locks_at_once :
    ((event (power up .on) (.hardShort 3 601)).pw 3).state = .locked ∧ ((event (power up .on) (.hardShort 3 600)).pw 3).state = .on := by
  decide +kernel

/-- A current above twice the limit is a hard short whichever row reports it (R47). -/
theorem test_any_report_of_a_short_locks :
    ([.overcurrentRise 3 601, .overcurrentFall 3 601, .trip 3 601] : List Instr).map
        (fun i => (((event (power up .on) i).pw 3).state, ((event (power up .on) i).pw 3).cause)) =
      List.replicate 3 (.locked, .hardShort) := by decide +kernel

theorem test_supply_sag_sheds :
    let low := { (power up .on).modCell (fun c => { c with monitor := .low, lowSince := 0 }) with time := 2000 }
    ((event low (.supplySample 19999)).pw 3).cause = .undervolt ∧ (event low (.supplySample 20000)).cell.monitor = .normal := by
  decide +kernel

theorem test_third_training_attempt_fails :
    let last := { (link up .training).modLink 3 (fun l => { l with attempt := 3 }) with time := 200000 }
    ((event last (.trainingAttemptEnd 3)).lk 3).note = .trainFail ∧
      ((event { last with time := 199999 } (.trainingAttemptEnd 3)).lk 3).state = .training := by decide +kernel

theorem test_lock_reply : ((event (link up .training) (.lockReply 3)).lk 3).state = .up := by decide +kernel

theorem test_loss_of_lock_trains_again :
    ((event (link up .degraded) (.lossOfLock 3)).lk 3).state = .training ∧
      (((event (link up .degraded) (.lossOfLock 3)).lk 3).history.map (·.degraded)) = [true] := by decide +kernel

theorem test_eighth_error_degrades :
    let seven := (link up .up).modLink 3 fun l => { l with windowErrors := 7 }
    ((event seven (.badUpstreamPacket 3 [0xFF])).lk 3).state = .degraded ∧
      ((event (event seven (.badUpstreamPacket 3 [0xFF])) (.errorWindowEnd 3)).lk 3).windowErrors = 8 := by decide +kernel

theorem test_clean_window_restores_up :
    ((event { link up .degraded with time := 100000 } (.errorWindowEnd 3)).lk 3).state = .up := by decide +kernel

theorem test_attr_read_is_sent_and_answered :
    let sent := request (link up .up) (.attrRead q3 0x1234 1)
    let done := event (event sent (.ack 3 0)) (.attrReply 3 0 0 [0xABCD])
    (sent.lk 3).channel = .command (withCrc [0x81, 0x00, 0x00, 0x12, 0x34, 0x01]) ∧
      replyOf done = some [0, 0, 1, 0xAB, 0xCD] := by decide +kernel

theorem test_third_wait_fails_with_no_ack :
    let last := (link up .up).modLink 3 fun l => { l with queue := [.lensHome .focus], sendCount := 3, ackWait := some 0 }
    ((event { last with time := 2000 } (.ackWaitEnd 3)).lk 3).noAcks = 1 ∧
      ((event { last with time := 2000 } (.ackWaitEnd 3)).lk 3).queue = [] := by decide +kernel

/-- The trigger that waits goes onto the channel, and the command behind it fails at the same boundary (R30, R31). -/
theorem test_command_fails_at_the_end_of_a_trigger :
    let last := (link up .up).modLink 3 fun l =>
      { l with queue := [.lensHome .focus], sendCount := 3, waitEnded := true, channel := .trigger [], pendingTrigger := some 7 }
    ((event last (.downstreamMessageSent 3)).lk 3).noAcks = 1 ∧
      ((event last (.downstreamMessageSent 3)).lk 3).queue = [] ∧
      ((event last (.downstreamMessageSent 3)).lk 3).channel = .trigger (withCrc [0x86, 7]) := by decide +kernel

/-! ## Cable test -/

theorem test_sweep_request_starts_engine_0 :
    let asked := request up (.sweepRequest q3 ⟨0, 0, 1, 10, 0, 0⟩ 0)
    (asked.engine 0).isSome = true ∧ replyOf asked = some [0, 0, 2, 0] := by decide +kernel

/-- With speed 200 mm/ns, an echo at tick 68 gives avg_q4 1,088 and d = 1088 * 200 * 5 / 64 = 17,000 mm (R71, R72). -/
theorem test_distance_of_an_echo : distanceMm (averageQ4 68 1) 0 200 = 17000 ∧ distanceMm (averageQ4 68 1) 1088 200 = 0 := by
  decide +kernel

theorem test_shot_records_a_break :
    let c := { context .shooting with length := 25000, tolerance := 500 }
    let after := event { sweeping up c with time := 4 } (.shot 0 [(68, 40), (80, 0)])
    (after.cables.faults.map fun f => (f.port, f.kind, f.lastMm)) = [(3, .openBreak, 17000)] ∧
      (after.cb 3).faultIsolation = true ∧ (after.cb 3).sweepStatus = .idle := by decide +kernel

theorem test_fault_clear :
    let fault : FaultRecord := ⟨0, 3, .data, .openBreak, false, true, 1, 1, 1, 1, 1, .requested, 0, 0⟩
    let broken := (up.modCables fun u => { u with faults := [fault] }).modCable 3 fun c => { c with faultIsolation := true }
    (request broken (.faultClear q3)).effectiveIso 3 = false ∧ replyOf (request broken (.faultClear q3)) = some [0, 0, 1] := by
  decide +kernel

theorem test_cable_settings_range :
    replyOf (request up (.cableTypeSet qHub 0 301 0 32)) = some [5, 0] ∧ replyOf (request up (.portCableSet q3 0 0 0 0)) = some [5, 0] ∧
      replyOf (request up (.autoSweepSet q3 32 ⟨0, 0, 1, 10, 0, 0⟩)) = some [5, 0] := by decide +kernel

/-! ## Lenses and triggers -/

theorem test_lens_move_is_clamped_and_sent :
    let moved := request lens (.lensMove q3 0 2000)
    ((moved.ax 3 .focus).motion, (moved.ax 3 .focus).target) = (.moving, 1000) ∧
      (moved.lk 3).channel = .command (withCrc [0x83, 0x00, 0x00, 0x03, 0xE8]) ∧
      (replyOf moved).map (·.take 5) = some [1, 0, 2, 0x03, 0xE8] := by decide +kernel

/-- 500 steps at 1,000 a second take 500 ms, with 200 ms added (R90). -/
theorem test_lens_deadline : ((request lens (.lensMove q3 0 1000)).ax 3 .focus).deadline = 700000 := by decide +kernel

/-- 60 ms at 1,000 steps a second have run 60 of the 100 steps from 500 to 600 (R91). -/
theorem test_retarget_starts_from_the_estimate :
    ((request { moving .moving with time := 60000 } (.lensMove q3 0 0)).ax 3 .focus).start = 560 := by decide +kernel

theorem test_lens_report_done_and_slip :
    ((event (moving .moving) (.lensReport 3 0 600 0)).ax 3 .focus).outcome = .finished ∧
      ((event (moving .moving) (.lensReport 3 0 601 0)).ax 3 .focus).outcome = .slip := by decide +kernel

/-- On the points (1000, 100) and (2000, 50) the focus at 1,501 mm is 100 + trunc(-25.05) = 75 (R102). -/
theorem test_focus_interpolation : focusOn 1501 [(1000, 100), (2000, 50)] = 75 := by decide +kernel

theorem test_encoder_pitch_fires :
    let armed := (link up .up).modTrig 3 fun t => { t with source := .encoder, pitch := 1, phase := 0 }
    ((event armed (.encoderStep true false)).tg 3).issued = 1 ∧ (event armed (.encoderStep true false)).encoder.counter = 1 ∧
      (event armed (.encoderStep true true)).encoder.errors = 1 := by decide +kernel

theorem test_line_filter_accepts_and_rejects :
    let risen := event up (.triggerLineRise 1)
    (event { risen with time := 10 } (.filterTimeEnd 1)).lines[1].accepted = 1 ∧
      (event risen (.triggerLineFall 1)).lines[1].glitches = 1 := by decide +kernel

theorem test_trigger_soft_on_a_down_link_is_lost :
    ((request up (.triggerSoft qHub 8)).tg 3).lostLink = 1 ∧ ((request up (.triggerSoft qHub 8)).tg 2).requested = 0 := by
  decide +kernel

/-! ## Frames, views and the arbiter -/

theorem test_frame_is_admitted_stored_and_completed :
    let ringed := request (link up .up) (.ringSet q3 5 1 500)
    let s0 : State := on (event ringed (.frameStart 3 9 2 1 0))
    let s1 := match exec (.line 3 0 [0xFABC, 0x0123]) s0 with | .next t => t | _ => s0
    (s1.dram.read 327680, s1.dram.read 327681, s1.dram.read 327682, s1.dram.read 327683) = (0x0A, 0xBC, 0x01, 0x23) ∧
      (((ran s1 (.frameEnd 3 1 0)).fr 3).table.map fun r => (r.number, r.state)) = [(9, .sent)] := by decide +kernel

theorem test_fill_deadline_truncates :
    ((event (framed { link up .up with time := 500000 } (record .filling)) (.fillDeadline 3)).fr 3).table.map (·.flags) =
      [flagTruncated ||| flagConcealed] := by decide +kernel

theorem test_ring_set_overlap_is_in_use :
    replyOf (request (up.modFrames 2 fun f => { f with ringStart := 4, ringLength := 2 }) (.ringSet q3 5 1 500)) = some [13, 0] := by
  decide +kernel

theorem test_frame_hold_and_release :
    let held := request (framed up (record .sent)) (.frameHold q3 9)
    ((held.fr 3).table.map (·.held)) = [true] ∧
      ((request { held with trunk := up.trunk } (.frameRelease q3 9)).fr 3).table = [] := by decide +kernel

/-- One line of 32 + 2 bytes every 1,000 us is 34,000 bytes a second (R141). -/
theorem test_view_bind_load :
    let loaded := up.modView fun x => { x with views := vset x.views 2 { valid := true } }
    (vget (request loaded (.viewBind q3 2)).view.bindings 3).load = 34000 := by decide +kernel

theorem test_coef_write_discards_beyond_the_table :
    let near := up.modView fun x => { x with cursor := 31 }
    (request near (.coefWrite qHub [1, 2, 3])).view.discards = 2 ∧
      vget (vget (request near (.coefWrite qHub [1, 2, 3])).view.coefs 0) 31 = 1 := by decide +kernel

theorem test_arbiter_takes_turns_in_the_ring :
    let waiting := up.modTrunk fun t =>
      { t with images := vset (vset t.images 1 [req (.timeRead qHub)]) 6 [req (.timeRead qHub)], lastLow := some 4 }
    ((waiting.settle []).trunk.lane.map (·.1)) = some 6 := by decide +kernel

theorem test_dither_offsets :
    ([0, 1].map fun n => [0, 1].map fun k => reduceDepth .pix8Dither n k 24) = [[1, 2], [2, 1]] := by decide +kernel

/-! ## Worked cases of the manual -/

/-- Table 4-5: winning polarity, its hits, and whether the echo is valid, for N = 8. -/
theorem test_repeat_edges :
    ([(5, 2), (4, 4), (3, 3), (0, 0), (1, 3)].map fun x =>
      let d := ({ context .shooting with
        params := { short with k := 3 }, posHits := x.1, negHits := x.2 } : SweepContext).evaluate.2
      (d.polarity, d.hits, d.echo.isSome)) =
      [(.pos, 5, true), (.neg, 4, true), (.neg, 3, false), (.neg, 0, false), (.neg, 3, false)] := by decide +kernel

/-- Section 4.6.1. -/
theorem test_short_in_a_60_m_cable :
    ({ context .shooting with
        params := { short with k := 4, width := 3, scale := 1 }, speed := 198, polarity := some .pos, length := 60000
        tolerance := 500, offset := 96, posHits := 1, posSum := 41, negHits := 14, negSum := 3262 } :
      SweepContext).evaluate = (.breakShort, ⟨.neg, 14, some (3728, 56182)⟩) := by decide +kernel

/-- Table 5-6. -/
theorem test_focus_on_stop_0 :
    ([250, 500, 650, 601, 1000, 3000].map fun d => focusOn d [(300, 15000), (500, 12000), (800, 9000), (2000, 6500)]) =
      [15000, 12000, 10500, 10990, 8584, 6500] := by decide +kernel

/-- Tables 8-7 and 8-8, and the reductions below them. -/
theorem test_worked_rows :
    let row := [100, 200, 400, 800, 1600, 3200, 4000, 4095]
    let sharp : CoefTable := Vector.ofFn fun i => [0, 64, 0, 0].getD i.val ([-4, 36, 36, -4].getD (i.val - 16) 0)
    let tables := vset (Vector.replicate 4 CoefTable.linear) 1 sharp
    let linear := (List.range (outSize 8 1536)).map fun k => resample tables (.table 0) 1536 8 k fun c => row.getD c 0
    linear = [100, 300, 800, 2400, 4000] ∧
      linear.map (reduceDepth .pix8Round 0 0) = [6, 19, 50, 150, 250] ∧
      linear.zipIdx.map (fun x => reduceDepth .pix8Dither 1 x.2 x.1) = [7, 19, 50, 150, 250] ∧
      ((List.range (outSize 6 1536)).map fun k =>
        resample tables (.table 1) 1536 6 k fun c => [10, 0, 0, 2000, 4095, 4095].getD c 0) = [10, 0, 2000, 4095] ∧
      outSize 2048 2048 = 1024 ∧ outSize 1536 2048 = 768 := by decide +kernel

/-- A completion is one event of the Cable Test Unit (R75), so FAULT and SWEEP bring one notice (R174). -/
theorem test_completion_offers_one_notice :
    let h := (sweeping (upAt 4) { context .shooting with length := 25000 }).modMgmt fun m => { m with enables := 0x0060#16 }
    let t := event h (.shot 0 [(50, 100)])
    (vget t.mgmt.portFlags 3, t.trunk.replies.length, t.trunk.lane.isSome) = (0x0060#16, 0, true) := by decide +kernel

/-! ## Witnesses: states and operands that meet the hypotheses of each statement -/

theorem witness_StepRunsTheFrontCommand :
    ({ on up with pending := [.trunkLoss, .lockReply 3] } : State).pending = .trunkLoss :: [.lockReply 3] ∧
      (on up).pending = [] := by decide +kernel

theorem witness_PartResetResets :
    let reply := replyPacket 255 7 (u16 3) (okWith [])
    let waits := (up.modMgmt fun m => { m with taking := .resetting }).modTrunk fun t => { t with replies := [reply] }
    let sends := (up.modMgmt fun m => { m with taking := .resetting }).modTrunk fun t => { t with lane := some (8, reply) }
    (asksHub up (.partReset qHub) = true ∧ up.trunk.up = true) ∧
      (asksHub State.reset.hub (.partReset qHub) = true ∧ State.reset.hub.trunk.up = false) ∧
      (sends.mgmt.taking = .resetting ∧ isResetReply reply = true ∧ sends.trunk.lane = some (8, reply) ∧ sends.trunk.up = true) ∧
      (waits.mgmt.taking = .resetting ∧ waits.trunk.up = true ∧ reply ∈ waits.trunk.replies) := by decide +kernel

theorem witness_PacketsReadBack :
    (req (.lensMove q3 2 65535)).wf = true ∧ (UpPacket.frameStart 65535 65535 0 255).wf = true ∧
      (UpPacket.attrReply 255 255 (List.replicate 16 65535)).wf = true ∧
      ([0x00, 0x00] : List Byte) ≠ u16 (crc16 [0x07]).toNat := by decide +kernel

theorem witness_RequestsAreSpelledOnce :
    let i : Instr := .focusTableLoad ⟨65535, 0⟩ 255 65535 [(65535, 0)]
    i.wf = true ∧ requestPartsOf i = some (.focusTableLoad, ⟨65535, 0⟩, u8 255 ++ u16 65535 ++ counted pointBytes [(65535, 0)]) ∧
      spells (req i) .focusTableLoad ⟨65535, 0⟩ (u8 255 ++ u16 65535 ++ counted pointBytes [(65535, 0)]) = true := by
  decide +kernel

/-- A state with one command waiting takes a step. -/
theorem steps (h : Hub) (m : Memory) (i : Instr) (t : State) (he : exec i { on h with dram := m } = .next t) :
    step { pending := [i], dram := m, hub := h } = .next t := he

theorem witness_MemoryFormKept :
    ∃ t, Memory.wf [(0, 1), (268435455, 255)] = true ∧ step { on up with dram := [(0, 1), (268435455, 255)] } = .next t :=
  ⟨_, by decide +kernel, rfl⟩

/-- Port 3 with a trigger sent, every counter in balance. -/
def outstanding : Hub :=
  (link up .up).modTrig 3 fun t =>
    { t with hand := .outstanding ⟨5, 0⟩ 255 true 0 100000, requested := 4, issued := 2, matched := 1, lostLink := 1, lostOver := 1 }

theorem witness_TriggerCountersBalance : ∃ t, outstanding.TriggersBalance ∧ step (on outstanding) = .next t := by
  refine ⟨_, ?_, rfl⟩
  unfold Hub.TriggersBalance PortTrigger.Balanced
  decide +kernel

/-- Port 3 with its focus in motion and the allowance held. -/
def driven : Hub := (moving .moving).modPower 3 fun q => { q with allowance := 500, allowanceHeld := true }

theorem witness_TotalsFitTheirLimits :
    ∃ t, (budget driven 5500).BudgetHolds ∧ (budget driven 5500).AdmissionHolds ∧ step (on (budget driven 5500)) = .next t := by
  refine ⟨_, ?_, ?_, rfl⟩
  · unfold Hub.BudgetHolds
    decide +kernel
  · unfold Hub.AdmissionHolds
    decide +kernel

/-- Port 3 isolated by an OPEN fault record and LOCKED. -/
def broken : Hub :=
  ((power up .locked).modCables fun u =>
    { u with faults := [⟨0, 3, .data, .openBreak, false, true, 1, 1, 1, 1, 1, .requested, 0, 0⟩] }).modCable 3 fun c =>
    { c with faultIsolation := true }

theorem witness_IsolationFollowsFaults :
    ∃ t, broken.FaultsIsolate ∧ broken.IsolationHolds ∧ step (on broken) = .next t := by
  refine ⟨_, ?_, ?_, rfl⟩
  · unfold Hub.FaultsIsolate
    decide +kernel
  · unfold Hub.IsolationHolds
    decide +kernel

theorem witness_LinksFollowPower :
    let h := (driven.setSlot 2 (.waiting 7 3 .read 0 100000)).modTrig 3 fun t => { t with hand := .outstanding ⟨5, 0⟩ 255 true 0 100000 }
    ∃ t, h.LinksHold ∧ step (on h) = .next t := by
  refine ⟨_, ?_, rfl⟩
  unfold Hub.LinksHold
  decide +kernel

theorem witness_SweepsKeepTheirPlaces :
    ∃ t, (sweeping up (context .shooting)).SweepsHold ∧ step (on (sweeping up (context .shooting))) = .next t := by
  have h0 : (sweeping up (context .shooting)).engine 0 = some (context .shooting) := rfl
  have h1 : (sweeping up (context .shooting)).engine 1 = none := rfl
  have runs : ∀ p, ((sweeping up (context .shooting)).cb p).sweepStatus = .running ↔ p = 3 := by decide +kernel
  refine ⟨_, ⟨by decide +kernel, by decide +kernel, fun p => (runs p).trans ⟨?_, ?_⟩, ?_, by decide +kernel,
    by decide +kernel⟩, rfl⟩
  · rintro rfl
    exact ⟨0, _, h0, rfl⟩
  · rintro ⟨e, c, he, rfl⟩
    rcases (by decide +kernel : ∀ e : EngineNo, e = 0 ∨ e = 1) e with rfl | rfl
    · rw [h0] at he
      cases he
      rfl
    · rw [h1] at he
      cases he
  · intro c c' _ hc
    rw [h1] at hc
    cases hc

/-- Every axis at its widest, the focus of port 3 moving from end to end. -/
def travelling : Hub :=
  up.modAxis 3 .focus fun a => { a with max := 65535, position := some 65535, motion := .moving, start := 0, target := 65535 }

theorem witness_LensPositionsInTravel : ∃ t, travelling.LensesInTravel ∧ step (on travelling) = .next t := by
  refine ⟨_, ?_, rfl⟩
  have ends : ∀ p, (travelling.ax p .focus).position.getD 0 ≤ (travelling.ax p .focus).max ∧
      (travelling.ax p .zoom).position.getD 0 ≤ (travelling.ax p .zoom).max ∧
      (travelling.ax p .iris).position.getD 0 ≤ (travelling.ax p .iris).max ∧
      (travelling.ax p .focus).start ≤ (travelling.ax p .focus).max ∧
      (travelling.ax p .focus).target ≤ (travelling.ax p .focus).max ∧
      (travelling.ax p .zoom).motion = .idle ∧ (travelling.ax p .iris).motion = .idle := by decide +kernel
  intro p x
  obtain ⟨hf, hz, hi, hs, ht, hm, hn⟩ := ends p
  cases x
  · exact ⟨fun q hq => by simpa [hq] using hf, fun _ => ⟨hs, ht⟩⟩
  · exact ⟨fun q hq => by simpa [hq] using hz, fun h => by simp [hm] at h⟩
  · exact ⟨fun q hq => by simpa [hq] using hi, fun h => by simp [hn] at h⟩

/-- Port 3 with 8 records side by side, 4 of them held, beside the ring of port 2. -/
def full : Hub :=
  (up.modFrames 2 fun f => { f with ringStart := 4, ringLength := 1 }).modFrames 3 fun f =>
    { f with
      ringStart := 5, ringLength := 1, nextSerial := 8
      table := (List.range 8).map fun n => { record .sent with serial := n, offset := 4096 * n, held := decide (n < 4) } }

/-- Port 3 with 8 COMPLETE records, the first two with a resend pending, and all ten items of its work list. -/
def laden : Hub :=
  (full.modFrames 3 fun f =>
    { f with table := f.table.map fun r => { r with state := .complete, resends := if r.serial < 2 then [2] else [] } }).modPipe 3 fun _ =>
    { phase := .idle, plan := none, work := (List.range 8).map (⟨·, none⟩) ++ [⟨0, some 2⟩, ⟨1, some 2⟩] }

/-- The queues of the hub and of port 3 at their bounds: every port waits for a sweep and has an OPEN record of each pair. -/
def crowded : Hub :=
  (((((kept laden).modMgmt fun m => { m with requests := List.replicate 16 (req (.timeRead qHub)) }).modTrunk fun t =>
    { t with
      replies := List.replicate 32 (req (.timeRead qHub))
      images := vset t.images 3 [⟨0, 0, 0, 0, List.replicate 65528 0⟩] }).modLink 3 fun l =>
        { l with queue := List.replicate 8 (.lensHome .iris) }).modPower 3 fun q => { q with trips := [1, 2, 3] }).modCables
    (fun u =>
      { u with
        queue := allPorts.map (⟨·, short, .requested⟩)
        faults := [Pair.data, .power].flatMap fun x => allPorts.map fun p =>
          ⟨0, p, x, .openBreak, false, true, 1, 1, 1, 1, 1, .requested, 0, 0⟩ }) |> fun h =>
  allPorts.foldl (fun h p => h.modCable p fun c => { c with sweepStatus := .queued }) h

/-- A slot that is ANSWERED. -/
def isAnswered : Slot → Bool
  | .answered _ => true
  | _ => false

/-- The kept replies are checked slot by slot. -/
theorem keptReplies_of_slots (h : Hub)
    (hk : h.mgmt.answered.Nodup ∧ ∀ i, i ∈ h.mgmt.answered ↔ isAnswered (vget h.mgmt.slots i) = true) : h.KeptReplies :=
  ⟨hk.1, fun i => (hk.2 i).trans (by cases vget h.mgmt.slots i <;> simp [isAnswered])⟩

theorem witness_QueuesKeepTheirBounds :
    ∃ t, crowded.QueuesBounded ∧ crowded.SweepsHold ∧ crowded.FramesHold ∧ crowded.WorkHolds ∧ step (on crowded) = .next t := by
  have idle : ∀ e, crowded.engine e = none := by decide +kernel
  have queued : ∀ p, (crowded.cb p).sweepStatus = .queued := by decide +kernel
  have onePerPair : ∀ p, (crowded.cables.faults.filter fun f => f.opens p .data).length ≤ 1 ∧
      (crowded.cables.faults.filter fun f => f.opens p .power).length ≤ 1 := by decide +kernel
  refine ⟨_, ⟨by decide +kernel, by decide +kernel, keptReplies_of_slots _ (by decide +kernel), by decide +kernel, by decide +kernel,
    by decide +kernel, fun p x => ?_, by decide +kernel⟩, ⟨by decide +kernel, by decide +kernel, fun p => ?_,
    fun c c' hc => by simp [idle] at hc, by decide +kernel, by decide +kernel⟩, ?_, ?_, rfl⟩
  · cases x
    · exact (onePerPair p).1
    · exact (onePerPair p).2
  · simp [idle, queued]
  · unfold Hub.FramesHold PortFrames.Placed
    decide +kernel
  · unfold Hub.WorkHolds
    decide +kernel

theorem witness_FrameRecordsStayApart : ∃ t, full.FramesHold ∧ laden.FramesHold ∧ laden.WorkHolds ∧ step (on laden) = .next t := by
  refine ⟨_, ?_, ?_, ?_, rfl⟩
  · unfold Hub.FramesHold PortFrames.Placed
    decide +kernel
  · unfold Hub.FramesHold PortFrames.Placed
    decide +kernel
  · unfold Hub.WorkHolds
    decide +kernel

theorem witness_RequestsAreCheckedFirst :
    let i : Instr := .portRead ⟨7, 8⟩
    ((asked up i).asks i (req i) = true ∧ targetFits .portRead (req i).port = false) ∧
      ((asked up (.identify ⟨7, 7⟩)).asks (.identify ⟨7, 7⟩) (req (.identify ⟨7, 7⟩)) = true ∧
        targetFits .identify (req (.identify ⟨7, 7⟩)).port = false) ∧
      ((requestPartsOf i).isSome = true ∧ (up.modMgmt fun m => { m with taking := .held }).mgmt.taking ≠ .ready) := by
  decide +kernel

theorem witness_TakingsLeaveTheRest :
    ∃ t, (asked up (.powerOn q3)).asks (.powerOn q3) (req (.powerOn q3)) = true ∧ exec (.powerOn q3) (asked up (.powerOn q3)) = .next t ∧
      ∀ r, Instr.powerOn q3 ≠ .partReset r :=
  ⟨_, by decide +kernel, rfl, fun _ h => by cases h⟩

theorem witness_EveryRequestIsAnswered :
    ∃ t, requestPartsOf (.powerOn q3) = some (.powerOn, q3, []) ∧
      (asked up (.powerOn q3)).asks (.powerOn q3) (req (.powerOn q3)) = true ∧ (asked up (.powerOn q3)).hub.trunk.up = true ∧
      exec (.powerOn q3) (asked up (.powerOn q3)) = .next t :=
  ⟨_, rfl, by decide +kernel, rfl, rfl⟩

theorem witness_RequestsAreQueued :
    let of (n : Nat) : Hub := up.modMgmt fun m => { m with requests := List.replicate n ⟨1, 3, 7, 0, [0]⟩ }
    ((of 15).trunk.up = true ∧ (of 15).mgmt.requests.length < 16) ∧ ((of 16).trunk.up = true ∧ 16 ≤ (of 16).mgmt.requests.length) ∧
      State.reset.hub.trunk.up = false ∧
      ((of 1).mgmt.requests = ⟨1, 3, 7, 0, [0]⟩ :: [] ∧ (of 1).mayTake = true ∧ requestOf ⟨1, 3, 7, 0, [0]⟩ = none) := by
  decide +kernel

theorem witness_FlagsRaiseNotices :
    let enabled := up.modMgmt fun m => { m with enables := 1#16 }
    let many := (kept enabled).modTrunk fun t => { t with replies := List.replicate 31 (req (.timeRead qHub)) }
    enabled.mgmt.answered = [] ∧ enabled.rising 3 fLink 0 &&& enabled.mgmt.enables = 0#16 ∧
      ((kept enabled).rising 3 fPower 0 &&& (kept enabled).mgmt.enables ≠ 0#16 ∧ (kept enabled).trunk.up = true ∧
        (kept enabled).mgmt.answered ≠ [] ∧ ((kept enabled).setFlags 3 fPower 0).offerDue.replyRoom = true) ∧
      (many.rising 3 fPower 0 &&& many.mgmt.enables ≠ 0#16 ∧ many.trunk.up = true ∧
        (many.setFlags 3 fPower 0).offerDue.replyRoom = false) ∧
      ((enabled.modTrunk fun t => { t with up := false }).rising 3 fPower 0 &&& enabled.mgmt.enables ≠ 0#16) := by
  decide +kernel

theorem witness_ArbiterGrantsInTurn :
    let pkt := req (.timeRead qHub)
    let h := up.modTrunk fun t => { t with images := vset t.images 6 [pkt], replies := [pkt], highRun := 3, lastHigh := some 8 }
    h.trunk.up = true ∧ h.trunk.grant = none ∧ h.trunk.lane = none ∧ h.groupWaits .high = true ∧ h.groupWaits .low = true ∧
      (Group.high, 4) = (if h.trunk.highRun < h.trunk.lowShare then (Group.high, h.trunk.highRun + 1) else (.low, 0)) ∧
      h.queuePackets 8 = pkt :: [] ∧ h.groupOf 8 = .high ∧
      (∀ q' : QueueNo, h.queuePackets q' ≠ [] → h.groupOf q' = .high → (8 + 8 - 8) % 9 ≤ (q'.val + 8 - 8) % 9) ∧
      State.reset.hub.trunk.up = false := by decide +kernel

/-- The grant of an image queue whose pipeline waits, with and without room behind the packet that leaves. -/
theorem witness_ArbiterGrantsInTurn_waiting :
    let pkt := req (.timeRead qHub)
    let large : Packet := ⟨0, 0, 0, 0, List.replicate 65490 0⟩
    let h (rest : List Packet) : Hub := (piped up .sending .waiting (some (planAt false 0))).modTrunk fun t =>
      { t with images := vset t.images 3 (pkt :: rest) }
    let offered := (h []).emission [] 3 (planAt false 0) ⟨0, none⟩ (record .sending)
    ((h []).trunk.up = true ∧ (h []).trunk.grant = none ∧ (h []).trunk.lane = none ∧ (h []).groupWaits .high = false ∧
        (h []).queuePackets 3 = pkt :: [] ∧ (h []).groupOf 3 = .low ∧
        ∀ q' : QueueNo, (h []).queuePackets q' ≠ [] → (h []).groupOf q' = .low → (3 : QueueNo).val ≤ q'.val) ∧
      (((h []).pl 3).phase = .waiting ∧ ((h []).pl 3).work = ⟨0, none⟩ :: [] ∧
        ((h []).fr 3).record 0 = some (record .sending) ∧ ((h []).pl 3).plan = some (planAt false 0)) ∧
      occupancy [] + packetSize offered ≤ 65536 ∧ 65536 < occupancy [large] + packetSize offered ∧
      (planAt true 0).nextLine < (planAt true 0).lines := by decide +kernel

theorem witness_ReadsAnswerAndChangeNothing :
    asksHub up (.identify qHub) = true ∧ asksHub up (.timeRead qHub) = true ∧ asks3 up (.portRead q3) = true ∧
      asks3 up (.dropHistoryRead q3) = true ∧ asks3 up (.lensRead q3) = true ∧ asksHub up (.triggerRead qHub) = true ∧
      asks3 up (.triggerRead q3) = true ∧ asksHub up (.faultRead qHub) = true ∧ asks3 up (.faultRead q3) = true ∧
      asks3 up (.frameList q3) = true := by decide +kernel

theorem witness_EventFlagsReadAndEnabled :
    asksHub up (.readEvents qHub) = true ∧ asks3 up (.readEvents q3) = true ∧ asksHub up (.noticeSet qHub 65535) = true := by
  decide +kernel

theorem witness_IsolateActs :
    (∀ a : Fin 3, asks3 (power up .cooldown) (.isolate q3 a.val) = true) ∧
      (up.effectiveIso 3 = false ∧ (up.pw 3).state = .off) ∧ ((power up .locked).pw 3).state = .locked ∧
      (power up .cooldown).effectiveIso 3 = false ∧ broken.effectiveIso 3 = true ∧
      (asks3 (link up .degraded) (.isolate q3 0) = true ∧ ((link up .degraded).pw 3).state = .on ∧
        ((link up .degraded).lk 3).established = true ∧ ((link up .degraded).lk 3).history.length ≤ 16) := by decide +kernel

theorem witness_PassThroughTaken :
    let busy := [0, 1, 2, 3].foldl (fun (h : Hub) (i : SlotNo) => h.setSlot i (.waiting 7 3 .read 0 0)) (link up .up)
    let one := (link up .up).setSlot 0 (.waiting 7 3 .read 0 0)
    let many := one.modLink 3 fun l => { l with queue := List.replicate 8 (.lensHome .focus) }
    asks3 one (.attrRead q3 65535 0) = true ∧ asks3 one (.attrRead q3 65535 17) = true ∧ asks3 one (.attrRead q3 0 16) = true ∧
      asks3 one (.attrWrite q3 0 []) = true ∧ asks3 one (.attrWrite q3 0 (List.replicate 16 65535)) = true ∧
      (asks3 busy (.attrRead q3 0 1) = true ∧ ∀ j, vget busy.mgmt.slots j ≠ .free) ∧
      (vget one.mgmt.slots 1 = .free ∧ (∀ j, j < 1 → vget one.mgmt.slots j ≠ .free) ∧ (one.lk 3).established = true ∧
        (one.lk 3).queue.length < 8) ∧
      (asks3 many (.attrRead q3 0 1) = true ∧ 8 ≤ (many.lk 3).queue.length) ∧ (up.lk 3).established = false := by decide +kernel

theorem witness_PassThroughAnswered :
    let waiting := (link up .up).setSlot 1 (.waiting 7 3 .read 5 100000)
    let stuck := (kept up).modTrunk fun t => { t with replies := List.replicate 32 (req (.timeRead qHub)) }
    vget waiting.mgmt.slots 1 = .waiting 7 3 .read 5 100000 ∧ 100000 ≤ elapsed 100000 (100000 - 100000) ∧
      elapsed 99999 (100000 - 100000) < 100000 ∧ (waiting.lk 3).established = true ∧
      (∀ j : SlotNo, j < 1 → (vget waiting.mgmt.slots j).waitsFor 3 5 = false) ∧
      (∀ j, (vget waiting.mgmt.slots j).waitsFor 3 6 = false) ∧ (up.lk 3).established = false ∧
      ((kept up).mgmt.answered = 1 :: [] ∧ vget (kept up).mgmt.slots 1 = .answered (req (.timeRead qHub)) ∧
        (kept up).replyRoom = true) ∧ up.mgmt.answered = [] ∧
      (stuck.trunk.up = true ∧ stuck.replyRoom = false ∧ stuck.mgmt.answered = [1] ∧
        vget stuck.mgmt.slots 1 = .answered (req (.timeRead qHub))) := by
  decide +kernel

theorem witness_BudgetSetSheds :
    asksHub (budget (power up .on) 5000) (.budgetSet qHub 4999) = true ∧
      (∀ p, ((budget (power up .on) 5000).pw p).allowanceHeld = true → ((budget (power up .on) 5000).pw p).state = .on) ∧
      asksHub up (.budgetSet qHub 200001) = true ∧ (budget (power up .on) 5000).grantedTotal ≤ Nat.min 5000 200000 ∧
      (asksHub (budget (link up .up) 5000) (.budgetSet qHub 4999) = true ∧ 4999 < (budget (link up .up) 5000).grantedTotal ∧
        ((link up .up).pw 3).state = .on ∧ ((link up .up).lk 3).established = true ∧ ((link up .up).lk 3).history.length ≤ 16) := by
  decide +kernel

theorem witness_PortPowerSetReplacesFour :
    asks3 up (.portPowerSet q3 1000 100 0 0) = true ∧ asks3 (power up .cooldown) (.portPowerSet q3 25000 1200 7 10000) = true ∧
      asks3 up (.portPowerSet q3 999 100 0 0) = true ∧ asks3 up (.portPowerSet q3 1000 1201 0 0) = true ∧
      asks3 (power up .ramping) (.portPowerSet q3 1000 100 0 0) = true := by decide +kernel

theorem witness_PowerOnChecksInOrder :
    asks3 broken (.powerOn q3) = true ∧ asks3 (sweeping up (context .settling)) (.powerOn q3) = true ∧
      asks3 (power up .locked) (.powerOn q3) = true ∧ asks3 (power up .on) (.powerOn q3) = true ∧
      (asks3 (budget up 5000) (.powerOn q3) = true ∧ (budget up 5000).grantedTotal + ((budget up 5000).pw 3).grant ≤ 5000) ∧
      (asks3 (budget up 4999) (.powerOn q3) = true ∧ 4999 < (budget up 4999).grantedTotal + ((budget up 4999).pw 3).grant) ∧
      broken.effectiveIso 3 = true ∧ ((sweeping up (context .settling)).cb 3).sweepStatus ≠ .idle := by decide +kernel

theorem witness_PowerOffActs :
    asks3 up (.powerOff q3) = true ∧ (up.pw 3).state = .off ∧ asks3 (power up .locked) (.powerOff q3) = true ∧
      ((power up .locked).pw 3).state ≠ .off ∧
      (asks3 (link up .up) (.powerOff q3) = true ∧ ((link up .up).pw 3).state = .on ∧
        ((link up .up).lk 3).established = true ∧ ((link up .up).lk 3).history.length ≤ 16) := by decide +kernel

theorem witness_PowerPhasesEnd :
    let detecting := (power { up with time := 20000 } .detecting).modPower 3 fun q => { q with phaseEnd := 20000 }
    let cooling := (power { up with time := 500000 } .cooldown).modPower 3 fun q => { q with cooldownEnd := 500000 }
    let tested := detecting.modCable 3 fun c => { c with onDetectFail := true }
    ((detecting.pw 3).state = .detecting ∧ 20000 ≤ elapsed detecting.time ((detecting.pw 3).phaseEnd - 20000) ∧
        (detecting.cb 3).onDetectFail = false) ∧
      ((tested.cb 3).onDetectFail = true ∧ (tested.cb 3).sweepStatus = .idle ∧ (tested.pw 3).state = .detecting) ∧
      (((power up .ramping).pw 3).state = .ramping ∧ (power up .ramping).cell.supplySample * 9 ≤ 21600 * 10 ∧
        ((power up .ramping).lk 3).state = .down) ∧
      ((cooling.pw 3).state = .cooldown ∧ (cooling.pw 3).postponed = false ∧
        500000 ≤ elapsed cooling.time ((cooling.pw 3).cooldownEnd - 500000) ∧ (cooling.cb 3).sweepStatus = .idle ∧
        cooling.effectiveIso 3 = false ∧ cooling.cell.budget < cooling.grantedTotal + (cooling.pw 3).grant) ∧
      (budget cooling 5000).grantedTotal + ((budget cooling 5000).pw 3).grant ≤ (budget cooling 5000).cell.budget ∧
      ((sweeping cooling (context .settling)).cb 3).sweepStatus ≠ .idle := by decide +kernel

theorem witness_OvercurrentExcursions :
    let rising := (power up .on).modPower 3 fun q => { q with overSince := some 0 }
    ((power up .on).pw 3).state = .on ∧ ((power up .on).pw 3).limit < 301 ∧ ((power up .on).pw 3).overSince = none ∧
      600 ≤ 2 * ((power up .on).pw 3).limit ∧ (rising.pw 3).overSince ≠ none ∧ 300 ≤ (rising.pw 3).limit ∧
      ((rising.pw 3).overSince = some 0 ∧ elapsed 1999 0 < 2000) := by decide +kernel

theorem witness_TripsCoolOrLock :
    let ramping := (power { up with time := 10000 } .ramping).modPower 3 fun q => { q with phaseEnd := 10000 }
    let excess := (link { up with time := 2000 } .up).modPower 3 fun q => { q with overSince := some 0, trips := [1, 2, 3] }
    ((ramping.pw 3).state = .ramping ∧ 10000 ≤ elapsed ramping.time ((ramping.pw 3).phaseEnd - 10000) ∧
        21599 * 10 < ramping.cell.supplySample * 9 ∧ (ramping.pw 3).trips.length ≤ 3) ∧
      ((excess.pw 3).state = .on ∧ (excess.pw 3).limit < 301 ∧ 600 ≤ 2 * (excess.pw 3).limit ∧ (excess.pw 3).overSince = some 0 ∧
        2000 ≤ elapsed excess.time 0 ∧ (excess.pw 3).trips.length ≤ 3 ∧ (excess.lk 3).established = true ∧
        (excess.lk 3).history.length ≤ 16) ∧
      ((excess.pw 3).state = .on ∧ 2 * (excess.pw 3).limit < 601) := by decide +kernel

theorem witness_SupplyMonitorSheds :
    let low := (link { up with time := 2000 } .up).modCell fun c => { c with monitor := .low, lowSince := 0 }
    let sag := (link { up with time := 5000 } .up).modCell fun c => { c with monitor := .sag, nextShed := 5000 }
    up.cell.monitor = .normal ∧ (low.cell.monitor = .low ∧ 2000 ≤ elapsed low.time low.cell.lowSince) ∧
      elapsed 1999 low.cell.lowSince < 2000 ∧
      (sag.cell.monitor = .sag ∧ 5000 ≤ elapsed sag.time (sag.cell.nextShed - 5000)) ∧
      elapsed 4999 (sag.cell.nextShed - 5000) < 5000 ∧ ((sag.pw 3).powered = true ∧ (∀ q, (sag.pw q).powered = true → q = 3) ∧
        (sag.pw 3).state = .on ∧ (sag.lk 3).established = true ∧ (sag.lk 3).history.length ≤ 16) ∧
      ∀ p, (up.pw p).powered = false := by decide +kernel

theorem witness_LinkSettingsReplaced :
    asks3 up (.linkSet q3 1 1) = true ∧ asks3 up (.linkSet q3 255 15) = true ∧ asks3 up (.linkSet q3 0 15) = true ∧
      asks3 up (.linkSet q3 1 16) = true ∧ asks3 up (.linkTest q3 0) = true ∧ asks3 up (.linkTest q3 16) = true ∧
      (asks3 up (.linkTest q3 15) = true ∧ (up.lk 3).established = false) ∧
      (asks3 (link up .degraded) (.linkTest q3 1) = true ∧ ((link up .degraded).lk 3).established = true) := by decide +kernel

theorem witness_TrainingEndsInLockOrFailure :
    let third := (link { up with time := 200000 } .training).modLink 3 fun l => { l with attempt := 3 }
    let tested := third.modCable 3 fun c => { c with onLinkFail := true }
    ((link up .training).lk 3).state = .training ∧ ((link up .training).lk 3).attempt < 3 ∧
      200000 ≤ elapsed third.time (third.lk 3).attemptStart ∧ elapsed 199999 (third.lk 3).attemptStart < 200000 ∧
      (3 ≤ (third.lk 3).attempt ∧ (third.cb 3).onLinkFail = false) ∧
      ((tested.cb 3).onLinkFail = true ∧ (tested.cb 3).sweepStatus = .idle ∧ (tested.pw 3).state = .on) ∧
      (up.lk 3).state ≠ .training := by decide +kernel

theorem witness_LinkErrorsDegrade :
    let seven := (link { up with time := 100000 } .up).modLink 3 fun l => { l with windowErrors := 7 }
    ((seven.lk 3).established = true ∧ readUp [0xFF] = none) ∧
      ((seven.lk 3).state = .up ∧ (seven.lk 3).degradeAt ≤ Nat.min 65535 ((seven.lk 3).windowErrors + 1)) ∧
      Nat.min 65535 (((link up .up).lk 3).windowErrors + 1) < ((link up .up).lk 3).degradeAt ∧
      100000 ≤ elapsed seven.time (seven.lk 3).windowStart ∧ elapsed 99999 (seven.lk 3).windowStart < 100000 ∧
      (((link up .degraded).lk 3).state = .degraded ∧ ((link up .degraded).lk 3).windowErrors = 0) ∧
      readUp (UpPacket.ack 1).bytes ≠ none := by decide +kernel

theorem witness_LossOfLockDropsTheLink :
    let dropped : DropRecord := ⟨0, false, .lossOfLock, 0, none, 0⟩
    let laden := ((framed (moving .homing) (record .filling)).setSlot 2 (.waiting 7 3 .read 5 0)).modTrig 3 fun x =>
      { x with hand := .deferred ⟨1, 2⟩ }
    let tested := ((link up .up).modCable 3 fun c => { c with onDrops := true }).modLink 3 fun l =>
      { l with history := List.replicate 16 dropped }
    (up.lk 3).established = false ∧ (((link up .up).lk 3).established = true ∧ ((link up .up).lk 3).history.length ≤ 16) ∧
      ((link up .up).cb 3).onDrops = false ∧
      ((tested.cb 3).onDrops = true ∧ (tested.lk 3).history.length ≤ 16 ∧ (tested.cb 3).sweepStatus = .idle ∧
        (tested.pw 3).state = .on ∧ (tested.lk 3).established = true ∧
        (tested.lk 3).dropAt ≤ ((tested.lk 3).history.tail.filter fun r =>
          r.cause = .lossOfLock && decide (elapsed tested.time r.time < 10000000)).length) ∧
      ((laden.lk 3).established = true ∧ laden.trunk.up = true ∧ (laden.ax 3 .focus).moving = true ∧
        (laden.ln 3).anyMotion = true ∧ (laden.tg 3).hand = .deferred ⟨1, 2⟩ ∧ (laden.fr 3).filling.isSome = true ∧
        vget laden.mgmt.slots 2 = .waiting 7 3 .read 5 0 ∧ (vget laden.mgmt.slots 1).waitsOn 3 = false) := by decide +kernel

theorem witness_CommandsAreAcknowledged :
    let sent := (link { up with time := 2000 } .up).modLink 3 fun l =>
      { l with queue := [.lensHome .focus], sendCount := 3, ackWait := some 0 }
    let behind := sent.modLink 3 fun l => { l with channel := .trigger [] }
    let passing := (sent.modLink 3 fun l => { l with queue := [.attrRead 1 5 0 1] }).setSlot 1 (.waiting 7 3 .read 5 0)
    ((up.lk 3).sendCount = 0 ∧ ((link up .up).lk 3).established = true) ∧
      ((sent.lk 3).established = true ∧ 0 < (sent.lk 3).sendCount ∧ (sent.lk 3).queue = .lensHome .focus :: [] ∧
        (sent.lk 3).sequence = decide (254 % 2 = 1)) ∧
      ((sent.lk 3).ackWait = some 0 ∧ 2000 ≤ elapsed sent.time 0 ∧ (sent.lk 3).channel = .idle ∧
        (sent.lk 3).pendingTrigger = none ∧ 3 ≤ (sent.lk 3).sendCount) ∧
      ((passing.lk 3).queue = .attrRead 1 5 0 1 :: [] ∧ Command.isFor (.attrRead 1 5 0 1) 1 5 = true ∧
        vget passing.mgmt.slots 1 = .waiting 7 3 .read 5 0 ∧ passing.trunk.up = true ∧ 3 ≤ (passing.lk 3).sendCount ∧
        Command.isFor (.attrRead 1 5 0 1) 2 5 = false) ∧
      (behind.lk 3).channel ≠ .idle ∧ elapsed 1999 0 < 2000 := by decide +kernel

theorem witness_MessagesLeaveInTurn :
    let sent := (link up .up).modLink 3 fun l => { l with queue := [.lensHome .focus], sendCount := 1, channel := .command [1] }
    let fired := sent.modLink 3 fun l => { l with pendingTrigger := some 7 }
    let behind := sent.modLink 3 fun l => { l with channel := .trigger [1], waitEnded := true, sendCount := 2 }
    let next := sent.modLink 3 fun l => { l with channel := .trigger [1], sendCount := 0 }
    ((sent.lk 3).channel = .command [1] ∧ 0 < (sent.lk 3).sendCount ∧ (sent.lk 3).pendingTrigger = none ∧
        (sent.lk 3).waitEnded = false) ∧
      ((fired.lk 3).established = true ∧ (fired.lk 3).pendingTrigger = some 7 ∧ (fired.lk 3).channel = .command [1]) ∧
      ((behind.lk 3).channel = .trigger [1] ∧ (behind.lk 3).pendingTrigger = none ∧
        (behind.lk 3).queue = .lensHome .focus :: [] ∧ (behind.lk 3).waitEnded = true ∧ 0 < (behind.lk 3).sendCount ∧
        (behind.lk 3).sendCount < 3) ∧
      ((next.lk 3).established = true ∧ (next.lk 3).waitEnded = false ∧ (next.lk 3).sendCount = 0) ∧
      (let failing := behind.modLink 3 fun l => { l with sendCount := 3, queue := l.queue ++ [.lensStop .iris] }
       (failing.lk 3).established = true ∧ (failing.lk 3).channel = .trigger [1] ∧ (failing.lk 3).waitEnded = true ∧
        (failing.lk 3).queue = .lensHome .focus :: [.lensStop .iris] ∧ 3 ≤ (failing.lk 3).sendCount ∧
        (failing.lk 3).pendingTrigger = none ∧ (failing.lk 3).windowErrors + 1 < (failing.lk 3).degradeAt ∧
        (failing.tg 3).hand = .none ∧
        ((failing.modLink 3 fun l => { l with pendingTrigger := some 7 }).lk 3).pendingTrigger = some 7) ∧
      (up.lk 3).channel = .idle ∧ ((up.modLink 3 (LinkCtl.train 0)).lk 3).channel = .training trainingBytes := by decide +kernel

theorem witness_CableSettingsReplaced :
    asksHub up (.cableTypeSet qHub 3 300 2 255) = true ∧ asksHub up (.cableTypeSet qHub 4 300 2 255) = true ∧
      asks3 up (.portCableSet q3 0 100000 5000 4095) = true ∧ asks3 up (.portCableSet q3 3 0 0 0) = true ∧
      asks3 up (.autoSweepSet q3 31 ⟨2, 6, 16, 1000, 15, 3⟩) = true ∧ asks3 up (.autoSweepSet q3 32 ⟨2, 6, 16, 1000, 15, 3⟩) = true ∧
      (asks3 broken (.faultClear q3) = true ∧ (broken.cb 3).sweepStatus ≠ .running) ∧
      (asks3 (sweeping up (context .settling)) (.faultClear q3) = true ∧
        ((sweeping up (context .settling)).cb 3).sweepStatus = .running) := by decide +kernel

theorem witness_SweepRequestsQueueOrRun :
    let q : SweepParamsRaw := ⟨2, 6, 16, 1000, 15, 3⟩
    let other (h : Hub) (e : EngineNo) (p : Port) : Hub := h.setEngine e (some { context .settling with port := p })
    let busy := other (other up 0 4) 1 5
    (asks3 up (.sweepRequest q3 q 0) = true ∧ readSweepParams q = some ⟨.both, 6, 16, 1000, 15, 3⟩ ∧ (up.cb 3).sweepStatus = .idle ∧
        (up.pw 3).powered = false ∧ up.cables.queue = [] ∧ up.engine 0 = none) ∧
      (readSweepParams ⟨2, 7, 16, 1000, 15, 3⟩ = none ∧ asks3 up (.sweepRequest q3 ⟨2, 7, 16, 1000, 15, 3⟩ 0) = true) ∧
      asks3 up (.sweepRequest q3 q 2) = true ∧
      (((link up .up).pw 3).powered = true ∧ ((link up .up).pw 3).state = .on ∧ ((link up .up).lk 3).history.length ≤ 16 ∧
        asks3 (link up .up) (.sweepRequest q3 q 1) = true) ∧
      ((other up 0 4).engine 0 ≠ none ∧ (other up 0 4).engine 1 = none) ∧
      (busy.engine 0 ≠ none ∧ busy.engine 1 ≠ none ∧ busy.cables.queue = [] ∧ asks3 busy (.sweepRequest q3 q 0) = true) ∧
      (∀ e : EngineNo, (busy.engine e).map (·.port) ≠ some 3) ∧
      ((sweeping up (context .settling)).cb 3).sweepStatus ≠ .idle := by decide +kernel

theorem witness_SweepCancelRecordsNothing :
    let queued := (up.modCables fun u => { u with queue := [⟨3, short, .requested⟩] }).modCable 3 fun c =>
      { c with sweepStatus := .queued }
    let running := sweeping up (context .shooting)
    (asks3 up (.sweepCancel q3) = true ∧ (up.cb 3).sweepStatus = .idle) ∧
      (asks3 queued (.sweepCancel q3) = true ∧ (queued.cb 3).sweepStatus = .queued) ∧
      (asks3 running (.sweepCancel q3) = true ∧ (running.cb 3).sweepStatus = .running ∧
        running.engine 0 = some (context .shooting) ∧ (context .shooting).port = 3 ∧ running.engine 1 = none ∧
        running.cables.queue = []) ∧
      ((sweeping up (context .settling)).engine 0 = some (context .settling) ∧ (context .settling).phase ≠ .shooting) ∧
      (asks3 (postponed queued) (.sweepCancel q3) = true ∧ ((postponed queued).pw 3).state = .cooldown ∧
        ((postponed queued).pw 3).postponed = true ∧ (postponed queued).effectiveIso 3 = false ∧
        (postponed queued).cell.budget < (postponed queued).grantedTotal + ((postponed queued).pw 3).grant) ∧
      (asks3 (postponed (budget running 5000)) (.sweepCancel q3) = true ∧
        (postponed (budget running 5000)).grantedTotal + ((postponed (budget running 5000)).pw 3).grant ≤ 5000) ∧
      (postponed { running with requestedIso := vset up.requestedIso 3 true }).effectiveIso 3 = true := by
  decide +kernel

theorem witness_EnginePhasesFollow :
    let two := { context .shooting with params := { short with k := 1 } }
    (sweeping up (context .settling)).engine 0 = some (context .settling) ∧ 10000 ≤ elapsed 10000 (context .settling).phaseStart ∧
      elapsed 9999 (context .settling).phaseStart < 10000 ∧
      ((context .waiting).phase = .waiting ∧ (context .waiting).params.interval * 1000 ≤ elapsed 100000 (context .waiting).phaseStart) ∧
      (two.phase = .shooting ∧ 4 ≤ elapsed 4 two.phaseStart ∧ two.cancelling = false ∧ two.shotNo < 2 ^ two.params.k) ∧
      two.echo [] = none ∧ two.echo [(12, 33)] = some (.pos, 12) ∧ two.echo [(1023, -33)] = some (.neg, 1023) ∧
      two.echo [(11, 33), (12, 0), (13, -33)] = some (.neg, 13) ∧ two.echo [(11, 33), (12, 40), (1024, -33)] = none ∧
      ({ two with cancelling := true } : SweepContext).cancelling = true ∧ up.cables.queue = [] ∧
      (((postponed (sweeping up two)).pw 3).state = .cooldown ∧ ((postponed (sweeping up two)).pw 3).postponed = true ∧
        (postponed (sweeping up two)).effectiveIso 3 = false) := by decide +kernel

theorem witness_RepeatsAreClassified :
    let c := { context .shooting with params := { short with k := 1 } }
    (c.negHits * 2 < 2 ^ c.params.k) ∧ 2 ^ c.params.k ≤ ({ c with posHits := 1, posSum := 1023 } : SweepContext).posHits * 2 ∧
      1023 ≤ 1023 * 1 ∧ c.speed ≤ 300 ∧
      ({ c with posHits := 1, posSum := 1023 } : SweepContext).evaluate.2.echo = some (16368, 255750) := by decide +kernel

theorem witness_RepeatsAndSweepsEnd :
    let c := { context .shooting with length := 25000 }
    let more := { context .shooting with params := { short with repeats := 2 } }
    let both := { context .shooting with params := { short with pair := .both } }
    let h := sweeping up c
    (h.engine 0 = some c ∧ c.phase = .shooting ∧ 4 ≤ elapsed 4 c.phaseStart ∧ c.cancelling = false ∧
        2 ^ c.params.k ≤ c.shotNo) ∧
      more.repeatNo < more.params.repeats ∧ (both.params.repeats ≤ both.repeatNo ∧ both.params.pair = .both ∧ both.pair = .data) ∧
      (c.params.repeats ≤ c.repeatNo ∧ c.params.pair ≠ .both ∧ h.cables.queue = []) ∧
      ((c.addEcho (c.echo [(68, 40)])).closeRepeat.dataResult.span = some ⟨17000, 17000, 17000⟩ ∧ tests .data .data = true) ∧
      (c.addEcho (c.echo [])).closeRepeat.dataResult.span = none ∧ (h.pw 3).state = .off ∧ h.effectiveIso 3 = false ∧
      (((postponed h).pw 3).state = .cooldown ∧ ((postponed h).pw 3).postponed = true ∧
        (postponed h).cell.budget < (postponed h).grantedTotal + ((postponed h).pw 3).grant) ∧
      (postponed (budget h 5000)).grantedTotal + ((postponed (budget h 5000)).pw 3).grant ≤ 5000 := by
  decide +kernel

/-- The fault lists of FaultWritten: one whose OPEN record takes the result, one with room, and one of 16 with a CLEARED
record, the third its oldest. -/
theorem witness_RepeatsAndSweepsEnd_faults :
    let fault (p : Port) (isOpen : Bool) : FaultRecord := ⟨0, p, .data, .openBreak, false, isOpen, 1, 1, 1, 1, 1, .requested, 0, 0⟩
    let sixteen := [fault 1 true, fault 2 true] ++ fault 4 false :: List.replicate 13 (fault 4 false)
    (broken.cables.faults = [] ++ fault 3 true :: [] ∧ (fault 3 true).opens 3 .data = true) ∧
      (∀ f ∈ sixteen, f.opens 3 .data = false) ∧ 16 ≤ sixteen.length ∧ (fault 4 false).isOpen = false ∧
      (∀ g ∈ [fault 1 true, fault 2 true], g.isOpen = true) ∧ ([] : List FaultRecord).length < 16 := by decide +kernel

theorem witness_LensSettingsReplaced :
    let wide : ProfileParams := ⟨1, 65535, 20000, 255⟩
    asks3 up (.lensProfileLoad q3 wide ⟨0, 1, 10, 0⟩ wide) = true ∧ asks3 up (.lensProfileLoad q3 wide wide ⟨2, 1, 10, 0⟩) = true ∧
      (asks3 (moving .homing) (.lensProfileLoad q3 wide wide wide) = true ∧ ((moving .homing).ln 3).anyMotion = true) ∧
      (lens.ln 3).anyMotion = false ∧
      asks3 lens (.focusTableLoad q3 4 0 []) = true ∧ asks3 lens (.focusTableLoad q3 3 0 [(1, 0)]) = true ∧
      (asks3 lens (.focusTableLoad q3 3 0 [(1, 0), (65535, 1000)]) = true ∧ (lens.ln 3).focus.present = true) ∧
      (asks3 up (.focusTableLoad q3 3 0 [(1, 0), (2, 0)]) = true ∧ (up.ln 3).focus.present = false) ∧
      asks3 up (.focusTableLoad q3 0 0 []) = true ∧ asks3 lens (.focusTableLoad q3 0 0 [(2, 0), (1, 0)]) = true := by
  decide +kernel

theorem witness_LensCommandsMove :
    let tight := budget lens 4999
    let crowd := (moving .moving).modLink 3 fun l => { l with queue := List.replicate 8 (.lensHome .focus) }
    let brim := lens.modLink 3 fun l => { l with queue := List.replicate 8 (.lensHome .focus) }
    asks3 lens (.lensHome q3 3) = true ∧ asks3 lens (.lensMove q3 3 0) = true ∧ asks3 lens (.lensStop q3 3) = true ∧
      readAxis 0 = some .focus ∧
      (asks3 lens (.lensHome q3 0) = true ∧ (lens.ax 3 .focus).present = true ∧ (lens.ax 3 .focus).motion = .idle) ∧
      ((lens.lk 3).established = true ∧ (lens.lk 3).queue.length < 8 ∧ (lens.pw 3).state = .on ∧
        lens.grantedTotal + (lens.pw 3).allowance ≤ lens.cell.budget) ∧
      ((tight.ln 3).anyMotion = false ∧ ¬ tight.grantedTotal + (tight.pw 3).allowance ≤ tight.cell.budget) ∧
      ((crowd.ln 3).anyMotion = true ∧ 8 ≤ (crowd.lk 3).queue.length) ∧
      (asks3 lens (.lensMove q3 0 1001) = true ∧ (lens.ax 3 .focus).position = some 500) ∧ asks3 lens (.lensMove q3 0 500) = true ∧
      (asks3 (moving .moving) (.lensMove q3 0 601) = true ∧ ((moving .moving).ax 3 .focus).target ≠ 601) ∧
      (asks3 (moving .homing) (.lensStop q3 0) = true ∧ ((moving .homing).ax 3 .focus).motion = .homing) ∧
      (asks3 (moving .stopping) (.lensMove q3 0 0) = true ∧ ((moving .stopping).ax 3 .focus).motion = .stopping) ∧
      (asks3 up (.lensMove q3 0 0) = true ∧ (up.lk 3).established = false) ∧
      ((link up .up).ax 3 .focus).present = false ∧
      (asks3 brim (.lensHome q3 0) = true ∧ asks3 brim (.lensMove q3 0 0) = true ∧ (brim.lk 3).established = true ∧
        (brim.ln 3).anyMotion = false ∧ (brim.pw 3).state = .on ∧ 8 ≤ (brim.lk 3).queue.length ∧
        brim.grantedTotal + (brim.pw 3).allowance ≤ brim.cell.budget ∧ (brim.pw 3).allowanceHeld = false ∧
        (brim.tg 3).hand = .none) := by decide +kernel

theorem witness_LensMotionsEnd :
    let halted := (moving .stopping).modAxis 3 .focus fun a => { a with fromHoming := true }
    let waiting := (moving .moving).modAxis 3 .focus fun a => { a with pending := 1 }
    let due := { moving .moving with time := 300000 }.modAxis 3 .focus fun a => { a with deadline := 300000 }
    let deferred := (link up .up).modTrig 3 fun t => { t with hand := .deferred ⟨1, 2⟩ }
    readAxis 0 = some .focus ∧ (lens.lk 3).established = true ∧ (lens.ax 3 .focus).present = true ∧
      (((moving .homing).ax 3 .focus).motion = .homing ∧ ((moving .homing).ax 3 .focus).pending = 0) ∧
      ((halted.ax 3 .focus).motion = .stopping ∧ (halted.ax 3 .focus).fromHoming = true) ∧
      (((moving .moving).ax 3 .focus).motion = .moving ∧ ((moving .moving).ax 3 .focus).tolerance < (601 - 600) + (600 - 601) ∧
        600 ≤ ((moving .moving).ax 3 .focus).max) ∧
      0 < (waiting.ax 3 .focus).pending ∧ (lens.ax 3 .focus).motion = .idle ∧ readAxis 3 = none ∧
      (up.lk 3).established = false ∧
      elapsed (due.ax 3 .focus).deadline (due.ax 3 .focus).startTime ≤ elapsed due.time (due.ax 3 .focus).startTime ∧
      elapsed 299999 (due.ax 3 .focus).startTime < elapsed (due.ax 3 .focus).deadline (due.ax 3 .focus).startTime ∧
      ((moving .moving).ln 3).anyMotion = true ∧ ((deferred.ln 3).anyMotion = false ∧ (deferred.tg 3).hand = .deferred ⟨1, 2⟩ ∧
        (deferred.lk 3).established = true) := by decide +kernel

theorem witness_FocusFollowsDistance :
    let st : FocusStop := ⟨100, [(1, 0), (65535, 1000)]⟩
    let loaded := lens.modLens 3 fun l => { l with stops := vset l.stops 2 (some st) }
    [((1000 : Nat), (100 : Nat)), (2000, 50)].Pairwise (fun a b => a.1 < b.1) ∧
      asks3 loaded (.lensFocusDistance q3 0) = true ∧ asks3 loaded (.lensFocusDistance q3 65535) = true ∧
      (asks3 up (.lensFocusDistance q3 1) = true ∧ (up.ln 3).focus.present = false) ∧
      ((moving .homing).ln 3).focus.motion = .homing ∧
      ((loaded.ln 3).focus.present = true ∧ (loaded.ln 3).focus.motion = .idle ∧ (loaded.ln 3).focus.position ≠ none ∧
        (loaded.ln 3).zoom.present = false ∧ vget (loaded.ln 3).stops 2 = some st ∧ ∀ j, j ≠ 2 → vget (loaded.ln 3).stops j = none) ∧
      ∀ i, vget (lens.ln 3).stops i = none := by decide +kernel

theorem witness_TriggerSettingsAndLines :
    let line (input level : Bool) (filtering : Option (HubTime × Nat)) : Hub :=
      up.modLine 3 fun t => { t with input := input, level := level, filtering := filtering }
    asksHub up (.encoderSet qHub 4294967295) = true ∧ asksHub up (.triggerLineSet qHub 3 255) = true ∧
      asksHub up (.triggerLineSet qHub 4 1) = true ∧ asks3 up (.triggerSet q3 5 16777216 16777215 2 1 2000) = true ∧
      asks3 up (.triggerSet q3 5 16777216 16777216 2 1 2000) = true ∧
      ([.none, .encoder, .line 0, .line 1, .line 2, .line 3] : List TriggerSource)[5]? = some (.line 3) ∧
      ((line false false none).line 3).input = false ∧ ((line false true none).line 3).level = true ∧
      (((line true false (some (0, 10))).line 3).input = true ∧ ((line true false (some (0, 10))).line 3).filtering ≠ none) ∧
      ((line true true none).line 3).filtering = none ∧
      ((outstanding.tg 3).hand = .outstanding ⟨5, 0⟩ 255 true 0 100000 ∧ elapsed 100000 0 ≤ elapsed 100000 0 ∧
        elapsed 99999 0 < elapsed 100000 0) := by decide +kernel

theorem witness_TriggersFire :
    let risen := up.modLine 3 fun t => { t with input := true, filtering := some (0, 10) }
    (asksHub up (.triggerSoft qHub 0) = true ∧ ∀ p : Port, (0 : Nat).testBit p.val = false) ∧
      (asksHub up (.triggerSoft qHub 128) = true ∧ ∃ p : Port, (128 : Nat).testBit p.val = true) ∧
      ((risen.line 3).filtering = some (0, 10) ∧ (risen.line 3).input = true ∧ 10 ≤ elapsed 10 0) ∧
      (up.line 3).filtering = none ∧ (up.encoder.a = false ∧ up.encoder.b = false) ∧ true ≠ up.encoder.a := by decide +kernel

theorem witness_FramesAdmitted :
    let ringed := (link up .up).modFrames 3 fun f => { f with ringLength := 1 }
    let many := ringed.modFrames 3 fun f => { f with table := (List.range 8).map fun n => { record .sent with serial := n } }
    let late := framed (link up .up) (record .filling)
    ((link up .up).lk 3).established = true ∧ (up.lk 3).established = false ∧
      ((ringed.fr 3).ringLength ≠ 0 ∧ ¬ 65536 < (1 * 4096 * 2 + 4095) / 4096 * 4096 ∧ (ringed.fr 3).table = []) ∧
      ((up.fr 3).ringLength = 0) ∧ (4096 < 4097 ∧ 65536 < (16 * 2049 * 2 + 4095) / 4096 * 4096) ∧ 8 ≤ (many.fr 3).table.length ∧
      (∃ r ∈ (late.fr 3).table, 0 < r.offset + r.size ∧ r.offset < 0 + 4096) ∧
      ((outstanding.tg 3).hand = .outstanding ⟨5, 0⟩ (BitVec.ofNat 8 255) true 0 100000) ∧
      Nat.min 65535 (((link up .up).lk 3).windowErrors + 1) < ((link up .up).lk 3).degradeAt ∧
      (let seven := (link up .up).modLink 3 fun l => { l with windowErrors := 7 }
       (seven.lk 3).state = .up ∧ (seven.lk 3).degradeAt ≤ Nat.min 65535 ((seven.lk 3).windowErrors + 1)) ∧
      (let cut := late.modLink 3 fun l => { l with context := some ⟨9, 2, 1, []⟩ }
       (cut.lk 3).established = true ∧ (cut.lk 3).context ≠ none ∧ (cut.fr 3).filling = some (record .filling) ∧
        (cut.pl 3).phase = .idle) ∧
      (let aside := (framed (link up .up) { record .filling with flags := flagNoView }).modLink 3 fun l =>
        { l with context := some ⟨9, 2, 1, []⟩ }
       (aside.lk 3).context ≠ none ∧ (aside.fr 3).filling = some { record .filling with flags := flagNoView }) ∧
      ((ringed.modLink 3 fun l => { l with context := some ⟨9, 2, 1, []⟩ }).fr 3).filling = none := by decide +kernel

theorem witness_LinesStored :
    let c : FrameContext := ⟨9, 2, 1, []⟩
    let filling := (framed (link up .up) (record .filling)).modLink 3 fun l => { l with context := some c }
    (up.lk 3).established = false ∧ ((link up .up).lk 3).context = none ∧
      ((filling.lk 3).established = true ∧ (filling.lk 3).context = some c ∧ 0 < c.height ∧ ([0, 65535] : List Nat).length = c.width ∧
        0 ∉ c.received ∧ (filling.fr 3).intake = .filling ∧ (filling.fr 3).filling = some (record .filling)) ∧
      (c.height ≤ 1 ∧ ([0] : List Nat).length ≠ c.width) ∧ Memory.wf [] = true ∧
      ((filling.modFrames 3 fun f => { f with intake := .late }).fr 3).intake = .late := by decide +kernel

theorem witness_FramesComplete :
    let filling := (framed (link { up with time := 500000 } .up) (record .filling)).modLink 3 fun l =>
      { l with context := some ⟨9, 2, 1, []⟩ }
    (up.lk 3).established = false ∧ ((link up .up).lk 3).context = none ∧ ((link up .up).fr 3).filling = none ∧
      ((filling.lk 3).established = true ∧ (filling.lk 3).context ≠ none ∧ (filling.fr 3).filling = some (record .filling) ∧
        elapsed (record .filling).fillDeadline (record .filling).arrival ≤ elapsed filling.time (record .filling).arrival) ∧
      elapsed 499999 (record .filling).arrival < elapsed (record .filling).fillDeadline (record .filling).arrival ∧
      ((filling.pl 3).phase = .idle ∧ (filling.fr 3).ringStart * 65536 + (record .filling).offset + 1 * (2 * 2) ≤ 268435456) ∧
      0 ∉ (record .filling).written := by decide +kernel

theorem witness_FrameRequestsAct :
    let h (x : FrameState) (held : Bool) : Hub := framed up { record x with held := held }
    (asks3 up (.ringSet q3 0 4096 2000) = true ∧ (up.fr 3).table = []) ∧ asks3 up (.ringSet q3 1 4096 2000) = true ∧
      (asks3 (h .sent false) (.ringSet q3 4095 1 1) = true ∧ ((h .sent false).fr 3).table ≠ []) ∧
      (asks3 (h .filling false) (.frameHold q3 9) = true ∧ ((h .filling false).fr 3).table = [] ++ record .filling :: []) ∧
      (asks3 (h .sent true) (.frameHold q3 9) = true ∧ asks3 (h .sent true) (.frameRelease q3 9) = true ∧
        ((h .sent true).fr 3).table = [] ++ { record .sent with held := true } :: []) ∧
      (asks3 full (.frameHold q3 9) = true ∧ 4 ≤ ((full.fr 3).table.filter (·.held)).length ∧
        ((full.fr 3).table.map (·.serial)).Nodup) ∧
      (asks3 (h .complete true) (.frameRelease q3 9) = true ∧ asks3 up (.frameHold q3 65535) = true) := by decide +kernel

theorem witness_ViewAndEgressRequestsAct :
    let q : ViewParams := ⟨1, 4095, 0, 1, 4096, 8192, 1024, 4, 0, 2, 999, 1⟩
    let bound := up.modView fun x =>
      { x with views := vset x.views 15 { valid := true, filterH := .table 0 }, bindings := vset x.bindings 3 ⟨some 15, 34000⟩ }
    let laden := bound.modView fun x => { x with bindings := vset x.bindings 0 ⟨some 15, 1100000000⟩ }
    asksHub up (.viewLoad qHub 15 q) = true ∧ asksHub up (.viewLoad qHub 16 q) = true ∧
      asksHub up (.viewLoad qHub 15 { q with filterH := 5 }) = true ∧ asksHub up (.viewLoad qHub 0 { q with valid := 0 }) = true ∧
      (q.x0 + q.w ≤ 4096 ∧ q.y0 + q.h ≤ 4096 ∧ 256 ≤ q.stepV ∧ q.stepH ≤ 8192 ∧ (q.h - 1) * 1024 / q.stepV + 1 ≤ 4096) ∧
      (readFilter q.filterH = some .nearest ∧ readFilter q.filterV = some (.table 0) ∧ readDepth q.depth = some .pix8Dither ∧
        readGroup q.group = some .low) ∧
      (asksHub bound (.viewLoad qHub 15 q) = true ∧ (vget bound.view.bindings 3).view = some 15) ∧
      (asks3 bound (.viewBind q3 15) = true ∧ (vget bound.view.views 15).valid = true) ∧ asks3 up (.viewBind q3 16) = true ∧
      (asks3 up (.viewBind q3 0) = true ∧ (vget up.view.views 0).valid = false) ∧
      (asks3 laden (.viewBind q3 15) = true ∧ 1100000000 < laden.admissionTotal - 34000 + 34000) ∧
      asks3 bound (.viewUnbind q3) = true ∧ asksHub up (.coefSelect qHub 3) = true ∧ asksHub up (.coefSelect qHub 4) = true ∧
      (asksHub bound (.coefSelect qHub 0) = true ∧ (vget bound.view.views 15).filterH = .table 0) ∧
      asksHub up (.coefWrite qHub []) = true ∧ (asksHub up (.coefWrite qHub (List.replicate 32 255)) = true ∧ up.view.cursor ≤ 32) ∧
      asksHub bound (.coefWrite qHub [1]) = true ∧
      asksHub up (.egressSet qHub (.hub 16 1 16)) = true ∧ asksHub up (.egressSet qHub (.hub 17 1 16)) = true ∧
      asks3 up (.egressSet q3 (.port 16)) = true ∧ asks3 up (.egressSet q3 (.port 0)) = true := by decide +kernel

theorem witness_PipelinesSendItems :
    let h := piped up .sending .running (some (planAt false 0))
    let packed := h.modTrunk fun t => { t with images := vset t.images 3 [⟨0, 0, 0, 0, List.replicate 65490 0⟩] }
    let viewed := (framed up (record .sent)).modView fun x => { x with views := vset x.views 2 { valid := true } }
    let twice := viewed.modFrames 3 fun f => { f with table := [{ record .sent with resends := [2, 2] }] }
    (h.pl 3).phase ≠ .idle ∧ (h.pl 3).work = ⟨0, none⟩ :: [] ∧ (h.fr 3).record 0 = some (record .sending) ∧
      (h.pl 3).plan = some (planAt false 0) ∧ (planAt true 0).nextLine < (planAt true 0).outH ∧
      (planAt true 1).outH ≤ (planAt true 1).nextLine ∧ (up.pl 3).phase = .idle ∧
      (¬ ((vget packed.trunk.images 3).map fun o => 8 + o.payload.length).sum + 8 +
        (packed.emission [] 3 (planAt false 0) ⟨0, none⟩ (record .sending)).payload.length ≤ 65536) ∧
      asks3 viewed (.frameResend q3 9 16) = true ∧
      (asks3 viewed (.frameResend q3 9 2) = true ∧ (viewed.fr 3).table = [] ++ record .sent :: [] ∧
        (vget viewed.view.views 2).valid = true) ∧
      asks3 viewed (.frameResend q3 9 3) = true ∧ asks3 viewed (.frameResend q3 8 2) = true ∧
      asks3 (framed up (record .filling)) (.frameResend q3 9 2) = true ∧
      (asks3 twice (.frameResend q3 9 2) = true ∧ (twice.fr 3).table = [] ++ { record .sent with resends := [2, 2] } :: []) ∧
      asks3 h (.pipeReset q3) = true := by decide +kernel

/-- Takings with the trunk UP, inside the frame and outside it, and with the trunk DOWN; the plan of an empty crop; and an
item behind the one in process. -/
theorem witness_PipelinesSendItems_takings :
    let idle := piped up .complete .idle none
    let outside := idle.modView fun x => { x with views := vset x.views 2 { x0 := 2 } }
    let empty := piped up .sending .running (some { planAt true 0 with empty := true })
    let behind := laden.modPipe 3 fun q => { q with phase := .running, plan := some (planAt true 1) }
    ((idle.pl 3).phase = .idle ∧ (idle.pl 3).work = ⟨0, none⟩ :: [] ∧ (idle.fr 3).record 0 = some (record .complete) ∧
        idle.trunk.up = true ∧ ¬ ((record .complete).width ≤ (vget idle.view.views 2).x0 ∨
          (record .complete).height ≤ (vget idle.view.views 2).y0)) ∧
      (record .complete).width ≤ (vget outside.view.views 2).x0 ∧ (piped State.reset.hub .complete .idle none).trunk.up = false ∧
      ((empty.pl 3).phase ≠ .idle ∧ (empty.pl 3).plan = some { planAt true 0 with empty := true }) ∧
      ((behind.pl 3).phase ≠ .idle ∧ (behind.pl 3).work.length = 10 ∧ ((behind.fr 3).record 0).isSome = true) := by decide +kernel

theorem witness_PixelsAreResampled :
    let v : View := { valid := true, filterH := .table 0, filterV := .nearest, depth := .pix12 }
    v.stepH = 1024 ∧ v.stepV = 1024 ∧ v.filterH = .table 0 ∧ vget (Vector.replicate 4 CoefTable.linear) 0 = CoefTable.linear ∧
      v.filterV = .nearest ∧ 4096 ≤ 4096 ∧ 1 ≤ 4096 ∧ 0 < 1 ∧ (4095 : Nat) ≤ 4095 := by decide +kernel

theorem witness_TrunkEventsAct :
    let pkt := req (.timeRead qHub)
    let sends := up.modTrunk fun t => { t with lane := some (8, pkt), replies := [pkt], grant := some ⟨8, 4, 3⟩ }
    let last := sends.modTrunk fun t => { t with grant := some ⟨8, 4, 4⟩ }
    (up.trunk.up = true ∧ State.reset.hub.trunk.up = false ∧ ∀ p, (State.reset.hub.pl p).work = []) ∧
      (up.mgmt.taking ≠ .resetting ∧ up.trunk.lane = none) ∧
      ((laden.pl 3).work.length = 10 ∧ laden.trunk.up = true ∧ laden.mgmt.taking ≠ .resetting ∧ (laden.fr 3).heldCount = 4 ∧
        ∀ p, (laden.pl p).phase = .idle → (laden.pl p).plan = none) ∧
      (sends.trunk.lane = some (8, pkt) ∧ sends.trunk.grant = some ⟨8, 4, 3⟩ ∧ sends.queuePackets 8 = pkt :: [] ∧
        sends.mgmt.taking ≠ .resetting ∧ ∀ p : Port, p.val = 8 → (sends.pl p).phase ≠ .waiting) ∧
      last.trunk.grant = some ⟨8, 4, 4⟩ := by decide +kernel

/-- A loss with a reply kept, or with a FRAME_CLOSE being sent that was taken at the same time, and a send begun at an image queue whose pipeline waits. -/
theorem witness_TrunkEventsAct_kept :
    let pkt := req (.timeRead qHub)
    let close : Packet := ⟨kindFrameClose, 3, 0, 0, []⟩
    let closed := ((framed (kept up) { record .sent with held := true }).modPipe 3 fun q => { q with closed := [7, 0] }).modTrunk fun t =>
      { t with lane := some (3, close) }
    let next := (piped up .sending .waiting (some (planAt false 0))).modTrunk fun t =>
      { t with lane := some (3, pkt), images := vset t.images 3 [pkt], grant := some ⟨3, 4, 1⟩ }
    (kept up).KeptReplies ∧ (kept up).trunk.up = true ∧ (kept up).mgmt.taking ≠ .resetting ∧ (kept up).mgmt.answered = [1] ∧
      ((closed.pl 3).work = [] ∧ (closed.pl 3).closed.drop ((closed.pl 3).closed.length - [close].length) = [(record .sent).serial] ∧
        closed.mgmt = (kept up).mgmt ∧ closed.trunk.up = true ∧ ∀ p, (closed.pl p).phase = .idle → (closed.pl p).plan = none) ∧
      next.queuePackets 3 = pkt :: [] ∧ (next.pl 3).phase = .waiting ∧ (next.fr 3).record 0 = some (record .sending) :=
  ⟨keptReplies_of_slots _ (by decide +kernel), by decide +kernel⟩

end Sys2Proof.Tests
end

/-! # The laws of isolation (R5, R9): what they read, and how takings and events keep them -/

namespace Sys2Proof.Machine

/-- The units that the laws of isolation read: requested isolation, the Power Controller's ports, and the Cable Test Unit. -/
def Hub.isoItems (h : Hub) : Vector Bool 8 × Vector PortPower 8 × Vector PortCable 8 × CableUnit :=
  (h.requestedIso, h.power, h.cable, h.cables)

/-- The power states in which an isolated port may be (R9). -/
def PowerState.rests (x : PowerState) : Prop := x = .off ∨ x = .locked

/-- From h to h', isolation and the fault list's part in it are as they were, and no isolated port has left OFF or LOCKED. -/
structure Hub.IsoKept (h h' : Hub) : Prop where
  requested : h'.requestedIso = h.requestedIso
  faults : h'.cables.faults = h.cables.faults
  isolated : ∀ p, (h'.cb p).faultIsolation = (h.cb p).faultIsolation
  rests : ∀ p, h.effectiveIso p = true → (h.pw p).state.rests → (h'.pw p).state.rests

/-- The two laws of isolation (R5, R9). -/
def Hub.IsolationLaws (h : Hub) : Prop := h.FaultsIsolate ∧ h.IsolationHolds

/-! ## The relation -/

theorem Hub.IsoKept.refl (h : Hub) : h.IsoKept h := ⟨rfl, rfl, fun _ => rfl, fun _ _ r => r⟩

theorem Hub.IsoKept.effectiveIso {h h' : Hub} (k : h.IsoKept h') (p : Port) : h'.effectiveIso p = h.effectiveIso p := by
  simp only [Hub.effectiveIso, k.requested, k.isolated]

theorem Hub.IsoKept.trans {a b c : Hub} (h : a.IsoKept b) (k : b.IsoKept c) : a.IsoKept c where
  requested := k.requested.trans h.requested
  faults := k.faults.trans h.faults
  isolated p := (k.isolated p).trans (h.isolated p)
  rests p i r := k.rests p ((h.effectiveIso p).trans i) (h.rests p i r)

theorem Hub.IsoKept.of_items {h h' : Hub} (e : h'.isoItems = h.isoItems) : h.IsoKept h' := by
  simp only [Hub.isoItems, Prod.mk.injEq] at e
  obtain ⟨hr, hp, hc, hu⟩ := e
  exact ⟨hr, by rw [hu], fun p => by simp only [Hub.cb, hc], fun p _ r => by simpa only [Hub.pw, hp] using r⟩

/-- Only one port's power items change, and it does not leave OFF or LOCKED while it is isolated. -/
theorem Hub.IsoKept.of_port {h h' : Hub} {p : Port}
    (units : h'.requestedIso = h.requestedIso ∧ h'.cable = h.cable ∧ h'.cables = h.cables)
    (other : ∀ q, q ≠ p → vget h'.power q = vget h.power q)
    (own : h.effectiveIso p = true → (h.pw p).state.rests → (h'.pw p).state.rests) : h.IsoKept h' where
  requested := units.1
  faults := by rw [units.2.2]
  isolated q := by simp only [Hub.cb, units.2.1]
  rests q i r := by
    by_cases e : q = p
    · subst e; exact own i r
    · simpa only [Hub.pw, other q e] using r

theorem PowerKept.state {q q' : PortPower} (k : PowerKept q q') : q'.state = q.state := by
  rcases k with rfl | rfl <;> rfl

/-- Only one port's power items change, and its power state stays. -/
theorem Hub.IsoKept.of_powerKept {h h' : Hub} {p : Port}
    (units : h'.requestedIso = h.requestedIso ∧ h'.cable = h.cable ∧ h'.cables = h.cables)
    (other : ∀ q, q ≠ p → vget h'.power q = vget h.power q) (own : PowerKept (h.pw p) (h'.pw p)) : h.IsoKept h' :=
  .of_port units other fun _ r => by rwa [own.state]

theorem Hub.IsoKept.modPower {h : Hub} {p : Port} {f : PortPower → PortPower}
    (own : h.effectiveIso p = true → (h.pw p).state.rests → (f (h.pw p)).state.rests) : h.IsoKept (h.modPower p f) :=
  .of_port (p := p) ⟨rfl, rfl, rfl⟩ (fun q e => by simp [vget_vmod_ne, e]) (by simpa using own)

/-- Cable items other than fault isolation change. -/
theorem Hub.IsoKept.modCable {h : Hub} {p : Port} {f : PortCable → PortCable}
    (own : (f (h.cb p)).faultIsolation = (h.cb p).faultIsolation) : h.IsoKept (h.modCable p f) where
  requested := rfl
  faults := rfl
  isolated q := by
    by_cases e : q = p
    · subst e; simpa using own
    · rw [Hub.modCable_cb_ne _ _ _ e]
  rests _ _ r := r

theorem Hub.IsoKept.modCables {h : Hub} {f : CableUnit → CableUnit} (e : (f h.cables).faults = h.cables.faults) :
    h.IsoKept (h.modCables f) := ⟨rfl, e, fun _ => rfl, fun _ _ r => r⟩

theorem Hub.IsoKept.laws {h h' : Hub} (k : h.IsoKept h') (l : h.IsolationLaws) : h'.IsolationLaws := by
  obtain ⟨hf, hi⟩ := l
  refine ⟨fun p => ?_, fun p e => ?_⟩
  · rw [k.isolated, k.faults, hf p]
  · rw [k.effectiveIso] at e
    exact k.rests p e (hi p e)

theorem Hub.IsolationLaws.of_items {h h' : Hub} (e : h'.isoItems = h.isoItems) (l : h.IsolationLaws) : h'.IsolationLaws :=
  (Hub.IsoKept.of_items e).laws l

/-! ## The ends of takings and events -/

@[simp] theorem Hub.settle_isoItems (h : Hub) (m : Memory) : (h.settle m).isoItems = h.isoItems := by simp [Hub.isoItems]

/-- A cold reset leaves no port isolated and no record. -/
theorem Hub.coldReset_laws (h : Hub) : h.coldReset.IsolationLaws := by
  refine ⟨fun p => ?_, fun p e => ?_⟩
  · simp [Hub.coldReset, Hub.cb]
  · simp [Hub.coldReset, Hub.effectiveIso, Hub.cb] at e

theorem Hub.answer_laws {h : Hub} (place : Nat) (reply : Packet) (l : h.IsolationLaws) :
    (h.answer place reply).IsolationLaws := by
  unfold Hub.answer Hub.replyGone
  split
  · exact l.of_items rfl
  · split
    · exact Hub.coldReset_laws _
    · exact l.of_items rfl

theorem State.event_laws {s t : State} {f : Hub → Hub} (e : Host.Outcome.next (s.event f) = (.next t : Result))
    (k : (f s.hub).IsolationLaws) : t.hub.IsolationLaws := by
  cases e
  exact k.of_items (by simp)

theorem State.settled_laws {s t : State} (e : Host.Outcome.next s.settled = (.next t : Result))
    (k : s.hub.IsolationLaws) : t.hub.IsolationLaws := by
  cases e
  exact k.of_items (by simp)

theorem State.when_laws {s t : State} {c : Bool} {f : Hub → Hub} (e : s.when c f = .next t) (l : s.hub.IsolationLaws)
    (k : c = true → (f s.hub).IsolationLaws) : t.hub.IsolationLaws := by
  rcases State.when_cases s t c f e with ⟨hc, rfl⟩ | ⟨-, rfl⟩
  · exact (k hc).of_items (by simp)
  · exact l

/-- An event that keeps isolation whatever its condition. -/
theorem State.when_kept {s t : State} {c : Bool} {f : Hub → Hub} (k : ∀ h : Hub, h.IsoKept (f h)) (e : s.when c f = .next t)
    (l : s.hub.IsolationLaws) : t.hub.IsolationLaws := State.when_laws e l fun _ => (k s.hub).laws l

theorem State.takeLater_laws {s t : State} {c : ReqCode} {r : ReqHeader} {ps : List Byte}
    {owner : Byte → Hub → Hub × Option Reply} (k : ∀ b h, h.IsolationLaws → (owner b h).1.IsolationLaws)
    (e : s.takeLater c r ps owner = .next t) (l : s.hub.IsolationLaws) : t.hub.IsolationLaws := by
  unfold State.takeLater at e
  split at e
  case h_1 pkt _ =>
    refine State.event_laws e ?_
    have owned := k pkt.port s.hub.popRequest (l.of_items rfl)
    unfold Hub.takeHead
    dsimp only
    split
    · exact Hub.answer_laws _ _ (owned.of_items rfl)
    · exact owned.of_items rfl
  case h_2 => cases e; exact l

theorem State.take_laws {s t : State} {c : ReqCode} {r : ReqHeader} {ps : List Byte} {owner : Byte → Hub → Hub × Reply}
    (k : ∀ b h, h.IsolationLaws → (owner b h).1.IsolationLaws) (e : s.take c r ps owner = .next t)
    (l : s.hub.IsolationLaws) : t.hub.IsolationLaws := State.takeLater_laws (owner := atOnce owner) k e l

/-- An owner of requests for a port keeps the laws where it does so at every port; a refused target changes nothing. -/
theorem forPort_laws {owner : Port → Hub → Hub × Reply}
    (k : ∀ p h, h.IsolationLaws → (owner p h).1.IsolationLaws) (b : Byte) (h : Hub) (l : h.IsolationLaws) :
    (forPort owner b h).1.IsolationLaws := by
  unfold forPort
  split
  · exact k _ h l
  · exact l

theorem forHub_laws {owner : Hub → Hub × Reply} (k : ∀ h, h.IsolationLaws → (owner h).1.IsolationLaws) (b : Byte) (h : Hub)
    (l : h.IsolationLaws) : (forHub owner b h).1.IsolationLaws := by
  unfold forHub
  split
  · exact k h l
  · exact l

theorem forEither_laws {owner : Option Port → Hub → Hub × Reply}
    (k : ∀ p h, h.IsolationLaws → (owner p h).1.IsolationLaws) (b : Byte) (h : Hub) (l : h.IsolationLaws) :
    (forEither owner b h).1.IsolationLaws := by
  unfold forEither
  split
  · exact k none h l
  · split
    · exact k _ h l
    · exact l

theorem passFor_laws {owner : Port → Hub → Hub × Option Reply}
    (k : ∀ p h, h.IsolationLaws → (owner p h).1.IsolationLaws) (b : Byte) (h : Hub) (l : h.IsolationLaws) :
    (passFor owner b h).1.IsolationLaws := by
  unfold passFor
  split
  · exact k _ h l
  · exact l

end Sys2Proof.Machine

/-! # The operations that leave fault isolation as it is and no isolated port in operation -/

namespace Sys2Proof.Machine

/-! ## A port's lens allowance, link and departure from ON -/

theorem Hub.reportIdle_isoKept (h : Hub) (p : Port) : h.IsoKept (h.reportIdle p) :=
  .of_powerKept (by simp) (fun q e => by simp [e]) (h.reportIdle_kept p)

theorem Hub.completeCommand_isoKept (h : Hub) (p : Port) (c : Command) (how : Completion) :
    h.IsoKept (h.completeCommand p c how) :=
  .of_powerKept (by simp) (fun q e => by simp [e]) (h.completeCommand_kept p c how)

theorem Hub.drop_isoKept (h : Hub) (p : Port) (cause : DropCause) (enter : LinkCtl → LinkCtl) :
    h.IsoKept (h.drop p cause enter) :=
  .of_powerKept (by simp) (fun q e => by simp [e]) (h.drop_kept p cause enter)

theorem Hub.leftOn_isoKept (h : Hub) (p : Port) : h.IsoKept (h.leftOn p) :=
  .of_powerKept (by simp) (fun q e => by simp [e]) (h.leftOn_kept p)

/-- A flag and the report of a last axis, after a change of the lens alone. -/
theorem Hub.flag_reportIdle_isoKept {h h' : Hub} (p : Port) (f : BitVec 16) (e : h'.isoItems = h.isoItems) :
    h.IsoKept ((h'.flag p f).reportIdle p) :=
  (Hub.IsoKept.of_items (by rw [← e]; simp [Hub.isoItems])).trans (Hub.reportIdle_isoKept _ p)

theorem Hub.ignoreReport_isoItems (h : Hub) (p : Port) (late : Bool) : (h.ignoreReport p late).isoItems = h.isoItems := rfl

theorem Hub.lensReport_isoKept (h : Hub) (p : Port) (axis position kind : Nat) :
    h.IsoKept (h.lensReport p axis position kind) := by
  have ignored (late : Bool) : h.IsoKept (h.ignoreReport p late) := .of_items (h.ignoreReport_isoItems p late)
  unfold Hub.lensReport
  dsimp only
  split
  · exact ignored false
  · split
    · exact ignored false
    · split
      · exact ignored false
      · split
        · exact ignored true
        · split
          · exact ignored false
          · split
            · exact ignored false
            · exact Hub.flag_reportIdle_isoKept p _ rfl

theorem Hub.axisTimeout_isoKept (h : Hub) (p : Port) (x : AxisId) : h.IsoKept (h.axisTimeout p x) :=
  Hub.flag_reportIdle_isoKept p _ rfl

theorem Hub.holdAllowance_isoKept (h : Hub) (p : Port) : h.IsoKept (h.holdAllowance p) := .modPower fun _ r => r

theorem Hub.queueCommand_isoItems (h : Hub) (p : Port) (isAttr : Bool) (mk : BitVec 8 → Command) :
    (h.queueCommand p isAttr mk).isoItems = h.isoItems := rfl

theorem Hub.lensCommand_isoKept (h : Hub) (p : Port) (c : Command) : h.IsoKept (h.lensCommand p c).1 := by
  have held := h.holdAllowance_isoKept p
  unfold Hub.lensCommand
  split
  · split
    · exact .of_items (h.queueCommand_isoItems p _ _)
    · exact .refl h
  · split
    · split
      · exact held.trans (.of_items (Hub.queueCommand_isoItems _ p _ _))
      · exact held.trans (Hub.reportIdle_isoKept _ p)
    · exact .refl h

theorem Hub.modAxis_isoItems (h : Hub) (p : Port) (x : AxisId) (f : Axis → Axis) : (h.modAxis p x f).isoItems = h.isoItems := rfl

/-! ## Completions of commands and message boundaries -/

theorem Hub.linkError_isoKept (h : Hub) (p : Port) : h.IsoKept (h.linkError p) := .of_items (by simp [Hub.isoItems])

theorem Hub.modLink_isoKept (h : Hub) (p : Port) (f : LinkCtl → LinkCtl) : h.IsoKept (h.modLink p f) := .of_items rfl

theorem Hub.ackTaken_isoKept (h : Hub) (p : Port) (sequence : Bool) : h.IsoKept (h.ackTaken p sequence) := by
  unfold Hub.ackTaken
  dsimp only
  split
  · split
    · exact ((h.modLink_isoKept p _).trans (Hub.completeCommand_isoKept _ p _ _)).trans (Hub.modLink_isoKept _ p _)
    · exact h.modLink_isoKept p _
  · exact h.modLink_isoKept p _

theorem Hub.waitOver_isoKept (h : Hub) (p : Port) : h.IsoKept (h.waitOver p) := by
  unfold Hub.waitOver
  dsimp only
  split
  · exact .refl h
  · split
    · exact h.modLink_isoKept p _
    · exact (((h.modLink_isoKept p _).trans (Hub.completeCommand_isoKept _ p _ _)).trans
        (Hub.linkError_isoKept _ p)).trans (Hub.modLink_isoKept _ p _)

theorem Hub.boundary_isoKept (h : Hub) (p : Port) : h.IsoKept (h.boundary p) := by
  unfold Hub.boundary
  dsimp only
  split
  · exact .refl h
  · split
    · exact h.waitOver_isoKept p
    · split
      · exact (h.modLink_isoKept p _).trans (Hub.waitOver_isoKept _ p)
      · exact h.modLink_isoKept p _

theorem Hub.messageSent_isoKept (h : Hub) (p : Port) : h.IsoKept (h.messageSent p) := by
  unfold Hub.messageSent
  split
  · exact (h.modLink_isoKept p _).trans (Hub.boundary_isoKept _ p)
  · exact (h.modLink_isoKept p _).trans (Hub.boundary_isoKept _ p)
  · exact .refl h

theorem Hub.waitEnds_isoKept (h : Hub) (p : Port) : h.IsoKept (h.waitEnds p) :=
  (h.modLink_isoKept p _).trans (Hub.boundary_isoKept _ p)

/-! ## Camera power -/

/-- The power items of a port turned off (R9, R41, R54). -/
theorem Hub.turnOff_pw (h : Hub) (p : Port) (cause : OffCause) (part : BitVec 16) :
    (h.turnOff p cause part).pw p =
      { h.pw p with state := .off, cause := cause, allowanceHeld := false, postponed := false } := by
  unfold Hub.turnOff
  dsimp only
  split
  · rcases Hub.leftOn_kept ((h.modPower p fun q =>
      { q with state := .off, cause := cause, allowanceHeld := false, postponed := false }).raise p fPower part) p
      with e | e <;> rw [e] <;> simp [Hub.pw]
  · simp [Hub.pw]

theorem Hub.turnOff_isoKept (h : Hub) (p : Port) (cause : OffCause) (part : BitVec 16) :
    h.IsoKept (h.turnOff p cause part) :=
  .of_port (p := p) (by simp) (fun q e => by simp [e]) fun _ _ => .inl (by rw [Hub.turnOff_pw])

/-- A port that is not isolated, or not at rest, may enter DETECTING. -/
theorem Hub.enterDetecting_isoKept (h : Hub) (p : Port) (may : h.effectiveIso p = true → ¬ (h.pw p).state.rests) :
    h.IsoKept (h.enterDetecting p) :=
  .of_port (p := p) (by simp) (fun q e => by simp [e]) fun i r => absurd r (may i)

theorem Hub.isolationRise_isoKept (h : Hub) (p : Port) : h.IsoKept (h.isolationRise p) := by
  unfold Hub.isolationRise
  split
  case h_5 | h_6 => exact .refl h
  all_goals exact h.turnOff_isoKept p _ _

/-- A retry of an isolated port turns it off (R51, step 2). -/
theorem Hub.retry_isoKept (h : Hub) (p : Port) : h.IsoKept (h.retry p) := by
  unfold Hub.retry
  split
  · exact h.turnOff_isoKept p _ _
  case isFalse free =>
    split
    · exact h.enterDetecting_isoKept p fun i => absurd i free
    · exact h.turnOff_isoKept p _ _

theorem Hub.cooldownOver_isoKept (h : Hub) (p : Port) : h.IsoKept (h.cooldownOver p) := by
  unfold Hub.cooldownOver
  split
  · exact .modPower fun _ r => r
  · exact h.retry_isoKept p

theorem Hub.sweepReported_isoKept (h : Hub) (p : Port) : h.IsoKept (h.sweepReported p) := by
  unfold Hub.sweepReported
  split
  · exact (Hub.IsoKept.modPower fun _ r => r).trans (Hub.retry_isoKept _ p)
  · exact .refl h

theorem Hub.powerDown_isoKept (h : Hub) (p : Port) : h.IsoKept (h.powerDown p) := by
  unfold Hub.powerDown
  split
  · exact h.turnOff_isoKept p _ _
  · exact .refl h

theorem Hub.powerOff_isoKept (h : Hub) (p : Port) : h.IsoKept (h.powerOff p) := by
  unfold Hub.powerOff
  split
  · exact .modPower fun _ r => r
  · exact (Hub.IsoKept.modPower fun _ r => r).trans (Hub.turnOff_isoKept _ p _ _)
  · exact h.turnOff_isoKept p _ _

theorem Hub.powerOn_isoKept (h : Hub) (p : Port) : h.IsoKept (h.powerOn p).1 := by
  unfold Hub.powerOn
  dsimp only
  split
  case isTrue ok =>
    refine h.enterDetecting_isoKept p fun i => ?_
    simp [Hub.powerOnStatus, i] at ok
  case isFalse => exact .refl h

theorem Hub.shedToFit_isoKept : ∀ (n : Nat) (h : Hub), h.IsoKept (Hub.shedToFit n h).1
  | 0, h => .refl h
  | n + 1, h => by
    unfold Hub.shedToFit
    split
    · split
      · exact .refl h
      · exact (h.turnOff_isoKept _ _ _).trans (Hub.shedToFit_isoKept n _)
    · exact .refl h

theorem Hub.shedUndervolt_isoKept (h : Hub) (entry : Bool) : h.IsoKept (h.shedUndervolt entry) := by
  unfold Hub.shedUndervolt
  split
  · exact h.turnOff_isoKept _ _ _
  · split
    · exact .of_items (by simp [Hub.isoItems])
    · exact .refl h

theorem Hub.modCell_isoKept (h : Hub) (f : CellPower → CellPower) : h.IsoKept (h.modCell f) := .of_items rfl

theorem Hub.supplySample_isoKept (h : Hub) (mv : Nat) : h.IsoKept (h.supplySample mv) := by
  have sampled := h.modCell_isoKept fun c => { c with supplySample := mv }
  unfold Hub.supplySample
  dsimp only
  refine sampled.trans ?_
  generalize (h.modCell fun c => { c with supplySample := mv }) = h'
  have sheds (f : CellPower → CellPower) (entry : Bool) : h'.IsoKept ((h'.modCell f).shedUndervolt entry) :=
    (h'.modCell_isoKept f).trans (Hub.shedUndervolt_isoKept _ entry)
  split
  case h_1 =>
    split
    · exact h'.modCell_isoKept _
    · exact .refl h'
  case h_2 | h_3 =>
    split
    · exact h'.modCell_isoKept _
    · split
      · exact sheds _ _
      · exact .refl h'

theorem Hub.budgetSet_isoKept (h : Hub) (budget : Nat) : h.IsoKept (h.budgetSet budget).1 :=
  (h.modCell_isoKept _).trans (Hub.shedToFit_isoKept _ _)

theorem Hub.portPowerSet_isoKept (h : Hub) (p : Port) (grant limit priority allowance : Nat) :
    h.IsoKept (h.portPowerSet p grant limit priority allowance).1 := by
  unfold Hub.portPowerSet
  split
  · exact .refl h
  · split
    · exact .refl h
    · exact .modPower fun _ r => r

/-! ## Sweeps that record nothing -/

theorem Hub.setEngine_isoKept (h : Hub) (e : EngineNo) (x : Option SweepContext) : h.IsoKept (h.setEngine e x) := .modCables rfl

theorem Hub.engineTakes_isoKept (h : Hub) (e : EngineNo) : h.IsoKept (h.engineTakes e) := by
  unfold Hub.engineTakes
  split
  · exact ((Hub.IsoKept.modCables rfl).trans (Hub.setEngine_isoKept _ e _)).trans (.modCable rfl)
  · exact .refl h

theorem Hub.offerEngines_isoKept (h : Hub) : h.IsoKept h.offerEngines :=
  (h.engineTakes_isoKept 0).trans (Hub.engineTakes_isoKept _ 1)

theorem Hub.enqueueSweep_isoKept (h : Hub) (p : Port) (q : SweepParams) (o : SweepOrigin) : h.IsoKept (h.enqueueSweep p q o) :=
  ((Hub.IsoKept.modCables rfl).trans (.modCable rfl)).trans (Hub.offerEngines_isoKept _)

theorem Hub.autoSweep_isoKept (h : Hub) (p : Port) (o : SweepOrigin) : h.IsoKept (h.autoSweep p o) := by
  unfold Hub.autoSweep
  split
  · exact .modCable rfl
  · exact (h.powerDown_isoKept p).trans (Hub.enqueueSweep_isoKept _ p _ _)

theorem Hub.maySweep_isoKept (h : Hub) (p : Port) (o : Option SweepOrigin) : h.IsoKept (h.maySweep p o) := by
  unfold Hub.maySweep
  split
  · exact h.autoSweep_isoKept p _
  · exact .refl h

theorem Hub.flag_isoKept (h : Hub) (p : Port) (f : BitVec 16) : h.IsoKept (h.flag p f) := .of_items (by simp [Hub.isoItems])

theorem Hub.sweepOver_isoKept (h : Hub) (p : Port) : h.IsoKept (h.sweepOver p) :=
  ((Hub.IsoKept.modCable rfl).trans (Hub.flag_isoKept _ p _)).trans (Hub.sweepReported_isoKept _ p)

theorem Hub.stopSweep_isoKept (h : Hub) (e : EngineNo) (p : Port) : h.IsoKept (h.stopSweep e p) :=
  ((h.setEngine_isoKept e _).trans (Hub.sweepOver_isoKept _ p)).trans (Hub.offerEngines_isoKept _)

theorem Hub.cancelSweep_isoKept (h : Hub) (p : Port) : h.IsoKept (h.cancelSweep p) := by
  have stops (h : Hub) (e : EngineNo) : h.IsoKept (match h.engine e with
      | some c =>
        if c.port = p then
          if c.phase = .shooting then h.setEngine e (some { c with cancelling := true }) else h.stopSweep e p
        else h
      | none => h) := by
    split
    · split
      · split
        · exact h.setEngine_isoKept e _
        · exact h.stopSweep_isoKept e p
      · exact .refl h
    · exact .refl h
  unfold Hub.cancelSweep
  split
  · exact .refl h
  · exact (Hub.IsoKept.modCables rfl).trans (Hub.sweepOver_isoKept _ p)
  · exact (stops h 0).trans (stops _ 1)

theorem Hub.sweepRequest_isoKept (h : Hub) (p : Port) (sweep : SweepParamsRaw) (first : Nat) :
    h.IsoKept (h.sweepRequest p sweep first).1 := by
  unfold Hub.sweepRequest
  split
  · split
    · exact .refl h
    · split
      · exact .refl h
      · exact (h.powerDown_isoKept p).trans (Hub.enqueueSweep_isoKept _ p _ _)
  · exact .refl h

/-! ## Events of a port that is not at rest -/

/-- A trip of a port that is not OFF or LOCKED (R48). -/
theorem Hub.trip_isoKept (h : Hub) (p : Port) (cause : OffCause) (runs : ¬ (h.pw p).state.rests) :
    h.IsoKept (h.trip p cause) := by
  unfold Hub.trip
  dsimp only
  refine Hub.IsoKept.trans ?_ (Hub.maySweep_isoKept _ p _)
  have tripped := (Hub.IsoKept.modPower (h := h) (p := p) (f := fun q =>
    if tripLocks cause ((h.pw p).tripsAfter h.time) then
      { q with state := .locked, cause := cause, trips := (h.pw p).tripsAfter h.time, allowanceHeld := false }
    else
      { q with
        state := .cooldown, cause := cause, trips := (h.pw p).tripsAfter h.time, allowanceHeld := false
        cooldownEnd := after h.time 500000, postponed := false }) fun _ r => absurd r runs).trans
    (Hub.flag_isoKept _ p (fTrip ||| fPower ||| (if tripLocks cause ((h.pw p).tripsAfter h.time) then fLock else 0)))
  split
  · exact tripped.trans (Hub.leftOn_isoKept _ p)
  · exact tripped

theorem Hub.detected_isoKept (h : Hub) (p : Port) (load : Nat) (runs : ¬ (h.pw p).state.rests) :
    h.IsoKept (h.detected p load) := by
  have fails (cause : OffCause) : h.IsoKept
      (if ((h.turnOff p cause 0).cb p).onDetectFail then (h.turnOff p cause 0).autoSweep p .autoDetect
        else h.turnOff p cause 0) := by
    split
    · exact (h.turnOff_isoKept p _ _).trans (Hub.autoSweep_isoKept _ p _)
    · exact h.turnOff_isoKept p _ _
  unfold Hub.detected
  dsimp only
  split
  · exact fails _
  · split
    · exact fails _
    · exact (Hub.IsoKept.modPower fun _ r => absurd r runs).trans (Hub.flag_isoKept _ p _)

theorem Hub.beginTraining_isoKept (h : Hub) (p : Port) : h.IsoKept (h.beginTraining p) := .of_items (by simp [Hub.isoItems])

theorem Hub.rampReached_isoKept (h : Hub) (p : Port) (runs : ¬ (h.pw p).state.rests) : h.IsoKept (h.rampReached p) :=
  ((Hub.IsoKept.modPower fun _ r => absurd r runs).trans (Hub.flag_isoKept _ p _)).trans
    (Hub.beginTraining_isoKept _ p)

theorem Hub.attemptEnd_isoKept (h : Hub) (p : Port) : h.IsoKept (h.attemptEnd p) := by
  unfold Hub.attemptEnd
  dsimp only
  split
  · exact h.modLink_isoKept p _
  · split
    · exact ((h.modLink_isoKept p _).trans (Hub.flag_isoKept _ p _)).trans (Hub.autoSweep_isoKept _ p _)
    · exact (h.modLink_isoKept p _).trans (Hub.flag_isoKept _ p _)

theorem Hub.lossOfLock_isoKept (h : Hub) (p : Port) : h.IsoKept (h.lossOfLock p) := by
  unfold Hub.lossOfLock
  dsimp only
  split
  · exact (h.drop_isoKept p _ _).trans (Hub.autoSweep_isoKept _ p _)
  · exact h.drop_isoKept p _ _

end Sys2Proof.Machine

/-! # The operations that move isolation: ISOLATE, the fault list, FAULT_CLEAR -/

namespace Sys2Proof.Machine

/-! ## Rises of effective isolation -/

theorem Hub.IsoKept.faultsIsolate {h h' : Hub} (k : h.IsoKept h') (l : h.FaultsIsolate) : h'.FaultsIsolate := fun p => by
  rw [k.isolated, k.faults, l p]

/-- After a rise of effective isolation the port is OFF or LOCKED (R9). -/
theorem Hub.isolationRise_rests (h : Hub) (p : Port) : ((h.isolationRise p).pw p).state.rests := by
  unfold Hub.isolationRise
  split
  case h_5 e => exact .inl e
  case h_6 e => exact .inr e
  all_goals exact .inl (by rw [Hub.turnOff_pw])

/-- Isolation changes at one port alone, and its rise reaches the Power Controller (R5, R7, R9). -/
theorem Hub.rise_laws {h h' : Hub} {p : Port} (l : h.IsolationHolds) (listed : h'.FaultsIsolate) (power : h'.power = h.power)
    (other : ∀ q, q ≠ p → h'.effectiveIso q = h.effectiveIso q) :
    (if !h.effectiveIso p then h'.isolationRise p else h').IsolationLaws := by
  have kept (q : Port) (e : h.effectiveIso q = true) : (h'.pw q).state.rests := by
    simpa only [Hub.pw, power, PowerState.rests] using l q e
  split
  case isTrue =>
    have k := h'.isolationRise_isoKept p
    refine ⟨k.faultsIsolate listed, fun q e => ?_⟩
    by_cases hq : q = p
    · subst hq; exact h'.isolationRise_rests q
    · rw [k.effectiveIso] at e
      exact k.rests q e (kept q (other q hq ▸ e))
  case isFalse was =>
    refine ⟨listed, fun q e => kept q ?_⟩
    by_cases hq : q = p
    · subst hq; simpa using was
    · exact other q hq ▸ e

theorem Hub.setRequestedIso_laws (h : Hub) (p : Port) (on : Bool) (l : h.IsolationLaws) :
    (h.setRequestedIso p on).IsolationLaws := by
  obtain ⟨hf, hi⟩ := l
  cases on with
  | true =>
    exact Hub.rise_laws (h' := { h with requestedIso := vset h.requestedIso p true }) hi hf rfl fun q e => by
      simp [Hub.effectiveIso, Hub.cb, vget_vset_ne, e]
  | false =>
    refine ⟨hf, fun q e => hi q ?_⟩
    by_cases hq : q = p
    · subst hq
      simp only [Hub.setRequestedIso, Hub.effectiveIso, Bool.false_and, Bool.false_eq_true, if_false, vget_vset_same,
        Bool.false_or] at e
      simp only [Hub.effectiveIso, Bool.or_eq_true]
      exact .inr e
    · simpa [Hub.setRequestedIso, Hub.effectiveIso, Hub.cb, vget_vset_ne, hq] using e

theorem Hub.isolate_laws (h : Hub) (p : Port) (action : Nat) (l : h.IsolationLaws) : (h.isolate p action).1.IsolationLaws := by
  unfold Hub.isolate
  split
  · exact h.setRequestedIso_laws p true l
  · exact h.setRequestedIso_laws p false l
  · exact l

/-! ## The fault list -/

/-- No OPEN record goes when the oldest CLEARED one does (R77). -/
theorem dropOldestCleared_any (p : Port) :
    ∀ l : List FaultRecord, ((dropOldestCleared l).any fun f => f.opensPort p) = l.any fun f => f.opensPort p
  | [] => rfl
  | f :: rest => by
    unfold dropOldestCleared
    split
    case isTrue => simp only [List.any_cons, dropOldestCleared_any p rest]
    case isFalse cleared => simp [FaultRecord.opensPort, cleared]

/-- A BREAK result leaves an OPEN record of its port, and every OPEN record as OPEN as it was (R77, R78). -/
theorem CableUnit.writeFault_any (u : CableUnit) (c : SweepContext) (pair : Pair) (r : PairResult) (s : BreakSpan)
    (now : HubTime) (p : Port) :
    ((u.writeFault c pair r s now).faults.any fun f => f.opensPort p) =
      ((u.faults.any fun f => f.opensPort p) || decide (c.port = p)) := by
  unfold CableUnit.writeFault
  split
  case isTrue found =>
    have same : (fun f : FaultRecord => (if f.opens c.port pair then mergeFault f r s now else f).opensPort p) =
        fun f => f.opensPort p := by
      funext f
      split <;> rfl
    simp only [List.any_map, Function.comp_def, same]
    obtain ⟨f, hf, opens⟩ := List.any_eq_true.mp found
    simp only [FaultRecord.opens, Bool.and_eq_true, decide_eq_true_eq] at opens
    obtain ⟨⟨isOpen, port⟩, -⟩ := opens
    by_cases e : c.port = p
    · have : (u.faults.any fun f => f.opensPort p) = true :=
        List.any_eq_true.mpr ⟨f, hf, by simp [FaultRecord.opensPort, isOpen, port, e]⟩
      simp [this]
    · simp [e]
  case isFalse =>
    simp only [List.any_append, List.any_cons, List.any_nil, Bool.or_false, newFault, FaultRecord.opensPort, Bool.true_and]
    congr 1
    split
    · exact dropOldestCleared_any p u.faults
    · rfl

theorem Hub.recordPair_laws (h : Hub) (c : SweepContext) (pair : Pair) (l : h.IsolationLaws) :
    (h.recordPair c pair).IsolationLaws := by
  obtain ⟨hf, hi⟩ := l
  unfold Hub.recordPair
  dsimp only
  split
  · exact ⟨hf, hi⟩
  case h_2 s _ =>
    refine Hub.rise_laws hi (fun q => ?_) (by simp) fun q e => ?_
    · simp only [Hub.cb, Hub.setFlags_frame, Hub.modCable_cable, Hub.modCable_cables, Hub.modCables_cables,
        Hub.modCables_cable, CableUnit.writeFault_any, vget_vmod, ← hf q]
      split
      case isTrue e => simp [e]
      case isFalse e => simp [Ne.symm e]
    · simp [Hub.effectiveIso, Hub.cb, vget_vmod_ne, e]

theorem Hub.completeSweep_laws (h : Hub) (e : EngineNo) (c : SweepContext) (l : h.IsolationLaws) :
    (h.completeSweep e c).IsolationLaws := by
  have recorded (h : Hub) (pair : Pair) (l : h.IsolationLaws) :
      (if tests c.params.pair pair then h.recordPair c pair else h).IsolationLaws := by
    split
    · exact h.recordPair_laws c pair l
    · exact l
  unfold Hub.completeSweep
  dsimp only
  have k := recorded _ .power (recorded h .data l)
  revert k
  generalize (if tests c.params.pair .power then _ else _ : Hub) = h'
  intro k
  refine Hub.IsoKept.laws ?_ k
  have ended : h'.IsoKept (((h'.modCable c.port fun x => { x with summary := some (c.summarise e h'.time) }).setEngine e
      none).modCable c.port fun x => { x with sweepStatus := .idle }) :=
    ((Hub.IsoKept.modCable rfl).trans (Hub.setEngine_isoKept _ e none)).trans (.modCable rfl)
  exact ((ended.trans (.of_items (by simp [Hub.isoItems]))).trans (Hub.sweepReported_isoKept _ c.port)).trans
    (Hub.offerEngines_isoKept _)

theorem Hub.repeatEnd_laws (h : Hub) (e : EngineNo) (c : SweepContext) (endTime : HubTime) (l : h.IsolationLaws) :
    (h.repeatEnd e c endTime).IsolationLaws := by
  unfold Hub.repeatEnd
  dsimp only
  split
  · exact (h.setEngine_isoKept e _).laws l
  · split
    · exact (h.setEngine_isoKept e _).laws l
    · exact h.completeSweep_laws e _ l

theorem Hub.shotEnd_laws (h : Hub) (e : EngineNo) (c : SweepContext) (trace : List (Nat × Int)) (l : h.IsolationLaws) :
    (h.shotEnd e c trace).IsolationLaws := by
  unfold Hub.shotEnd
  dsimp only
  split
  · exact (h.stopSweep_isoKept e c.port).laws l
  · split
    · exact (h.setEngine_isoKept e _).laws l
    · exact h.repeatEnd_laws e _ _ l

/-- FAULT_CLEAR clears the OPEN records of its port with its fault isolation, and those alone (R80). -/
theorem Hub.faultClear_laws (h : Hub) (p : Port) (l : h.IsolationLaws) : (h.faultClear p).1.IsolationLaws := by
  obtain ⟨hf, hi⟩ := l
  unfold Hub.faultClear
  split
  · exact ⟨hf, hi⟩
  · dsimp only
    refine ⟨fun q => ?_, fun q e => hi q ?_⟩
    · by_cases hq : q = p
      · subst hq
        simp only [Hub.modCable_cb_same, Hub.modCable_cables, Hub.modCables_cables, List.any_map]
        refine (List.any_eq_false.mpr fun f _ => ?_).symm
        dsimp only [Function.comp_apply]
        split
        · simp [FaultRecord.opensPort]
        case isFalse closed => exact closed
      · rw [Hub.modCable_cb_ne _ _ _ hq]
        simp only [Hub.modCables_cb, Hub.modCable_cables, Hub.modCables_cables, List.any_map, hf q]
        congr 1
        funext f
        dsimp only [Function.comp_apply]
        split
        case isTrue opens =>
          simp only [FaultRecord.opensPort, Bool.and_eq_true, decide_eq_true_eq] at opens
          simp [FaultRecord.opensPort, opens.2, Ne.symm hq]
        case isFalse => rfl
    · by_cases hq : q = p
      · subst hq
        simp only [Hub.effectiveIso, Hub.modCable_cb_same, Hub.modCable_requestedIso, Hub.modCables_requestedIso,
          Bool.or_false] at e
        simp only [Hub.effectiveIso, e, Bool.true_or]
      · simpa only [Hub.effectiveIso, Hub.modCable_cb_ne _ _ _ hq, Hub.modCables_cb, Hub.modCable_requestedIso,
          Hub.modCables_requestedIso] using e

end Sys2Proof.Machine

/-! # Requests and events over the laws of isolation -/

namespace Sys2Proof.Machine

/-! ## Requests that leave isolation alone -/

theorem Hub.linkSet_isoItems (h : Hub) (p : Port) (degrade drop : Nat) : (h.linkSet p degrade drop).1.isoItems = h.isoItems := by
  unfold Hub.linkSet
  split <;> rfl

theorem Hub.linkTest_isoItems (h : Hub) (p : Port) (count : Nat) : (h.linkTest p count).1.isoItems = h.isoItems := by
  unfold Hub.linkTest
  (repeat' split) <;> rfl

theorem Hub.passThrough_isoItems (h : Hub) (p : Port) (tag : BitVec 16) (kind : PassKind) (count : Nat)
    (mk : SlotNo → BitVec 8 → Command) : (h.passThrough p tag kind count mk).1.isoItems = h.isoItems := by
  unfold Hub.passThrough
  (repeat' split) <;> rfl

theorem Hub.readEvents_isoItems (h : Hub) (p : Option Port) : (h.readEvents p).1.isoItems = h.isoItems := by
  cases p <;> rfl

theorem Hub.noticeSet_isoItems (h : Hub) (kinds : Nat) : (h.noticeSet kinds).1.isoItems = h.isoItems := by
  unfold Hub.noticeSet
  split <;> rfl

theorem Hub.lensProfileLoad_isoItems (h : Hub) (p : Port) (focus zoom iris : ProfileParams) :
    (h.lensProfileLoad p focus zoom iris).1.isoItems = h.isoItems := by
  unfold Hub.lensProfileLoad
  (repeat' split) <;> rfl

theorem Hub.focusTableLoad_isoItems (h : Hub) (p : Port) (stop zoom : Nat) (points : List (Nat × Nat)) :
    (h.focusTableLoad p stop zoom points).1.isoItems = h.isoItems := by
  unfold Hub.focusTableLoad
  (repeat' split) <;> rfl

theorem Hub.encoderSet_isoItems (h : Hub) (value : Nat) : (h.encoderSet value).1.isoItems = h.isoItems := rfl

theorem Hub.triggerLineSet_isoItems (h : Hub) (line filter : Nat) : (h.triggerLineSet line filter).1.isoItems = h.isoItems := by
  unfold Hub.triggerLineSet
  (repeat' split) <;> rfl

theorem Hub.triggerSet_isoItems (h : Hub) (p : Port) (source pitch phase direction policy timeout : Nat) :
    (h.triggerSet p source pitch phase direction policy timeout).1.isoItems = h.isoItems := by
  unfold Hub.triggerSet
  (repeat' split) <;> rfl

theorem Hub.ringSet_isoItems (h : Hub) (p : Port) (start length timeout : Nat) :
    (h.ringSet p start length timeout).1.isoItems = h.isoItems := by
  unfold Hub.ringSet
  (repeat' split) <;> rfl

theorem Hub.frameHold_isoItems (h : Hub) (p : Port) (number : Nat) : (h.frameHold p number).1.isoItems = h.isoItems := by
  unfold Hub.frameHold
  (repeat' split) <;> rfl

theorem Hub.frameRelease_isoItems (h : Hub) (p : Port) (number : Nat) : (h.frameRelease p number).1.isoItems = h.isoItems := by
  unfold Hub.frameRelease
  (repeat' split) <;> rfl

theorem Hub.viewLoad_isoItems (h : Hub) (view : Nat) (q : ViewParams) : (h.viewLoad view q).1.isoItems = h.isoItems := by
  unfold Hub.viewLoad
  (repeat' split) <;> rfl

theorem Hub.viewBind_isoItems (h : Hub) (p : Port) (view : Nat) : (h.viewBind p view).1.isoItems = h.isoItems := by
  unfold Hub.viewBind
  dsimp only
  (repeat' split) <;> rfl

theorem Hub.coefSelect_isoItems (h : Hub) (table : Nat) : (h.coefSelect table).1.isoItems = h.isoItems := by
  unfold Hub.coefSelect
  (repeat' split) <;> rfl

theorem Hub.coefWrite_isoItems (h : Hub) (values : List Nat) : (h.coefWrite values).1.isoItems = h.isoItems := by
  unfold Hub.coefWrite
  (repeat' split) <;> rfl

theorem Hub.pipeWake_isoItems (h : Hub) (m : Memory) (p : Port) : (h.pipeWake m p).isoItems = h.isoItems := by
  simp [Hub.isoItems]

theorem Hub.frameResend_isoItems (h : Hub) (m : Memory) (p : Port) (number view : Nat) :
    (h.frameResend m p number view).1.isoItems = h.isoItems := by
  unfold Hub.frameResend
  split
  · rfl
  · split
    · rfl
    · split
      · rfl
      · split
        · rfl
        · split
          · rfl
          · exact Hub.pipeWake_isoItems _ m p

theorem Hub.pipeReset_isoItems (h : Hub) (p : Port) : (h.pipeReset p).1.isoItems = h.isoItems := rfl

theorem Hub.egressSet_isoItems (h : Hub) (settings : EgressParams) (p : Option Port) :
    (h.egressSet settings p).1.isoItems = h.isoItems := by
  cases p <;> unfold Hub.egressSet <;> dsimp only <;> (repeat' split) <;> rfl

theorem Hub.cableTypeSet_isoKept (h : Hub) (type speed polarity threshold : Nat) :
    h.IsoKept (h.cableTypeSet type speed polarity threshold).1 := by
  unfold Hub.cableTypeSet
  split
  · split
    · dsimp only
      exact .modCables rfl
    · exact .refl h
  · exact .refl h

theorem Hub.portCableSet_isoKept (h : Hub) (p : Port) (type length tolerance offset : Nat) :
    h.IsoKept (h.portCableSet p type length tolerance offset).1 := by
  unfold Hub.portCableSet
  split
  · exact .refl h
  · split
    · exact .modCable rfl
    · exact .refl h

theorem Hub.autoSweepSet_isoKept (h : Hub) (p : Port) (flags : Nat) (sweep : SweepParamsRaw) :
    h.IsoKept (h.autoSweepSet p flags sweep).1 := by
  unfold Hub.autoSweepSet
  split
  · exact .refl h
  · split
    · exact .refl h
    · exact .modCable rfl

theorem Hub.homeAxis_isoKept (h : Hub) (p : Port) (x : AxisId) : h.IsoKept (h.homeAxis p x).1 := by
  have sent := h.lensCommand_isoKept p (.lensHome x)
  unfold Hub.homeAxis
  dsimp only
  split
  · exact .refl h
  · split
    · exact .refl h
    · split
      · exact .refl h
      · split
        · exact sent
        · exact sent.trans (.of_items (Hub.modAxis_isoItems _ p x _))

theorem Hub.lensHome_isoKept (h : Hub) (p : Port) (axis : Nat) : h.IsoKept (h.lensHome p axis).1 := by
  unfold Hub.lensHome
  split
  · exact .refl h
  · exact h.homeAxis_isoKept p _

theorem Hub.sendMove_isoKept (h : Hub) (p : Port) (x : AxisId) (target : Nat) (status : Status) (f : Axis → Axis) :
    h.IsoKept (h.sendMove p x target status f).1 := by
  have sent := h.lensCommand_isoKept p (.lensMove x target)
  unfold Hub.sendMove
  dsimp only
  split
  · exact sent
  · exact sent.trans (.of_items (Hub.modAxis_isoItems _ p x f))

theorem Hub.moveAxis_isoKept (h : Hub) (p : Port) (x : AxisId) (wanted : Nat) : h.IsoKept (h.moveAxis p x wanted).1 := by
  unfold Hub.moveAxis
  dsimp only
  split
  · exact .refl h
  · split
    · exact .refl h
    · split
      case h_1 | h_2 | h_3 => exact .refl h
      case h_4 | h_5 =>
        split
        · exact .refl h
        · exact h.sendMove_isoKept p x _ _ _

theorem Hub.lensMove_isoKept (h : Hub) (p : Port) (axis target : Nat) : h.IsoKept (h.lensMove p axis target).1 := by
  unfold Hub.lensMove
  split
  · exact .refl h
  · exact h.moveAxis_isoKept p _ target

theorem Hub.stopAxis_isoKept (h : Hub) (p : Port) (x : AxisId) : h.IsoKept (h.stopAxis p x).1 := by
  have sent := h.lensCommand_isoKept p (.lensStop x)
  unfold Hub.stopAxis
  dsimp only
  split
  · exact .refl h
  · split
    · exact .refl h
    · split
      · exact sent
      · exact sent.trans (.of_items (Hub.modAxis_isoItems _ p x _))

theorem Hub.lensStop_isoKept (h : Hub) (p : Port) (axis : Nat) : h.IsoKept (h.lensStop p axis).1 := by
  unfold Hub.lensStop
  split
  · exact .refl h
  · exact h.stopAxis_isoKept p _

theorem Hub.lensFocusDistance_isoKept (h : Hub) (p : Port) (d : Nat) : h.IsoKept (h.lensFocusDistance p d).1 := by
  unfold Hub.lensFocusDistance
  dsimp only
  split
  · exact .refl h
  · split
    · exact .refl h
    · split
      · exact .refl h
      · split
        · exact .refl h
        · split
          · exact .refl h
          · exact h.moveAxis_isoKept p .focus _

theorem Hub.fire_isoItems (h : Hub) (p : Port) : (h.fire p).1.isoItems = h.isoItems := by simp [Hub.isoItems]

theorem Hub.fireAll_isoItems : ∀ (l : List Port) (h : Hub), (h.fireAll l).1.isoItems = h.isoItems
  | [], _ => rfl
  | p :: l, h => (Hub.fireAll_isoItems l (h.fire p).1).trans (h.fire_isoItems p)

theorem Hub.triggerSoft_isoItems (h : Hub) (mask : Nat) : (h.triggerSoft mask).1.isoItems = h.isoItems := by
  unfold Hub.triggerSoft
  dsimp only
  split
  · rfl
  · exact Hub.fireAll_isoItems _ h

/-! ## Events that leave isolation alone -/

theorem Hub.fireLine_isoItems (h : Hub) (l : LineNo) : (h.fireLine l).isoItems = h.isoItems := by
  refine foldl_keep Hub.isoItems _ (fun h p => ?_) allPorts h
  split
  · exact h.fire_isoItems p
  · rfl

theorem Hub.triggerTimeout_isoItems (h : Hub) (p : Port) : (h.triggerTimeout p).isoItems = h.isoItems := by
  simp [Hub.triggerTimeout, Hub.isoItems]

theorem Hub.arrive_isoItems (h : Hub) (pkt : Packet) : (h.arrive pkt).isoItems = h.isoItems := by
  unfold Hub.arrive
  split
  · rfl
  · simp [Hub.isoItems]

theorem Hub.trunkReturns_isoItems (h : Hub) (m : Memory) : (h.trunkReturns m).isoItems = h.isoItems := by
  have wakes (h : Hub) : (allPorts.foldl (fun h p => h.pipeWake m p) h).isoItems = h.isoItems :=
    foldl_keep Hub.isoItems _ (fun h p => h.pipeWake_isoItems m p) allPorts h
  unfold Hub.trunkReturns
  rw [wakes]
  simp [Hub.isoItems]

theorem Hub.pipeTrunkLost_isoItems (h : Hub) (m : Memory) (p : Port) : (h.pipeTrunkLost m p).isoItems = h.isoItems := by
  unfold Hub.pipeTrunkLost
  split <;> simp [Hub.isoItems]

theorem Hub.trunkLost_laws (h : Hub) (m : Memory) (l : h.IsolationLaws) : (h.trunkLost m).IsolationLaws := by
  unfold Hub.trunkLost
  dsimp only
  split
  · exact Hub.coldReset_laws _
  · refine l.of_items ((foldl_keep Hub.isoItems _ (fun h p => h.pipeTrunkLost_isoItems m p) allPorts _).trans ?_)
    have closes : (allPorts.foldl Hub.closesLost h).isoItems = h.isoItems :=
      foldl_keep Hub.isoItems _ (fun h p => by simp [Hub.isoItems]) allPorts h
    rw [← closes]
    simp [Hub.isoItems]

theorem Hub.sendEnd_laws (h : Hub) (m : Memory) (l : h.IsolationLaws) : (h.sendEnd m).IsolationLaws := by
  unfold Hub.sendEnd
  split
  · exact l
  · dsimp only
    split
    · exact Hub.coldReset_laws _
    · split
      · exact l.of_items rfl
      · split
        · exact l.of_items rfl
        · exact l.of_items (by simp [Hub.isoItems])

theorem Hub.badPacket_isoItems (h : Hub) (p : Port) : (h.badPacket p).isoItems = h.isoItems := by
  simp [Hub.badPacket, Hub.isoItems]

theorem State.completeFrame_isoItems (s : State) (p : Port) (r : FrameRecord) (e : Option (Nat × Nat)) (truncated : Bool)
    (intake : Intake) : (s.completeFrame p r e truncated intake).hub.isoItems = s.hub.isoItems := by
  unfold State.completeFrame
  dsimp only
  split
  · simp [Hub.queueLive, Hub.isoItems]
  · rfl

theorem State.frameCutOff_isoItems (s : State) (p : Port) : (s.frameCutOff p).hub.isoItems = s.hub.isoItems := by
  unfold State.frameCutOff
  split
  · exact s.completeFrame_isoItems p _ _ _ _
  · rfl

theorem State.frameEnded_isoItems (s : State) (p : Port) (linesSent status : Nat) :
    (s.frameEnded p linesSent status).hub.isoItems = s.hub.isoItems := by
  unfold State.frameEnded
  split
  · exact s.completeFrame_isoItems p _ _ _ _
  · dsimp only
    split <;> rfl

theorem Hub.openFrame_isoItems (h : Hub) (p : Port) (number width height id : Nat) :
    (h.openFrame p number width height id).isoItems = h.isoItems := by
  simp [Hub.openFrame, Hub.isoItems]

theorem State.frameStart_isoItems (s : State) (p : Port) (number width height id : Nat) :
    (s.frameStart p number width height id).hub.isoItems = s.hub.isoItems := by
  unfold State.frameStart
  split
  · simp [Hub.ignorePacket, Hub.isoItems]
  · refine (Hub.openFrame_isoItems _ p _ _ _ _).trans ?_
    split
    · exact s.frameCutOff_isoItems p
    · rfl

theorem State.line_isoItems (s : State) (p : Port) (number : Nat) (pixels : List Nat) :
    (s.line p number pixels).hub.isoItems = s.hub.isoItems := by
  unfold State.line
  split
  · rfl
  · split
    · rfl
    · unfold State.storeLine
      dsimp only
      split <;> rfl

theorem State.frameEnd_isoItems (s : State) (p : Port) (linesSent status : Nat) :
    (s.frameEnd p linesSent status).hub.isoItems = s.hub.isoItems := by
  unfold State.frameEnd
  split
  · rfl
  · exact State.frameEnded_isoItems _ p _ _

theorem execFrameStart_laws {p : Port} {number width height id : Nat} {s t : State}
    (e : execFrameStart p number width height id s = .next t) (l : s.hub.IsolationLaws) : t.hub.IsolationLaws := by
  unfold execFrameStart at e
  split at e
  · exact State.settled_laws e (l.of_items (s.frameStart_isoItems p _ _ _ _))
  · cases e; exact l

theorem execLine_laws {p : Port} {number : Nat} {pixels : List Nat} {s t : State}
    (e : execLine p number pixels s = .next t) (l : s.hub.IsolationLaws) : t.hub.IsolationLaws := by
  unfold execLine at e
  split at e
  · exact State.settled_laws e (l.of_items (s.line_isoItems p _ _))
  · cases e; exact l

theorem execFrameEnd_laws {p : Port} {linesSent status : Nat} {s t : State}
    (e : execFrameEnd p linesSent status s = .next t) (l : s.hub.IsolationLaws) : t.hub.IsolationLaws := by
  unfold execFrameEnd at e
  split at e
  · exact State.settled_laws e (l.of_items (s.frameEnd_isoItems p _ _))
  · cases e; exact l

theorem execFillDeadline_laws {p : Port} {s t : State} (e : execFillDeadline p s = .next t) (l : s.hub.IsolationLaws) :
    t.hub.IsolationLaws := by
  unfold execFillDeadline at e
  split at e
  · exact State.settled_laws e (l.of_items (s.completeFrame_isoItems p _ _ _ _))
  · cases e; exact l

theorem execBadRequest_laws {s t : State} (e : execBadRequest s = .next t) (l : s.hub.IsolationLaws) : t.hub.IsolationLaws := by
  unfold execBadRequest at e
  split at e
  · refine State.event_laws e (Hub.answer_laws _ _ (l.of_items ?_))
    dsimp only
    split <;> rfl
  · cases e; exact l

/-! ## Events of the engines and of the current -/

theorem execSettlingEnd_laws {n : EngineNo} {s t : State} (e : execSettlingEnd n s = .next t) (l : s.hub.IsolationLaws) :
    t.hub.IsolationLaws := by
  unfold execSettlingEnd at e
  split at e
  · exact State.event_laws e ((s.hub.setEngine_isoKept n _).laws l)
  · cases e; exact l

theorem execShot_laws {n : EngineNo} {trace : List (Nat × Int)} {s t : State} (e : execShot n trace s = .next t)
    (l : s.hub.IsolationLaws) : t.hub.IsolationLaws := by
  unfold execShot at e
  split at e
  · exact State.event_laws e (s.hub.shotEnd_laws n _ trace l)
  · cases e; exact l

theorem execRepeatIntervalEnd_laws {n : EngineNo} {s t : State} (e : execRepeatIntervalEnd n s = .next t)
    (l : s.hub.IsolationLaws) : t.hub.IsolationLaws := by
  unfold execRepeatIntervalEnd at e
  split at e
  · exact State.event_laws e ((s.hub.setEngine_isoKept n _).laws l)
  · cases e; exact l

/-- A port in a state other than OFF and LOCKED is not at rest. -/
theorem not_rests_of_eq {x y : PowerState} (e : x = y) (off : y ≠ .off) (locked : y ≠ .locked) : ¬ x.rests := by
  rintro (r | r)
  · exact off (e ▸ r)
  · exact locked (e ▸ r)

theorem Hub.phaseOver_runs {h : Hub} {p : Port} {x : PowerState} {duration : Nat} (due : h.phaseOver p x duration = true)
    (off : x ≠ .off) (locked : x ≠ .locked) : ¬ (h.pw p).state.rests := by
  simp only [Hub.phaseOver, Bool.and_eq_true, decide_eq_true_eq] at due
  exact not_rests_of_eq due.1 off locked

/-- A current that a row reports trips a port that is ON, or has that row's own effect (R47). -/
theorem State.senseCurrent_laws {s t : State} {p : Port} {current : Nat} {own : Hub → Bool} {act : Hub → Hub}
    (e : s.senseCurrent p current own act = .next t) (l : s.hub.IsolationLaws)
    (acts : own s.hub = true → s.hub.IsoKept (act s.hub)) : t.hub.IsolationLaws := by
  refine State.when_laws e l fun holds => ?_
  split
  case isTrue short =>
    simp only [Hub.shorted, Bool.and_eq_true, decide_eq_true_eq] at short
    exact (s.hub.trip_isoKept p _ (not_rests_of_eq short.1 (by decide) (by decide))).laws l
  case isFalse normal =>
    simp only [normal, Bool.false_or] at holds
    exact (acts holds).laws l

theorem Hub.excursionDue_runs {h : Hub} {p : Port} (due : h.excursionDue p = true) : ¬ (h.pw p).state.rests := by
  simp only [Hub.excursionDue, Bool.and_eq_true, decide_eq_true_eq] at due
  exact not_rests_of_eq due.1 (by decide) (by decide)

theorem execOvercurrentRise_laws {p : Port} {current : Nat} {s t : State} (e : execOvercurrentRise p current s = .next t)
    (l : s.hub.IsolationLaws) : t.hub.IsolationLaws := State.senseCurrent_laws e l fun _ => .modPower fun _ r => r

theorem execOvercurrentFall_laws {p : Port} {current : Nat} {s t : State} (e : execOvercurrentFall p current s = .next t)
    (l : s.hub.IsolationLaws) : t.hub.IsolationLaws := State.senseCurrent_laws e l fun _ => .modPower fun _ r => r

theorem execTrip_laws {p : Port} {current : Nat} {s t : State} (e : execTrip p current s = .next t)
    (l : s.hub.IsolationLaws) : t.hub.IsolationLaws := by
  refine State.senseCurrent_laws e l fun due => s.hub.trip_isoKept p _ ?_
  simp only [Bool.and_eq_true] at due
  exact Hub.excursionDue_runs due.1

theorem execHardShort_laws {p : Port} {current : Nat} {s t : State} (e : execHardShort p current s = .next t)
    (l : s.hub.IsolationLaws) : t.hub.IsolationLaws := State.senseCurrent_laws e l fun _ => .refl _

end Sys2Proof.Machine

/-! # Every command keeps the laws of isolation -/

namespace Sys2Proof.Machine

/-- Every command keeps the laws of isolation: the requests of the ports' settings and reads leave isolation as it is; power
changes keep an isolated port OFF or LOCKED; ISOLATE, FAULT_CLEAR and the end of a sweep move both sides of R5 together. -/
theorem exec_isolationLaws (i : Instr) (s t : State) (e : exec i s = .next t) (l : s.hub.IsolationLaws) :
    t.hub.IsolationLaws := by
  cases i with
  | coldReset => exact State.event_laws e (Hub.coldReset_laws _)
  | trunkUp => exact State.when_laws e l fun _ => l.of_items (Hub.trunkReturns_isoItems _ _)
  | trunkLoss => exact State.when_laws e l fun _ => Hub.trunkLost_laws _ _ l
  | requestPacketReceived pkt => exact State.when_laws e l fun _ => l.of_items (Hub.arrive_isoItems _ _)
  | badRequest => exact execBadRequest_laws e l
  | packetSendEnd => exact State.when_laws e l fun _ => Hub.sendEnd_laws _ _ l
  | imageQueueTakesPacket p => exact State.when_laws e l fun _ => l.of_items (by simp [Hub.isoItems])
  | answeredSlotReplyOffer => exact State.when_laws e l fun _ => l.of_items (by simp [Hub.isoItems])
  | identify r => exact State.take_laws (forHub_laws fun _ lh => lh) e l
  | timeRead r => exact State.take_laws (forHub_laws fun _ lh => lh) e l
  | partReset r => exact State.take_laws (forHub_laws fun _ lh => lh.of_items rfl) e l
  | readEvents r => exact State.take_laws (forEither_laws fun p h lh => lh.of_items (h.readEvents_isoItems p)) e l
  | noticeSet r kinds => exact State.take_laws (forHub_laws fun h lh => lh.of_items (h.noticeSet_isoItems kinds)) e l
  | isolate r action => exact State.take_laws (forPort_laws fun p h lh => h.isolate_laws p action lh) e l
  | portRead r => exact State.take_laws (forPort_laws fun _ _ lh => lh) e l
  | linkSet r degrade drop =>
    exact State.take_laws (forPort_laws fun p h lh => lh.of_items (h.linkSet_isoItems p degrade drop)) e l
  | linkTest r count => exact State.take_laws (forPort_laws fun p h lh => lh.of_items (h.linkTest_isoItems p count)) e l
  | dropHistoryRead r => exact State.take_laws (forPort_laws fun _ _ lh => lh) e l
  | attrRead r address count =>
    exact State.takeLater_laws (passFor_laws fun p h lh => lh.of_items (h.passThrough_isoItems p _ _ _ _)) e l
  | attrWrite r address words =>
    exact State.takeLater_laws (passFor_laws fun p h lh => lh.of_items (h.passThrough_isoItems p _ _ _ _)) e l
  | passThroughTimeout slot => exact State.when_laws e l fun _ => l.of_items (by simp [Hub.isoItems])
  | budgetSet r budget => exact State.take_laws (forHub_laws fun h lh => (h.budgetSet_isoKept budget).laws lh) e l
  | portPowerSet r grant limit priority allowance =>
    exact State.take_laws (forPort_laws fun p h lh => (h.portPowerSet_isoKept p _ _ _ _).laws lh) e l
  | powerOn r => exact State.take_laws (forPort_laws fun p h lh => (h.powerOn_isoKept p).laws lh) e l
  | powerOff r => exact State.take_laws (forPort_laws fun p h lh => (h.powerOff_isoKept p).laws lh) e l
  | detectionEnd p load =>
    exact State.when_laws e l fun due =>
      (s.hub.detected_isoKept p load (Hub.phaseOver_runs due (by decide) (by decide))).laws l
  | rampOutputReached p output =>
    refine State.when_laws e l fun due => (s.hub.rampReached_isoKept p ?_).laws l
    simp only [Bool.and_eq_true, decide_eq_true_eq] at due
    exact not_rests_of_eq due.1 (by decide) (by decide)
  | rampFail p output =>
    refine State.when_laws e l fun due => (s.hub.trip_isoKept p _ ?_).laws l
    simp only [Bool.and_eq_true] at due
    exact Hub.phaseOver_runs due.1 (by decide) (by decide)
  | overcurrentRise p current => exact execOvercurrentRise_laws e l
  | overcurrentFall p current => exact execOvercurrentFall_laws e l
  | trip p current => exact execTrip_laws e l
  | hardShort p current => exact execHardShort_laws e l
  | cooldownEnd p => exact State.when_kept (fun h => h.cooldownOver_isoKept p) e l
  | supplySample mv => exact State.event_laws e ((s.hub.supplySample_isoKept mv).laws l)
  | trainingAttemptEnd p => exact State.when_kept (fun h => h.attemptEnd_isoKept p) e l
  | lockReply p => exact State.when_laws e l fun _ => l.of_items (by simp [Hub.isoItems])
  | lossOfLock p => exact State.when_kept (fun h => h.lossOfLock_isoKept p) e l
  | errorWindowEnd p => exact State.when_laws e l fun _ => l.of_items (by simp [Hub.isoItems])
  | badUpstreamPacket p bytes => exact State.when_laws e l fun _ => l.of_items (Hub.badPacket_isoItems _ p)
  | frameStart p number width height id => exact execFrameStart_laws e l
  | line p number pixels => exact execLine_laws e l
  | frameEnd p linesSent status => exact execFrameEnd_laws e l
  | fillDeadline p => exact execFillDeadline_laws e l
  | ack p sequence => exact State.when_kept (fun h => h.ackTaken_isoKept p _) e l
  | ackWaitEnd p => exact State.when_kept (fun h => h.waitEnds_isoKept p) e l
  | downstreamMessageSent p => exact State.when_kept (fun h => h.messageSent_isoKept p) e l
  | attrReply p attr status words => exact State.when_laws e l fun _ => l.of_items (by simp [Hub.isoItems])
  | lensReport p axis position kind => exact State.when_kept (fun h => h.lensReport_isoKept p _ _ _) e l
  | lensDeadline p axis => exact State.when_kept (fun h => h.axisTimeout_isoKept p axis) e l
  | lensProfileLoad r focus zoom iris =>
    exact State.take_laws (forPort_laws fun p h lh => lh.of_items (h.lensProfileLoad_isoItems p _ _ _)) e l
  | lensHome r axis => exact State.take_laws (forPort_laws fun p h lh => (h.lensHome_isoKept p axis).laws lh) e l
  | lensMove r axis target => exact State.take_laws (forPort_laws fun p h lh => (h.lensMove_isoKept p _ _).laws lh) e l
  | lensStop r axis => exact State.take_laws (forPort_laws fun p h lh => (h.lensStop_isoKept p axis).laws lh) e l
  | focusTableLoad r stop zoom points =>
    exact State.take_laws (forPort_laws fun p h lh => lh.of_items (h.focusTableLoad_isoItems p _ _ _)) e l
  | lensFocusDistance r d =>
    exact State.take_laws (forPort_laws fun p h lh => (h.lensFocusDistance_isoKept p d).laws lh) e l
  | lensRead r => exact State.take_laws (forPort_laws fun _ _ lh => lh) e l
  | encoderStep a b => exact State.event_laws e (l.of_items (by simp [Hub.isoItems]))
  | triggerTimeout p => exact State.when_laws e l fun _ => l.of_items (Hub.triggerTimeout_isoItems _ p)
  | triggerLineRise n => exact State.when_laws e l fun _ => l.of_items rfl
  | triggerLineFall n => exact State.when_laws e l fun _ => l.of_items rfl
  | filterTimeEnd n => exact State.when_laws e l fun _ => l.of_items (Hub.fireLine_isoItems _ n)
  | encoderSet r value => exact State.take_laws (forHub_laws fun h lh => lh.of_items (h.encoderSet_isoItems value)) e l
  | triggerLineSet r line filter =>
    exact State.take_laws (forHub_laws fun h lh => lh.of_items (h.triggerLineSet_isoItems _ _)) e l
  | triggerSet r source pitch phase direction policy timeout =>
    exact State.take_laws (forPort_laws fun p h lh => lh.of_items (h.triggerSet_isoItems p _ _ _ _ _ _)) e l
  | triggerSoft r mask => exact State.take_laws (forHub_laws fun h lh => lh.of_items (h.triggerSoft_isoItems mask)) e l
  | triggerRead r => exact State.take_laws (forEither_laws fun _ _ lh => lh) e l
  | cableTypeSet r type speed polarity threshold =>
    exact State.take_laws (forHub_laws fun h lh => (h.cableTypeSet_isoKept _ _ _ _).laws lh) e l
  | portCableSet r type length tolerance offset =>
    exact State.take_laws (forPort_laws fun p h lh => (h.portCableSet_isoKept p _ _ _ _).laws lh) e l
  | autoSweepSet r flags sweep =>
    exact State.take_laws (forPort_laws fun p h lh => (h.autoSweepSet_isoKept p _ _).laws lh) e l
  | sweepRequest r sweep first =>
    exact State.take_laws (forPort_laws fun p h lh => (h.sweepRequest_isoKept p _ _).laws lh) e l
  | settlingEnd n => exact execSettlingEnd_laws e l
  | shot n trace => exact execShot_laws e l
  | repeatIntervalEnd n => exact execRepeatIntervalEnd_laws e l
  | sweepCancel r => exact State.take_laws (forPort_laws fun p h lh => (h.cancelSweep_isoKept p).laws lh) e l
  | faultClear r => exact State.take_laws (forPort_laws fun p h lh => h.faultClear_laws p lh) e l
  | faultRead r => exact State.take_laws (forEither_laws fun _ _ lh => lh) e l
  | ringSet r start length timeout =>
    exact State.take_laws (forPort_laws fun p h lh => lh.of_items (h.ringSet_isoItems p _ _ _)) e l
  | frameHold r number => exact State.take_laws (forPort_laws fun p h lh => lh.of_items (h.frameHold_isoItems p _)) e l
  | frameRelease r number =>
    exact State.take_laws (forPort_laws fun p h lh => lh.of_items (h.frameRelease_isoItems p _)) e l
  | frameList r => exact State.take_laws (forPort_laws fun _ _ lh => lh) e l
  | viewLoad r view params => exact State.take_laws (forHub_laws fun h lh => lh.of_items (h.viewLoad_isoItems _ _)) e l
  | viewBind r view => exact State.take_laws (forPort_laws fun p h lh => lh.of_items (h.viewBind_isoItems p _)) e l
  | viewUnbind r => exact State.take_laws (forPort_laws fun _ _ lh => lh.of_items rfl) e l
  | coefSelect r table => exact State.take_laws (forHub_laws fun h lh => lh.of_items (h.coefSelect_isoItems _)) e l
  | coefWrite r values => exact State.take_laws (forHub_laws fun h lh => lh.of_items (h.coefWrite_isoItems _)) e l
  | frameResend r number view =>
    exact State.take_laws (forPort_laws fun p h lh => lh.of_items (h.frameResend_isoItems s.dram p _ _)) e l
  | pipeReset r => exact State.take_laws (forPort_laws fun p h lh => lh.of_items (h.pipeReset_isoItems p)) e l
  | egressSet r settings =>
    exact State.take_laws (forEither_laws fun p h lh => lh.of_items (h.egressSet_isoItems settings p)) e l

/-- Settles O9: every command keeps both laws, and a microsecond of hub time changes neither isolation nor power. -/
theorem isolationFollowsFaults : Obligations.IsolationFollowsFaults := by
  intro s t listed holds e
  unfold step at e
  split at e
  case h_1 =>
    cases e
    exact Hub.IsolationLaws.of_items (h := s.hub) rfl ⟨listed, holds⟩
  case h_2 i rest _ => exact exec_isolationLaws i { s with pending := rest } t e ⟨listed, holds⟩

end Sys2Proof.Machine

/-! # The reading requests -/

namespace Sys2Proof.Machine

/-! ## Reads (R13, R36, R83, R104, R121, R136, R175): what they return does not depend on the request queue -/

@[simp] theorem Hub.popRequest_portBytes (h : Hub) (p : Port) : h.popRequest.portBytes p = h.portBytes p := rfl
@[simp] theorem Hub.popRequest_lensBytes (h : Hub) (p : Port) : h.popRequest.lensBytes p = h.lensBytes p := rfl
@[simp] theorem Hub.popRequest_triggerBytes (h : Hub) (p : Option Port) : h.popRequest.triggerBytes p = h.triggerBytes p := by
  cases p <;> rfl
@[simp] theorem Hub.popRequest_faultReadBytes (h : Hub) (p : Option Port) :
    h.popRequest.faultReadBytes p = h.faultReadBytes p := by cases p <;> rfl

/-- Settles O22: each reading request is taken by an owner that leaves the hub as it finds it. -/
theorem readsAnswerAndChangeNothing : Obligations.ReadsAnswerAndChangeNothing := by
  intro s r pkt p
  refine ⟨?identify, ?timeRead, ?portRead, ?dropHistoryRead, ?lensRead, ?triggerReadHub, ?triggerReadPort, ?faultReadHub,
    ?faultReadPort, ?frameList⟩ <;> intro asked
  case identify => exact State.answers_forHub rfl rfl asked rfl
  case timeRead => exact State.answers_forHub rfl rfl asked (by simp)
  case portRead => exact State.answers_forPort rfl rfl asked (by simp)
  case dropHistoryRead => exact State.answers_forPort rfl rfl asked (by simp)
  case lensRead => exact State.answers_forPort rfl rfl asked (by simp)
  case triggerReadHub => exact State.answers_forEither_hub rfl rfl asked (by simp)
  case triggerReadPort => exact State.answers_forEither_port rfl rfl asked (by simp)
  case faultReadHub => exact State.answers_forEither_hub rfl rfl asked (by simp)
  case faultReadPort => exact State.answers_forEither_port rfl rfl asked (by simp)
  case frameList => exact State.answers_forPort rfl rfl asked (by simp)

end Sys2Proof.Machine

/-! # The cold reset -/

namespace Sys2Proof.Machine

/-! ## The hub after a cold reset, one unit at a time (R2) -/

section
variable (h : Hub)

@[simp] theorem Hub.coldReset_time : h.coldReset.time = 0 := rfl
@[simp] theorem Hub.coldReset_requestedIso (p : Port) : vget h.coldReset.requestedIso p = false := vget_replicate _ p
@[simp] theorem Hub.coldReset_pw (p : Port) : h.coldReset.pw p = {} := vget_replicate _ p
@[simp] theorem Hub.coldReset_cell : h.coldReset.cell = {} := rfl
@[simp] theorem Hub.coldReset_lk (p : Port) : h.coldReset.lk p = {} := vget_replicate _ p
@[simp] theorem Hub.coldReset_cb (p : Port) : h.coldReset.cb p = {} := vget_replicate _ p
@[simp] theorem Hub.coldReset_cables : h.coldReset.cables = {} := rfl
@[simp] theorem Hub.coldReset_engine (e : EngineNo) : h.coldReset.engine e = none := vget_replicate _ e
@[simp] theorem Hub.coldReset_ln (p : Port) : h.coldReset.ln p = {} := vget_replicate _ p
@[simp] theorem Hub.coldReset_ax (p : Port) (x : AxisId) : h.coldReset.ax p x = {} := by
  cases x <;> simp [Hub.ax, PortLens.axis]
@[simp] theorem Hub.coldReset_encoder : h.coldReset.encoder = { a := h.encoder.a, b := h.encoder.b } := rfl
@[simp] theorem Hub.coldReset_line (l : LineNo) :
    h.coldReset.line l = { input := (h.line l).input, level := (h.line l).input } := by
  simp [Hub.coldReset, Hub.line, vget]
@[simp] theorem Hub.coldReset_tg (p : Port) : h.coldReset.tg p = {} := vget_replicate _ p
@[simp] theorem Hub.coldReset_fr (p : Port) : h.coldReset.fr p = {} := vget_replicate _ p
@[simp] theorem Hub.coldReset_view : h.coldReset.view = {} := rfl
@[simp] theorem Hub.coldReset_pl (p : Port) : h.coldReset.pl p = {} := vget_replicate _ p
@[simp] theorem Hub.coldReset_trunk : h.coldReset.trunk = {} := rfl
@[simp] theorem Hub.coldReset_mgmt : h.coldReset.mgmt = {} := rfl
@[simp] theorem Hub.coldReset_effectiveIso (p : Port) : h.coldReset.effectiveIso p = false := by simp [Hub.effectiveIso]
@[simp] theorem Hub.coldReset_grantedTotal : h.coldReset.grantedTotal = 0 := by
  simp [Hub.grantedTotal, allPorts, PortPower.drawn, PortPower.powered]
@[simp] theorem Hub.coldReset_admissionTotal : h.coldReset.admissionTotal = 0 := by
  simp [Hub.admissionTotal, allPorts]

/-- A cold reset ends its event as it is: nothing is sent, and requests may be taken. -/
@[simp] theorem Hub.coldReset_settle (m : Memory) : h.coldReset.settle m = h.coldReset := rfl

end

/-- Table 8-4's linear coefficients, as the signed values of the 32 bytes. -/
theorem CoefTable.linear_toInt : CoefTable.linear.toList.map BitVec.toInt =
    [0, 64, 0, 0, 0, 56, 8, 0, 0, 48, 16, 0, 0, 40, 24, 0, 0, 32, 32, 0, 0, 24, 40, 0, 0, 16, 48, 0, 0, 8, 56, 0] := by decide

theorem Hub.coldReset_atColdReset (h : Hub) : h.coldReset.AtColdReset := by
  simp [Hub.AtColdReset, CoefTable.linear_toInt]

/-- The machine starts as a cold reset leaves a hub whose pins are low. -/
theorem State.reset_eq_coldReset : State.reset.hub = State.reset.hub.coldReset := by
  simp [State.reset, Hub.coldReset]

/-- Settles O2: a cold reset leaves every unit at the values of its table, and the machine starts as one leaves it. -/
theorem coldResetSetsEveryUnit : Obligations.ColdResetSetsEveryUnit := by
  refine ⟨⟨?_, rfl, rfl⟩, fun s => ⟨s.event Hub.coldReset, rfl, ?_⟩⟩
  · rw [State.reset_eq_coldReset]
    exact Hub.coldReset_atColdReset _
  · simp [Hub.coldReset_atColdReset]

end Sys2Proof.Machine

/-! # Pass-through slots over an event that drops a link -/

namespace Sys2Proof.Machine

/-! ## Slots and the reply queue over an event (R158, R171)

Between two hubs of one event the reply queue only grows, and a slot changes in two ways: an ANSWERED one is freed as its
kept reply is offered, and, where the port it waits on drops, a WAITING one is answered with LINK_DOWN. -/

/-- The LINK_DOWN reply of a slot that waits on a port (R171). -/
def linkDownReply (p : Port) (tag : BitVec 16) (kind : PassKind) : Packet :=
  replyPacket (BitVec.ofNat 8 p.val) tag (u16 (codeNumber (passCode kind))) (refuse .linkDown)

/-- What a slot may have become between two hubs of an event, the port given having dropped or none. -/
inductive Hub.SlotPass (h h' : Hub) (dropped : Option Port) (i : SlotNo) : Prop where
  | same (e : vget h'.mgmt.slots i = vget h.mgmt.slots i)
  | freed (reply : Packet) (was : vget h.mgmt.slots i = .answered reply) (now : vget h'.mgmt.slots i = .free)
      (sent : h.trunk.up = true → reply ∈ h'.trunk.replies.drop h.trunk.replies.length)
  | answered (p : Port) (tag : BitVec 16) (kind : PassKind) (attr : BitVec 8) (deadline : HubTime) (drop : dropped = some p)
      (was : vget h.mgmt.slots i = .waiting tag p kind attr deadline) (now : h.SlotAnswered h' i (linkDownReply p tag kind))

/-- Between two hubs of an event the trunk's state stays, the reply queue grows, and the slots pass. -/
structure Hub.SlotsPass (h h' : Hub) (dropped : Option Port) : Prop where
  up : h'.trunk.up = h.trunk.up
  grows : h.trunk.replies <+: h'.trunk.replies
  slot : ∀ i, h.SlotPass h' dropped i

/-- A reply that joined the queue earlier in the event has joined it at the end. -/
theorem mem_drop_of_mem_drop {a b c : List Packet} {x : Packet} (hbc : b <+: c) (m : x ∈ b.drop a.length) :
    x ∈ c.drop a.length := by
  obtain ⟨more, rfl⟩ := hbc
  rw [List.drop_append]
  exact List.mem_append_left _ m

/-- A reply that joined the queue later in the event has joined it over the whole event. -/
theorem mem_drop_of_mem_drop_later {a b c : List Packet} {x : Packet} (hab : a <+: b) (m : x ∈ c.drop b.length) :
    x ∈ c.drop a.length :=
  (List.drop_sublist_drop_left c hab.length_le).mem m

theorem Hub.SlotsPass.of_same {h h' : Hub} {d : Option Port}
    (e : h'.trunk.up = h.trunk.up ∧ h'.trunk.replies = h.trunk.replies ∧ h'.mgmt.slots = h.mgmt.slots) : h.SlotsPass h' d :=
  ⟨e.1, by rw [e.2.1], fun i => .same (by rw [e.2.2])⟩

theorem Hub.SlotsPass.refl (h : Hub) (d : Option Port) : h.SlotsPass h d := .of_same ⟨rfl, rfl, rfl⟩

/-- A reply that is answered for a slot stays so to the end of the event. -/
theorem Hub.SlotAnswered.later {a b c : Hub} {d : Option Port} {i : SlotNo} {reply : Packet} (s : a.SlotAnswered b i reply)
    (up : b.trunk.up = a.trunk.up) (grows : a.trunk.replies <+: b.trunk.replies) (k : b.SlotsPass c d) :
    a.SlotAnswered c i reply := by
  obtain ⟨whenUp, whenDown⟩ := s
  refine ⟨fun hu => ?_, fun hd => ?_⟩
  · rcases whenUp hu with ⟨free, sent⟩ | kept
    · cases k.slot i with
      | same e => exact .inl ⟨e.trans free, mem_drop_of_mem_drop k.grows sent⟩
      | freed r was => rw [free] at was; cases was
      | answered p tag kind attr deadline drop was => rw [free] at was; cases was
    · cases k.slot i with
      | same e => exact .inr (e.trans kept)
      | freed r was now sent =>
        rw [kept] at was
        cases was
        exact .inl ⟨now, mem_drop_of_mem_drop_later grows (sent (up.trans hu))⟩
      | answered p tag kind attr deadline drop was => rw [kept] at was; cases was
  · have free := whenDown hd
    cases k.slot i with
    | same e => exact e.trans free
    | freed r was => rw [free] at was; cases was
    | answered p tag kind attr deadline drop was => rw [free] at was; cases was

/-- A slot answered later in the event, unchanged before, is answered over the whole event. -/
theorem Hub.SlotAnswered.earlier {a b c : Hub} {i : SlotNo} {reply : Packet} (s : b.SlotAnswered c i reply)
    (up : b.trunk.up = a.trunk.up) (grows : a.trunk.replies <+: b.trunk.replies) : a.SlotAnswered c i reply := by
  obtain ⟨whenUp, whenDown⟩ := s
  refine ⟨fun hu => (whenUp (up.trans hu)).imp (fun now => ⟨now.1, mem_drop_of_mem_drop_later grows now.2⟩) id, fun hd => ?_⟩
  exact whenDown (up.trans hd)

theorem Hub.SlotsPass.trans {a b c : Hub} {d : Option Port} (h : a.SlotsPass b d) (k : b.SlotsPass c d) : a.SlotsPass c d where
  up := k.up.trans h.up
  grows := h.grows.trans k.grows
  slot i := by
    cases h.slot i with
    | same e =>
      cases k.slot i with
      | same e' => exact .same (e'.trans e)
      | freed r was now sent =>
        exact .freed r (e.symm.trans was) now fun hu => mem_drop_of_mem_drop_later h.grows (sent (h.up.trans hu))
      | answered p tag kind attr deadline drop was now =>
        exact .answered p tag kind attr deadline drop (e.symm.trans was) (now.earlier h.up h.grows)
    | freed r was now sent =>
      cases k.slot i with
      | same e => exact .freed r was (e.trans now) fun hu => mem_drop_of_mem_drop k.grows (sent hu)
      | freed r' was' => rw [now] at was'; cases was'
      | answered p tag kind attr deadline drop was' => rw [now] at was'; cases was'
    | answered p tag kind attr deadline drop was now =>
      exact .answered p tag kind attr deadline drop was (now.later h.up h.grows k)

theorem Hub.SlotsPass.foldl {α : Type} {d : Option Port} {f : Hub → α → Hub} (one : ∀ (h : Hub) (x : α), h.SlotsPass (f h x) d) :
    ∀ (l : List α) (h : Hub), h.SlotsPass (l.foldl f h) d
  | [], h => .refl h d
  | x :: l, h => (one h x).trans (Hub.SlotsPass.foldl one l (f h x))

/-- A slot that does not wait on a port does not come to wait on it. -/
theorem Hub.SlotsPass.waitsOn {h h' : Hub} {d : Option Port} (k : h.SlotsPass h' d) {i : SlotNo} {p : Port}
    (w : (vget h.mgmt.slots i).waitsOn p = false) : (vget h'.mgmt.slots i).waitsOn p = false := by
  cases k.slot i with
  | same e => rw [e]; exact w
  | freed r was now => rw [now]; rfl
  | answered q tag kind attr deadline drop was now =>
    obtain ⟨whenUp, whenDown⟩ := now
    cases hu : h.trunk.up with
    | true => rcases whenUp hu with ⟨free, -⟩ | kept <;> simp only [*, Slot.waitsOn]
    | false => rw [whenDown hu]; rfl

/-! ## Offers -/

theorem Hub.offerAnswered_slotsPass (h : Hub) (d : Option Port) : h.SlotsPass h.offerAnswered d := by
  unfold Hub.offerAnswered
  split
  · exact .refl h d
  case h_2 i rest _ =>
    split
    case h_1 reply kept =>
      have others (x : Hub) (up : x.trunk.up = h.trunk.up) (grows : h.trunk.replies <+: x.trunk.replies)
          (slots : x.mgmt.slots = vset h.mgmt.slots i .free)
          (sent : h.trunk.up = true → reply ∈ x.trunk.replies.drop h.trunk.replies.length) : h.SlotsPass x d :=
        ⟨up, grows, fun j => by
          by_cases e : j = i
          · subst e; exact .freed reply kept (by simp [slots]) sent
          · exact .same (by simp [slots, vget_vset_ne, e])⟩
      unfold Hub.offerReply
      by_cases hu : h.trunk.up = true
      · by_cases room : h.replyRoom = true
        · simp only [hu, room, if_true, reduceCtorEq, if_false]
          exact others _ rfl ⟨[reply], rfl⟩ rfl fun _ => by simp [Hub.setSlot]
        · simp only [hu, room, if_true, Bool.false_eq_true, if_false]
          exact .refl h d
      · simp only [hu, Bool.false_eq_true, if_false, reduceCtorEq]
        exact others _ rfl (List.prefix_refl _) rfl fun hu' => absurd hu' hu
    · exact .of_same ⟨rfl, rfl, rfl⟩

theorem Hub.offerDue_slotsPass (h : Hub) (d : Option Port) : h.SlotsPass h.offerDue d :=
  Hub.SlotsPass.foldl (fun h _ => h.offerAnswered_slotsPass d) _ h

theorem Hub.offerReply_slotsPass (h : Hub) (pkt : Packet) (d : Option Port) : h.SlotsPass (h.offerReply pkt).1 d := by
  unfold Hub.offerReply
  split
  · split
    · exact ⟨rfl, ⟨[pkt], rfl⟩, fun _ => .same rfl⟩
    · exact .refl h d
  · exact .of_same ⟨rfl, rfl, rfl⟩

theorem Hub.raise_slotsPass (h : Hub) (p : Port) (port part : BitVec 16) (d : Option Port) :
    h.SlotsPass (h.raise p port part) d := by
  refine Hub.SlotsPass.trans (b := h.setFlags p port part) (.of_same ⟨rfl, rfl, rfl⟩) ?_
  unfold Hub.raise Hub.noticeFor
  split
  · exact .refl _ d
  · unfold Hub.offerNotice
    dsimp only
    have offered := (Hub.offerDue_slotsPass (h.setFlags p port part) d).trans (Hub.offerReply_slotsPass _
      (h.setFlags p port part).noticePacket d)
    split
    · exact offered.trans (.of_same ⟨rfl, rfl, rfl⟩)
    · exact offered

theorem Hub.flag_slotsPass (h : Hub) (p : Port) (f : BitVec 16) (d : Option Port) : h.SlotsPass (h.flag p f) d :=
  h.raise_slotsPass p f 0 d

/-- A slot that waits on the port that drops is answered with LINK_DOWN (R171). -/
theorem Hub.answerSlot_slotsPass (h : Hub) (i : SlotNo) (p : Port) (w : (vget h.mgmt.slots i).waitsOn p = true) :
    h.SlotsPass (h.answerSlot i .linkDown []) (some p) ∧
      (vget (h.answerSlot i .linkDown []).mgmt.slots i).waitsOn p = false := by
  cases hs : vget h.mgmt.slots i with
  | free => simp [hs, Slot.waitsOn] at w
  | answered r => simp [hs, Slot.waitsOn] at w
  | waiting tag q kind attr deadline =>
    obtain rfl : q = p := by simpa [hs, Slot.waitsOn] using w
    have due := h.offerDue_slotsPass (some q)
    have still : vget h.offerDue.mgmt.slots i = .waiting tag q kind attr deadline := by
      cases (h.offerDue_slotsPass none).slot i with
      | same e => rw [e, hs]
      | freed r was => rw [hs] at was; cases was
      | answered p tag kind attr deadline drop => cases drop
    simp only [Hub.answerSlot, hs, Hub.offerSlotReply]
    generalize h.offerDue = k at due still
    have ends (x : Hub) (y : Slot) (up : x.trunk.up = k.trunk.up) (grows : k.trunk.replies <+: x.trunk.replies)
        (slots : x.mgmt.slots = vset k.mgmt.slots i y) (waits : y.waitsOn q = false)
        (now : k.SlotAnswered x i (linkDownReply q tag kind)) :
        h.SlotsPass x (some q) ∧ (vget x.mgmt.slots i).waitsOn q = false := by
      refine ⟨due.trans ⟨up, grows, fun j => ?_⟩, by rw [slots, vget_vset_same]; exact waits⟩
      by_cases e : j = i
      · subst e; exact .answered q tag kind attr deadline rfl still now
      · exact .same (by simp [slots, vget_vset_ne, e])
    unfold Hub.offerReply
    by_cases hu : k.trunk.up = true
    · by_cases room : k.replyRoom = true
      · simp only [hu, room, if_true, reduceCtorEq, if_false]
        refine ends _ .free rfl ⟨_, rfl⟩ rfl rfl ⟨fun _ => .inl ⟨?_, ?_⟩, fun hd => ?_⟩
        · simp [Hub.setSlot]
        · simp [Hub.setSlot, linkDownReply, refuse]
        · simp [hu] at hd
      · simp only [hu, room, if_true, Bool.false_eq_true, if_false]
        refine ends _ _ rfl (List.prefix_refl _) rfl rfl ⟨fun _ => .inr ?_, fun hd => ?_⟩
        · simp [Hub.setSlot, linkDownReply, refuse]
        · simp [hu] at hd
    · simp only [hu, Bool.false_eq_true, if_false, reduceCtorEq]
      refine ends _ .free rfl (List.prefix_refl _) rfl rfl ⟨fun hu' => absurd hu' hu, fun _ => ?_⟩
      simp [Hub.setSlot]

/-! ## A drop at the slots -/

theorem Slot.waitsOn_of_waitsFor {x : Slot} {p : Port} {attr : BitVec 8} (w : x.waitsFor p attr = true) : x.waitsOn p = true := by
  cases x with
  | waiting tag q kind a deadline =>
    simp only [Slot.waitsFor, Bool.and_eq_true] at w
    exact w.1
  | free | answered r => cases w

theorem Hub.completeSlot_slotsPass (h : Hub) (i : SlotNo) (p : Port) (attr : BitVec 8) :
    h.SlotsPass (h.completeSlot i p attr .linkDown) (some p) := by
  unfold Hub.completeSlot
  split
  case isTrue w => exact (h.answerSlot_slotsPass i p (Slot.waitsOn_of_waitsFor w)).1
  case isFalse => exact .refl h _

theorem Hub.completeCommand_slotsPass (h : Hub) (p : Port) (c : Command) :
    h.SlotsPass (h.completeCommand p c .linkDown) (some p) := by
  cases c with
  | attrRead slot attr address count => exact h.completeSlot_slotsPass slot p attr
  | attrWrite slot attr address words => exact h.completeSlot_slotsPass slot p attr
  | lensMove x target | lensHome x | lensStop x =>
    simp only [Hub.completeCommand, Hub.completeLens_linkDown]
    exact .of_same ⟨rfl, rfl, rfl⟩

/-- One slot's turn in a drop. -/
def Hub.dropSlot (h : Hub) (p : Port) (i : SlotNo) : Hub :=
  if (vget h.mgmt.slots i).waitsOn p then h.answerSlot i .linkDown [] else h

theorem Hub.dropSlots_eq (h : Hub) (p : Port) : h.dropSlots p = allSlots.foldl (fun h i => h.dropSlot p i) h := rfl

theorem Hub.dropSlot_slotsPass (h : Hub) (p : Port) (i : SlotNo) :
    h.SlotsPass (h.dropSlot p i) (some p) ∧ (vget (h.dropSlot p i).mgmt.slots i).waitsOn p = false := by
  unfold Hub.dropSlot
  split
  case isTrue w => exact h.answerSlot_slotsPass i p w
  case isFalse w => exact ⟨.refl h _, by simpa using w⟩

theorem dropSlots_foldl_slotsPass (p : Port) (l : List SlotNo) (h : Hub) :
    h.SlotsPass (l.foldl (fun h i => h.dropSlot p i) h) (some p) :=
  Hub.SlotsPass.foldl (fun h i => (h.dropSlot_slotsPass p i).1) l h

/-- After the slots' turns no slot of the list waits on the port. -/
theorem dropSlots_foldl_none (p : Port) (l : List SlotNo) (h : Hub) (i : SlotNo) (m : i ∈ l) :
    (vget (l.foldl (fun h i => h.dropSlot p i) h).mgmt.slots i).waitsOn p = false := by
  induction l generalizing h with
  | nil => cases m
  | cons j l ih =>
    rw [List.foldl_cons]
    rcases List.mem_cons.mp m with rfl | m
    · exact (dropSlots_foldl_slotsPass p l _).waitsOn (h.dropSlot_slotsPass p i).2
    · exact ih (h.dropSlot p j) m

theorem Hub.dropSlots_slotsPass (h : Hub) (p : Port) : h.SlotsPass (h.dropSlots p) (some p) := by
  rw [Hub.dropSlots_eq]
  exact dropSlots_foldl_slotsPass p allSlots h

/-- After the drop no slot waits on the port (R171). -/
theorem Hub.dropSlots_none (h : Hub) (p : Port) (i : SlotNo) : (vget (h.dropSlots p).mgmt.slots i).waitsOn p = false := by
  rw [Hub.dropSlots_eq]
  exact dropSlots_foldl_none p allSlots h i (by revert i; decide)

/-- Where no slot waits on the dropped port at the end of the event, each that did has produced its reply. -/
theorem Hub.SlotsPass.slotsDropped {h h' : Hub} {p : Port} (k : h.SlotsPass h' (some p))
    (ended : ∀ i, (vget h'.mgmt.slots i).waitsOn p = false) : h.SlotsDropped h' p := by
  refine ⟨ended, fun i tag kind attr deadline was => ?_⟩
  cases k.slot i with
  | same e =>
    have := ended i
    simp [e, was, Slot.waitsOn] at this
  | freed r was' => rw [was] at was'; cases was'
  | answered q tag' kind' attr' deadline' drop was' now =>
    rw [was] at was'
    cases was'
    exact now

/-! ## A drop's other units at the slots: they offer notices alone -/

section
variable {h h' : Hub} {p : Port} {f : BitVec 16} {d : Option Port}

theorem Hub.flag_slotsPass_of_same
    (e : h'.trunk.up = h.trunk.up ∧ h'.trunk.replies = h.trunk.replies ∧ h'.mgmt.slots = h.mgmt.slots) :
    h.SlotsPass (h'.flag p f) d := (Hub.SlotsPass.of_same e).trans (h'.flag_slotsPass p f d)

theorem Hub.releaseDeferred_slotsPass : h.SlotsPass (h.releaseDeferred p) d := by
  unfold Hub.releaseDeferred
  split
  · split
    · exact .of_same ⟨rfl, rfl, rfl⟩
    · exact Hub.flag_slotsPass_of_same ⟨rfl, rfl, rfl⟩
  · exact .refl h d

theorem Hub.reportIdle_slotsPass : h.SlotsPass (h.reportIdle p) d := by
  unfold Hub.reportIdle
  split
  · exact .refl h d
  · exact Hub.SlotsPass.trans (b := h.modPower p fun q => { q with allowanceHeld := false }) (.of_same ⟨rfl, rfl, rfl⟩)
      Hub.releaseDeferred_slotsPass

theorem Hub.dropLens_slotsPass : h.SlotsPass (h.dropLens p) d := by
  unfold Hub.dropLens
  dsimp only
  split
  · refine Hub.SlotsPass.trans ?_ Hub.reportIdle_slotsPass
    exact Hub.flag_slotsPass_of_same ⟨rfl, rfl, rfl⟩
  · exact .refl h d

theorem Hub.dropTrigger_slotsPass : h.SlotsPass (h.dropTrigger p) d := by
  unfold Hub.dropTrigger
  split
  · exact Hub.flag_slotsPass_of_same ⟨rfl, rfl, rfl⟩
  · exact .of_same ⟨rfl, rfl, rfl⟩
  · exact .refl h d

theorem Hub.dropFrame_slotsPass : h.SlotsPass (h.dropFrame p) d := by
  unfold Hub.dropFrame
  split
  · exact .of_same ⟨rfl, rfl, rfl⟩
  · exact Hub.flag_slotsPass_of_same ⟨rfl, rfl, rfl⟩

end

theorem completions_slotsPass (p : Port) (l : List Command) (h : Hub) :
    h.SlotsPass (l.foldl (fun h c => h.completeCommand p c .linkDown) h) (some p) :=
  Hub.SlotsPass.foldl (fun h c => h.completeCommand_slotsPass p c) l h

theorem Hub.modLink_slotsPass (h : Hub) (p : Port) (f : LinkCtl → LinkCtl) (d : Option Port) :
    h.SlotsPass (h.modLink p f) d := .of_same ⟨rfl, rfl, rfl⟩

theorem Hub.dropStart_slotsPass (h : Hub) (p : Port) (cause : DropCause) (enter : LinkCtl → LinkCtl) :
    h.SlotsPass (h.dropStart p cause enter) (some p) :=
  (((h.modLink_slotsPass p _ _).trans (completions_slotsPass p _ _)).trans (Hub.modLink_slotsPass _ p _ _)).trans
    (Hub.flag_slotsPass _ p _ _)

/-- A drop at the reply queue and the slots (R22, R171). -/
theorem Hub.drop_slotsPass (h : Hub) (p : Port) (cause : DropCause) (enter : LinkCtl → LinkCtl) :
    h.SlotsPass (h.drop p cause enter) (some p) ∧ ∀ i, (vget (h.drop p cause enter).mgmt.slots i).waitsOn p = false := by
  rw [Hub.drop_eq]
  exact ⟨((((h.dropStart_slotsPass p cause enter).trans Hub.dropLens_slotsPass).trans Hub.dropTrigger_slotsPass).trans
      Hub.dropFrame_slotsPass).trans (Hub.dropSlots_slotsPass _ p), Hub.dropSlots_none _ p⟩

end Sys2Proof.Machine

/-! # A link drop with all its consequences -/

namespace Sys2Proof.Machine

/-! ## A drop at its port (R22, R97, R119, R131), in the words of LinkDropped -/

/-- What a drop's new state does to the link items (R20, R21): the link is not established, and what the drop has emptied and
counted stays. -/
def LinkCtl.Enters (enter : LinkCtl → LinkCtl) : Prop :=
  ∀ l, (enter l).established = false ∧ (enter l).history = l.history ∧ (enter l).drops = l.drops ∧ (enter l).queue = l.queue ∧
    (enter l).sendCount = l.sendCount ∧ (enter l).ackWait = l.ackWait ∧ (enter l).pendingTrigger = l.pendingTrigger ∧
    (enter l).testCount = l.testCount ∧ (enter l).context = l.context

theorem LinkCtl.powerLost_enters : LinkCtl.Enters LinkCtl.powerLost := fun _ => ⟨rfl, rfl, rfl, rfl, rfl, rfl, rfl, rfl, rfl⟩

/-- A history within its bound takes a record as R22 says. -/
theorem LinkCtl.historyWith_eq {l : LinkCtl} {r : DropRecord} (bounded : l.history.length ≤ 16) :
    appendBounded 16 l.history r = l.historyWith r := by
  unfold appendBounded LinkCtl.historyWith
  by_cases full : l.history.length = 16
  · simp [full, List.drop_one]
  · rw [if_neg full, if_neg (by omega)]

section
variable (h : Hub) (p : Port) (cause : DropCause) (enter : LinkCtl → LinkCtl)

/-- Before the units are told, the axes have lost at most pending commands. -/
theorem Hub.dropStart_bare (x : AxisId) : ((h.dropStart p cause enter).ax p x).bare = (h.ax p x).bare := by
  have flushed := completions_bare p x (h.lk p).queue (h.modLink p fun l =>
    { l with
      history := appendBounded 16 l.history (h.dropRecord p cause), drops := l.drops + 1, testCount := 0
      pendingTrigger := none, queue := [], sendCount := 0, ackWait := none, waitEnded := false })
  simpa [Hub.dropStart, Hub.ax, Hub.ln] using flushed

theorem Hub.anyMotion_of_bare {h h' : Hub} {p : Port} (e : ∀ x, (h'.ax p x).bare = (h.ax p x).bare) :
    (h'.ln p).anyMotion = (h.ln p).anyMotion := by
  have moving (x : AxisId) : (h'.ax p x).moving = (h.ax p x).moving := (moving_of_bare (e x)).1
  have f := moving .focus
  have z := moving .zoom
  have i := moving .iris
  simp only [Hub.ax, PortLens.axis] at f z i
  simp only [PortLens.anyMotion, f, z, i]

theorem Hub.dropStart_anyMotion : ((h.dropStart p cause enter).ln p).anyMotion = (h.ln p).anyMotion :=
  Hub.anyMotion_of_bare (h.dropStart_bare p cause enter)

theorem Hub.dropStart_fLink : vget (h.dropStart p cause enter).mgmt.portFlags p &&& fLink = fLink := Hub.flag_has _ p fLink

/-- The four units told of a drop only add to the flags. -/
theorem Hub.drop_keeps_flag {f : BitVec 16} (has : vget (h.dropStart p cause enter).mgmt.portFlags p &&& f = f) :
    vget (h.drop p cause enter).mgmt.portFlags p &&& f = f := by
  rw [Hub.drop_eq]
  exact (Hub.dropSlots_grow (Hub.dropFrame_grow (Hub.dropTrigger_grow (Hub.dropLens_grow (.refl _))))).1 p f has

end

/-! ### The lens -/

/-- With no axis in motion the report releases the allowance (R86). -/
theorem Hub.reportIdle_allowance {h : Hub} {p : Port} (still : (h.ln p).anyMotion = false) :
    ((h.reportIdle p).pw p).allowanceHeld = false := by
  simp [Hub.reportIdle, still, Hub.pw]

/-- With no axis in motion and the link not established, the report loses a deferred trigger with TRIG_LOST (R116). -/
theorem Hub.reportIdle_trigLost {h : Hub} {p : Port} {fired : FiredAt} (still : (h.ln p).anyMotion = false)
    (down : (h.lk p).established = false) (hand : (h.tg p).hand = .deferred fired) :
    vget (h.reportIdle p).mgmt.portFlags p &&& fTrigLost = fTrigLost := by
  simp only [Hub.reportIdle, still, Bool.false_eq_true, if_false, Hub.releaseDeferred, Hub.modPower_tg, hand, Hub.modPower_lk,
    down]
  exact Hub.flag_has _ p fTrigLost

/-- The lens of a port after a drop (R97): an axis in motion is lost with LINK. -/
def PortLens.dropped (l : PortLens) : PortLens :=
  { l with
    focus := if l.focus.moving then { l.focus.lost .link with pending := 0 } else l.focus
    zoom := if l.zoom.moving then { l.zoom.lost .link with pending := 0 } else l.zoom
    iris := if l.iris.moving then { l.iris.lost .link with pending := 0 } else l.iris }

theorem Hub.dropLens_of_motion {h : Hub} {p : Port} (motion : (h.ln p).anyMotion = true) :
    h.dropLens p = ((h.modLens p PortLens.dropped).flag p fLensFault).reportIdle p := by
  rw [Hub.dropLens, if_pos motion]
  rfl

theorem Hub.dropLens_of_still {h : Hub} {p : Port} (still : (h.ln p).anyMotion = false) : h.dropLens p = h := by
  rw [Hub.dropLens, still]
  rfl

theorem PortLens.dropped_still (l : PortLens) : l.dropped.anyMotion = false := by
  have one (a : Axis) : (if a.moving then { a.lost .link with pending := 0 } else a : Axis).moving = false := by
    split
    · rfl
    case isFalse still => simpa using still
  simp only [PortLens.anyMotion, PortLens.dropped, one, Bool.or_false]

/-- What a drop leaves of a lens in motion, before the report. -/
theorem Hub.dropped_ln (h : Hub) (p : Port) :
    ((h.modLens p PortLens.dropped).flag p fLensFault).ln p = (h.ln p).dropped := by
  simp [Hub.ln]

theorem Hub.dropLens_still (h : Hub) (p : Port) : ((h.dropLens p).ln p).anyMotion = false := by
  cases motion : (h.ln p).anyMotion with
  | true =>
    rw [Hub.dropLens_of_motion motion]
    have := h.dropped_ln p
    simp only [Hub.ln] at this ⊢
    simp only [Hub.reportIdle_frame, this, PortLens.dropped_still]
  | false => rw [Hub.dropLens_of_still motion, motion]

theorem Hub.dropLens_fault {h : Hub} {p : Port} (motion : (h.ln p).anyMotion = true) :
    vget (h.dropLens p).mgmt.portFlags p &&& fLensFault = fLensFault ∧ ((h.dropLens p).pw p).allowanceHeld = false := by
  rw [Hub.dropLens_of_motion motion]
  refine ⟨(Hub.reportIdle_grow (.refl _)).1 p _ (Hub.flag_has _ p _), Hub.reportIdle_allowance ?_⟩
  rw [Hub.dropped_ln, PortLens.dropped_still]

/-! ### The trigger and the frame -/

/-- A deferred trigger of a port whose link is not established is lost with TRIG_LOST, by the report or by the drop itself
(R116, R119). -/
theorem Hub.dropLens_dropTrigger_trigLost {h : Hub} {p : Port} {fired : FiredAt} (down : (h.lk p).established = false)
    (hand : (h.tg p).hand = .deferred fired) :
    vget ((h.dropLens p).dropTrigger p).mgmt.portFlags p &&& fTrigLost = fTrigLost := by
  cases motion : (h.ln p).anyMotion with
  | true =>
    refine (Hub.dropTrigger_grow (.refl _)).1 p _ ?_
    rw [Hub.dropLens_of_motion motion]
    refine Hub.reportIdle_trigLost (fired := fired) ?_ ?_ ?_
    · rw [Hub.dropped_ln, PortLens.dropped_still]
    · simpa [Hub.lk] using down
    · simpa [Hub.tg] using hand
  | false =>
    rw [Hub.dropLens_of_still motion]
    simp only [Hub.dropTrigger, hand]
    exact Hub.flag_has _ p fTrigLost

theorem Hub.dropFrame_flag {h : Hub} {p : Port} (filling : (h.fr p).filling.isSome = true) :
    vget (h.dropFrame p).mgmt.portFlags p &&& fFrameDrop = fFrameDrop := by
  obtain ⟨r, hr⟩ := Option.isSome_iff_exists.mp filling
  simp only [Hub.dropFrame, hr]
  exact Hub.flag_has _ p fFrameDrop

/-! ### The whole drop -/

section
variable {h : Hub} {p : Port} {cause : DropCause} {enter : LinkCtl → LinkCtl}

theorem Hub.drop_still : ((h.drop p cause enter).ln p).anyMotion = false := by
  have told := (h.dropStart p cause enter).dropLens_still p
  rw [Hub.drop_eq]
  simpa [Hub.ln] using told

theorem Hub.drop_fault (motion : (h.ln p).anyMotion = true) :
    vget (h.drop p cause enter).mgmt.portFlags p &&& fLensFault = fLensFault ∧
      ((h.drop p cause enter).pw p).allowanceHeld = false := by
  rw [← h.dropStart_anyMotion p cause enter] at motion
  obtain ⟨fault, released⟩ := Hub.dropLens_fault motion
  rw [Hub.drop_eq]
  refine ⟨(Hub.dropSlots_grow (Hub.dropFrame_grow (Hub.dropTrigger_grow (.refl _)))).1 p _ fault, ?_⟩
  simpa [Hub.pw] using released

theorem Hub.drop_trigLost (enters : LinkCtl.Enters enter) {fired : FiredAt} (hand : (h.tg p).hand = .deferred fired) :
    vget (h.drop p cause enter).mgmt.portFlags p &&& fTrigLost = fTrigLost := by
  have down : ((h.dropStart p cause enter).lk p).established = false := by rw [Hub.dropStart_lk]; exact (enters _).1
  have held : ((h.dropStart p cause enter).tg p).hand = .deferred fired := by simpa [Hub.tg] using hand
  rw [Hub.drop_eq]
  exact (Hub.dropSlots_grow (Hub.dropFrame_grow (.refl _))).1 p _ (Hub.dropLens_dropTrigger_trigLost down held)

theorem Hub.drop_frameDrop (filling : (h.fr p).filling.isSome = true) :
    vget (h.drop p cause enter).mgmt.portFlags p &&& fFrameDrop = fFrameDrop := by
  rw [Hub.drop_eq]
  refine (Hub.dropSlots_grow (.refl _)).1 p _ (Hub.dropFrame_flag ?_)
  simpa [Hub.fr] using filling

/-- A drop has every consequence that R22, R97, R119, R131 and R171 give it. -/
theorem Hub.drop_linkDropped (enters : LinkCtl.Enters enter) (bounded : (h.lk p).history.length ≤ 16) :
    h.LinkDropped (h.drop p cause enter) p cause := by
  have link := h.drop_lk p cause enter fun l => (enters l).1
  obtain ⟨-, history, drops, queue, sendCount, ackWait, pendingTrigger, testCount, context⟩ := enters { h.lk p with
    history := appendBounded 16 (h.lk p).history (h.dropRecord p cause), drops := (h.lk p).drops + 1
    testCount := 0, pendingTrigger := none, queue := [], sendCount := 0, ackWait := none, waitEnded := false
    context := none }
  rw [← link] at history drops queue sendCount ackWait pendingTrigger testCount context
  obtain ⟨slots, waits⟩ := h.drop_slotsPass p cause enter
  exact ⟨history.trans (LinkCtl.historyWith_eq bounded), drops, queue, sendCount, ackWait, pendingTrigger, testCount, context,
    h.drop_keeps_flag p cause enter (h.dropStart_fLink p cause enter), fun x => (h.drop_ax p cause enter x).1,
    Hub.drop_fault, h.drop_tg p cause enter fun l => (enters l).1, fun _ => Hub.drop_trigLost enters,
    (h.drop_fr p cause enter).trans (h.dropFrame_fr p), Hub.drop_frameDrop, slots.slotsDropped waits⟩

end

end Sys2Proof.Machine

/-! # A port turned off with all its consequences, and ISOLATE -/

namespace Sys2Proof.Machine

/-! ## The departure from ON (R20, R50, R98), in the words of LeftOn -/

/-- An axis of a port whose power state has left ON (R98). -/
def Axis.unpowered (a : Axis) : Axis := { a.lost (if a.moving then .link else a.outcome) with pending := 0 }

/-- The lens of a port whose power state has left ON. -/
def PortLens.unpowered (l : PortLens) : PortLens :=
  { l with focus := l.focus.unpowered, zoom := l.zoom.unpowered, iris := l.iris.unpowered }

theorem PortLens.unpowered_axis (l : PortLens) (x : AxisId) : l.unpowered.axis x = (l.axis x).unpowered := by cases x <;> rfl

section
variable {h : Hub} {p : Port}

theorem Hub.lensPowerLost_of_motion (motion : (h.ln p).anyMotion = true) :
    h.lensPowerLost p = ((h.modLens p PortLens.unpowered).flag p fLensFault).reportIdle p := by
  rw [Hub.lensPowerLost, if_pos motion]
  rfl

theorem Hub.lensPowerLost_of_still (still : (h.ln p).anyMotion = false) :
    h.lensPowerLost p = h.modLens p PortLens.unpowered := by
  rw [Hub.lensPowerLost, still]
  rfl

theorem Hub.lensPowerLost_ax (x : AxisId) : (h.lensPowerLost p).ax p x = (h.ax p x).unpowered := by
  have lens : (h.lensPowerLost p).ln p = (h.ln p).unpowered := by
    cases motion : (h.ln p).anyMotion with
    | true => rw [Hub.lensPowerLost_of_motion motion]; simp [Hub.ln]
    | false => rw [Hub.lensPowerLost_of_still motion]; simp
  rw [Hub.ax, lens, PortLens.unpowered_axis, Hub.ax]

theorem Hub.lensPowerLost_fault (motion : (h.ln p).anyMotion = true) :
    vget (h.lensPowerLost p).mgmt.portFlags p &&& fLensFault = fLensFault := by
  rw [Hub.lensPowerLost_of_motion motion]
  exact (Hub.reportIdle_grow (.refl _)).1 p _ (Hub.flag_has _ p _)

/-- A departure of a port whose link is not established: the link becomes or stays DOWN, and the lens ends. -/
theorem Hub.leftOn_of_unestablished (down : (h.lk p).established = false) :
    ∃ k : Hub, h.leftOn p = k.lensPowerLost p ∧ k.lens = h.lens ∧ k.trig = h.trig ∧ k.frames = h.frames ∧
      (k.lk p).established = false ∧ (k.lk p).state = .down ∧ (k.lk p).history = (h.lk p).history ∧
      (k.lk p).drops = (h.lk p).drops ∧
      ((h.lk p).state ≠ .down → (k.lk p).note = .powerLost ∧ vget k.mgmt.portFlags p &&& fLink = fLink) := by
  cases state : (h.lk p).state with
  | up | degraded => simp [LinkCtl.established, state] at down
  | down =>
    refine ⟨h, ?_, rfl, rfl, rfl, down, state, rfl, rfl, fun up => absurd rfl up⟩
    simp only [Hub.leftOn, Hub.linkPowerLost, state]
  | training =>
    have link : ((h.modLink p LinkCtl.powerLost).flag p fLink).lk p = LinkCtl.powerLost (h.lk p) := by simp [Hub.lk]
    refine ⟨(h.modLink p LinkCtl.powerLost).flag p fLink, ?_, by simp, by simp, by simp, ?_⟩
    · simp only [Hub.leftOn, Hub.linkPowerLost, state]
    · rw [link]
      exact ⟨rfl, rfl, rfl, rfl, fun _ => ⟨rfl, Hub.flag_has _ p fLink⟩⟩

/-- A departure of a port whose link is established: the drop, after which no axis is in motion (R98, log entry 29). -/
theorem Hub.leftOn_of_established (up : (h.lk p).established = true) :
    h.leftOn p = (h.drop p .powerLost LinkCtl.powerLost).modLens p PortLens.unpowered := by
  have dropped : h.linkPowerLost p = h.drop p .powerLost LinkCtl.powerLost := by
    cases state : (h.lk p).state with
    | up | degraded => simp only [Hub.linkPowerLost, state]
    | down | training => simp [LinkCtl.established, state] at up
  rw [Hub.leftOn, dropped, Hub.lensPowerLost_of_still Hub.drop_still]

theorem Hub.leftOn_leftOn_of_unestablished (down : (h.lk p).established = false) : h.LeftOn (h.leftOn p) p := by
  obtain ⟨k, left, lens, trig, frames, unestablished, state, history, drops, lost⟩ := Hub.leftOn_of_unestablished down
  have motion : (k.ln p).anyMotion = (h.ln p).anyMotion := by simp only [Hub.ln, lens]
  have axis (x : AxisId) : k.ax p x = h.ax p x := by simp only [Hub.ax, Hub.ln, lens]
  have link : (k.lensPowerLost p).lk p = k.lk p := by simp only [Hub.lk, k.lensPowerLost_link p unestablished]
  rw [left, Hub.LeftOn, link]
  refine ⟨state, fun x => ?_, fun moving => Hub.lensPowerLost_fault (motion.trans moving), fun up => ?_,
    fun up => absurd (down.symm.trans up) (by decide), fun _ => ⟨history, drops, ?_, fun still => ?_⟩⟩
  · rw [Hub.lensPowerLost_ax, axis]
    exact ⟨rfl, rfl, rfl, rfl⟩
  · exact ⟨(lost up).1, (Hub.lensPowerLost_grow (.refl _)).1 p _ (lost up).2⟩
  · simp [Hub.fr, frames]
  · rw [Hub.lensPowerLost_of_still (motion.trans still)]
    simp [Hub.tg, trig]

/-- A lens that the drop has ended leaves ON as it is, but for the positions of its still axes. -/
theorem Axis.unpowered_of_dropped {a b : Axis}
    (lost : a.moving = true → b = { a with position := none, motion := .idle, outcome := .link, pending := 0 })
    (kept : a.moving = false → b.bare = a.bare) :
    (a.moving = true → b.unpowered = { a with position := none, motion := .idle, outcome := .link, pending := 0 }) ∧
      b.unpowered.outcome = if a.moving = true then .link else a.outcome := by
  cases moving : a.moving with
  | true =>
    rw [lost moving]
    exact ⟨fun _ => rfl, rfl⟩
  | false =>
    obtain ⟨still, -, -, outcome⟩ := moving_of_bare (kept moving)
    refine ⟨fun m => absurd m (by decide), ?_⟩
    simp [Axis.unpowered, Axis.lost, still, moving, outcome]

theorem Hub.leftOn_leftOn_of_established (up : (h.lk p).established = true) (bounded : (h.lk p).history.length ≤ 16) :
    h.LeftOn (h.leftOn p) p := by
  have link := h.drop_lk p .powerLost LinkCtl.powerLost fun l => (LinkCtl.powerLost_enters l).1
  have fallen (x : AxisId) := Axis.unpowered_of_dropped (h.drop_ax p .powerLost LinkCtl.powerLost x).1
    (h.drop_ax p .powerLost LinkCtl.powerLost x).2
  obtain ⟨history, drops, queue, sendCount, ackWait, pendingTrigger, testCount, context, fLinked, -, fault, trigger, trigLost,
    frame, frameDrop, slots⟩ := Hub.drop_linkDropped LinkCtl.powerLost_enters (cause := .powerLost) bounded
  rw [Hub.leftOn_of_established up]
  generalize h.drop p .powerLost LinkCtl.powerLost = k at *
  have axis (x : AxisId) : (k.modLens p PortLens.unpowered).ax p x = (k.ax p x).unpowered := by
    rw [Hub.ax, Hub.modLens_ln_same, PortLens.unpowered_axis, Hub.ax]
  refine ⟨?_, fun x => ?_, fun motion => (fault motion).1, fun _ => ⟨?_, fLinked⟩, fun _ => ?_,
    fun down => absurd (up.symm.trans down) (by decide)⟩
  · rw [Hub.modLens_lk, link]; rfl
  · rw [axis]
    exact ⟨rfl, rfl, rfl, (fallen x).2⟩
  · rw [Hub.modLens_lk, link]; rfl
  · exact ⟨history, drops, queue, sendCount, ackWait, pendingTrigger, testCount, context, fLinked,
      fun x moving => (axis x).trans ((fallen x).1 moving), fault, trigger, trigLost, frame, frameDrop, slots⟩

/-- A departure from ON has every consequence that R20, R50 and R98 give it. -/
theorem Hub.leftOn_leftOn (bounded : (h.lk p).history.length ≤ 16) : h.LeftOn (h.leftOn p) p := by
  cases up : (h.lk p).established with
  | true => exact Hub.leftOn_leftOn_of_established up bounded
  | false => exact Hub.leftOn_leftOn_of_unestablished up

/-- A departure of an established link at the reply queue and the slots (R171). -/
theorem Hub.leftOn_slotsPass (up : (h.lk p).established = true) :
    h.SlotsPass (h.leftOn p) (some p) ∧ ∀ i, (vget (h.leftOn p).mgmt.slots i).waitsOn p = false := by
  rw [Hub.leftOn_of_established up]
  obtain ⟨slots, waits⟩ := h.drop_slotsPass p .powerLost LinkCtl.powerLost
  generalize h.drop p .powerLost LinkCtl.powerLost = k at slots waits ⊢
  exact ⟨slots.trans (.of_same ⟨rfl, rfl, rfl⟩), waits⟩

end

/-- A departure from a hub k is one from an earlier hub h of the event, where neither the units that it reaches nor the time
has changed between them. -/
theorem Hub.LeftOn.of_before {h k h' : Hub} {p : Port} (l : k.LeftOn h' p)
    (same : k.time = h.time ∧ k.link = h.link ∧ k.lens = h.lens ∧ k.encoder = h.encoder ∧ k.trig = h.trig ∧ k.frames = h.frames)
    (slots : (h.lk p).established = true → h.SlotsDropped h' p) : h.LeftOn h' p := by
  obtain ⟨time, link, lens, encoder, trig, frames⟩ := same
  have lk : k.lk p = h.lk p := by simp only [Hub.lk, link]
  have ln : k.ln p = h.ln p := by simp only [Hub.ln, lens]
  have ax (x : AxisId) : k.ax p x = h.ax p x := by simp only [Hub.ax, ln]
  have tg : k.tg p = h.tg p := by simp only [Hub.tg, trig]
  have fr : k.fr p = h.fr p := by simp only [Hub.fr, frames]
  have seen (cause : DropCause) : k.dropSeen p cause = h.dropSeen p cause := by
    simp only [Hub.dropSeen, lk, fr, time, encoder]
  unfold Hub.LeftOn Hub.LinkDropped at l ⊢
  simp only [lk, ln, ax, tg, fr, seen] at l
  obtain ⟨state, axes, fault, lost, dropped, kept⟩ := l
  refine ⟨state, axes, fault, lost, fun up => ?_, kept⟩
  obtain ⟨history, drops, queue, sendCount, ackWait, pendingTrigger, testCount, context, fLinked, fallen, released, trigger,
    trigLost, frame, frameDrop, -⟩ := dropped up
  exact ⟨history, drops, queue, sendCount, ackWait, pendingTrigger, testCount, context, fLinked, fallen, released, trigger,
    trigLost, frame, frameDrop, slots up⟩

/-! ## A port turned off (R9, R41, R50, R54, R55), in the words of TurnedOff -/

/-- The hub of a port turned off before a departure from ON is told (R50): its power items and the flags. -/
def Hub.cutPower (h : Hub) (p : Port) (cause : OffCause) (part : BitVec 16) : Hub :=
  (h.modPower p fun q =>
    { q with state := .off, cause := cause, allowanceHeld := false, postponed := false }).raise p fPower part

section
variable {h : Hub} {p : Port} {cause : OffCause} {part : BitVec 16}

theorem Hub.turnOff_of_on (on : (h.pw p).state = .on) : h.turnOff p cause part = (h.cutPower p cause part).leftOn p := by
  simp only [Hub.turnOff, on, if_true]
  rfl

theorem Hub.turnOff_of_not_on (off : (h.pw p).state ≠ .on) : h.turnOff p cause part = h.cutPower p cause part := by
  simp only [Hub.turnOff, off, if_false]
  rfl

theorem Hub.cutPower_units : (h.cutPower p cause part).time = h.time ∧ (h.cutPower p cause part).link = h.link ∧
    (h.cutPower p cause part).lens = h.lens ∧ (h.cutPower p cause part).encoder = h.encoder ∧
    (h.cutPower p cause part).trig = h.trig ∧ (h.cutPower p cause part).frames = h.frames := by
  simp [Hub.cutPower]

theorem Hub.cutPower_slotsPass (d : Option Port) : h.SlotsPass (h.cutPower p cause part) d := by
  refine Hub.SlotsPass.trans ?_ (Hub.raise_slotsPass _ p fPower part d)
  exact .of_same ⟨rfl, rfl, rfl⟩

theorem Hub.cutPower_fPower : vget (h.cutPower p cause part).mgmt.portFlags p &&& fPower = fPower := by
  simp [Hub.cutPower, and_or_self]

theorem Hub.turnOff_fPower : vget (h.turnOff p cause part).mgmt.portFlags p &&& fPower = fPower := by
  by_cases on : (h.pw p).state = .on
  · rw [Hub.turnOff_of_on on]
    exact (Hub.leftOn_grow (.refl _)).1 p _ Hub.cutPower_fPower
  · rw [Hub.turnOff_of_not_on on]
    exact Hub.cutPower_fPower

theorem Hub.turnOff_leftOn (on : (h.pw p).state = .on) (bounded : (h.lk p).history.length ≤ 16) :
    h.LeftOn (h.turnOff p cause part) p := by
  have units := Hub.cutPower_units (h := h) (p := p) (cause := cause) (part := part)
  have link : (h.cutPower p cause part).lk p = h.lk p := by simp only [Hub.lk, units.2.1]
  rw [Hub.turnOff_of_on on]
  refine (Hub.leftOn_leftOn (by rwa [link])).of_before units fun up => ?_
  obtain ⟨slots, waits⟩ := Hub.leftOn_slotsPass (h := h.cutPower p cause part) (by rwa [link])
  exact ((Hub.cutPower_slotsPass _).trans slots).slotsDropped waits

/-- A port turned off with a cause has every consequence that R9, R41, R50, R54 and R55 give it. -/
theorem Hub.turnOff_turnedOff : h.TurnedOff (h.turnOff p cause part) p cause := by
  refine ⟨?_, ?_, ?_, ?_, Hub.turnOff_fPower, Hub.turnOff_leftOn, fun off => ?_, fun q e => ?_, by simp, by simp, by simp,
    by simp, by simp, by simp, by simp, by simp⟩
  · rw [Hub.turnOff_pw]
  · rw [Hub.turnOff_pw]
  · rw [Hub.turnOff_pw]
  · rw [Hub.turnOff_pw]
  · rw [Hub.turnOff_of_not_on off]
    obtain ⟨-, link, lens, -, trig, frames⟩ := Hub.cutPower_units (h := h) (p := p) (cause := cause) (part := part)
    exact ⟨link, lens, trig, frames⟩
  · simp [Hub.pw, Hub.lk, Hub.ln, Hub.tg, Hub.fr, e]

end

/-! ## ISOLATE (R6, R7, R9, R10) -/

section
variable {h : Hub} {p : Port} {action : Nat}

theorem Hub.isolate_range (big : 2 ≤ action) : h.isolate p action = (h, refuse .range) := by
  match action, big with
  | n + 2, _ => rfl

theorem yesNo_false : yesNo false = u8 0 := rfl

theorem yesNo_true : yesNo true = u8 1 := rfl

theorem Hub.isolate_clear : h.isolate p 1 = ({ h with requestedIso := vset h.requestedIso p false },
    okWith (u8 0 ++ yesNo (h.cb p).faultIsolation ++ yesNo (h.cb p).faultIsolation ++ powerCode (h.pw p).state)) := by
  simp [Hub.isolate, Hub.setRequestedIso, Hub.isolationBytes, Hub.effectiveIso, Hub.cb, Hub.pw, yesNo_false]

/-- ISOLATE SET without a rise, or with one at a port that is OFF or LOCKED. -/
theorem Hub.isolate_set_of_rests (still : h.effectiveIso p = true ∨ (h.pw p).state = .off ∨ (h.pw p).state = .locked) :
    h.isolate p 0 = ({ h with requestedIso := vset h.requestedIso p true },
      okWith (u8 1 ++ yesNo (h.cb p).faultIsolation ++ u8 1 ++ powerCode (h.pw p).state)) := by
  have same : h.setRequestedIso p true = { h with requestedIso := vset h.requestedIso p true } := by
    unfold Hub.setRequestedIso
    rcases still with iso | off | locked
    · simp [iso]
    · have off' : ({ h with requestedIso := vset h.requestedIso p true }.pw p).state = .off := off
      simp only [Hub.isolationRise, off', ite_self]
    · have locked' : ({ h with requestedIso := vset h.requestedIso p true }.pw p).state = .locked := locked
      simp only [Hub.isolationRise, locked', ite_self]
  simp [Hub.isolate, same, Hub.isolationBytes, Hub.effectiveIso, Hub.cb, Hub.pw, yesNo_true]

/-- ISOLATE SET with a rise at a port in DETECTING, RAMPING, ON or COOLDOWN: it is turned off. -/
theorem Hub.isolate_set_of_rise (free : h.effectiveIso p = false) (off : (h.pw p).state ≠ .off)
    (locked : (h.pw p).state ≠ .locked) :
    h.isolate p 0 = (({ h with requestedIso := vset h.requestedIso p true } : Hub).turnOff p .isolate 0,
      okWith (u8 1 ++ u8 0 ++ u8 1 ++ powerCode .off)) := by
  have turned : h.setRequestedIso p true = ({ h with requestedIso := vset h.requestedIso p true } : Hub).turnOff p .isolate 0 := by
    simp only [Hub.setRequestedIso, free, Bool.not_false, Bool.and_self, if_true]
    cases state : (h.pw p).state with
    | off => exact absurd state off
    | locked => exact absurd state locked
    | detecting | ramping | on | cooldown =>
      have state' := state
      rw [show h.pw p = ({ h with requestedIso := vset h.requestedIso p true } : Hub).pw p from rfl] at state'
      simp only [Hub.isolationRise, state']
  have fault : (h.cb p).faultIsolation = false := by
    simp only [Hub.effectiveIso, Bool.or_eq_false_iff] at free
    exact free.2
  simp only [Hub.isolate, turned, Hub.turnOff_pw]
  simp only [Hub.cb] at fault
  simp [Hub.isolationBytes, Hub.effectiveIso, Hub.cb, fault, yesNo_true, yesNo_false]

end

/-- Settles O24: each action is the owner's answer, and a rise at a port that is not at rest turns it off. -/
theorem isolateActs : Obligations.IsolateActs := by
  intro s r pkt p action asked
  refine ⟨fun big => ?range, fun clear => ?clear, fun set still => ?rests, fun set free off locked => ?rise⟩
  case range => exact State.answers_forPort rfl rfl asked (Hub.isolate_range big)
  case clear =>
    subst clear
    exact State.answers_forPort rfl rfl asked Hub.isolate_clear
  case rests =>
    subst set
    exact State.answers_forPort rfl rfl asked (Hub.isolate_set_of_rests still)
  case rise =>
    subst set
    refine ⟨_, State.answers_forPort rfl rfl asked (Hub.isolate_set_of_rise free off locked), ?_, ?_, ?_, ?_, ?_⟩
    · simp
    · simp
    · simp
    · rw [Hub.turnOff_pw]; rfl
    · exact Hub.turnOff_turnedOff (h := { s.hub.popRequest with requestedIso := vset s.hub.requestedIso p true })

end Sys2Proof.Machine

/-! # Links, power and what uses a link (R17, R20, R86, R114, R170): the law at one port, and what keeps it -/

namespace Sys2Proof.Machine

/-! ## Slots that wait -/

/-- From h to h', no slot has come to wait on a port. -/
def Hub.WaitsKept (h h' : Hub) : Prop :=
  ∀ i p, (vget h'.mgmt.slots i).waitsOn p = true → (vget h.mgmt.slots i).waitsOn p = true

theorem Hub.WaitsKept.of_slots {h h' : Hub} (e : h'.mgmt.slots = h.mgmt.slots) : h.WaitsKept h' := fun i p w => by rwa [e] at w

theorem Hub.WaitsKept.trans {a b c : Hub} (h : a.WaitsKept b) (k : b.WaitsKept c) : a.WaitsKept c :=
  fun i p w => h i p (k i p w)

theorem Hub.SlotsPass.waitsKept {h h' : Hub} {d : Option Port} (k : h.SlotsPass h' d) : h.WaitsKept h' := fun i p w => by
  cases was : (vget h.mgmt.slots i).waitsOn p with
  | true => rfl
  | false => rw [k.waitsOn was] at w; cases w

/-- A slot that is freed or keeps its reply waits on no port. -/
theorem Hub.setSlot_waitsKept (h : Hub) (i : SlotNo) {x : Slot} (ended : ∀ p, x.waitsOn p = false) :
    h.WaitsKept (h.setSlot i x) := fun j p w => by
  by_cases e : j = i
  · subst e
    simp [Hub.setSlot, ended] at w
  · simpa [Hub.setSlot, vget_vset_ne, e] using w

theorem Hub.offerSlotReply_waitsKept (h : Hub) (i : SlotNo) (reply : Packet) : h.WaitsKept (h.offerSlotReply i reply) := by
  have offered := ((h.offerDue_slotsPass none).trans (Hub.offerReply_slotsPass _ reply none)).waitsKept
  unfold Hub.offerSlotReply
  dsimp only
  split
  · exact offered.trans ((Hub.setSlot_waitsKept _ i fun _ => rfl).trans (.of_slots rfl))
  · exact offered.trans (Hub.setSlot_waitsKept _ i fun _ => rfl)

theorem Hub.answerSlot_waitsKept (h : Hub) (i : SlotNo) (status : Status) (results : List Byte) :
    h.WaitsKept (h.answerSlot i status results) := by
  unfold Hub.answerSlot
  split
  · exact h.offerSlotReply_waitsKept i _
  · exact .of_slots rfl

/-! ## The law at one port, and the relation that keeps it -/

/-- The law of links at one port: a link that is not DOWN has its port ON, and what uses a link has it established. -/
structure Hub.LinkHolds (h : Hub) (p : Port) : Prop where
  powered : (h.lk p).state ≠ .down → (h.pw p).state = .on
  motion : (h.ln p).anyMotion = true → (h.lk p).established = true
  hand : (h.tg p).hand ≠ .none → (h.lk p).established = true
  waits : ∀ i, (vget h.mgmt.slots i).waitsOn p = true → (h.lk p).established = true

theorem Hub.linksHold_iff (h : Hub) : h.LinksHold ↔ ∀ p, h.LinkHolds p :=
  ⟨fun ⟨powered, motion, hand, waits⟩ p => ⟨powered p, motion p, hand p, fun i => waits i p⟩,
    fun l => ⟨fun p => (l p).powered, fun p => (l p).motion, fun p => (l p).hand, fun i p => (l p).waits i⟩⟩

/-- From h to h', a port that was ON is ON, its link has not left DOWN and has stayed established, and no axis motion or
trigger in hand is new. -/
structure Hub.PortKept (h h' : Hub) (p : Port) : Prop where
  power : (h.pw p).state = .on → (h'.pw p).state = .on
  down : (h.lk p).state = .down → (h'.lk p).state = .down
  up : (h.lk p).established = true → (h'.lk p).established = true
  motion : (h'.ln p).anyMotion = true → (h.ln p).anyMotion = true
  hand : (h'.tg p).hand ≠ .none → (h.tg p).hand ≠ .none

/-- The same at every port, and no slot has come to wait. -/
structure Hub.LinksKept (h h' : Hub) : Prop where
  waits : h.WaitsKept h'
  port : ∀ p, h.PortKept h' p

theorem Hub.PortKept.trans {a b c : Hub} {p : Port} (h : a.PortKept b p) (k : b.PortKept c p) : a.PortKept c p where
  power e := k.power (h.power e)
  down e := k.down (h.down e)
  up e := k.up (h.up e)
  motion e := h.motion (k.motion e)
  hand e := h.hand (k.hand e)

theorem Hub.PortKept.of_eq {h h' : Hub} {p : Port} (e : h'.pw p = h.pw p ∧ h'.lk p = h.lk p ∧ h'.ln p = h.ln p ∧
    h'.tg p = h.tg p) : h.PortKept h' p := by
  obtain ⟨power, link, lens, trig⟩ := e
  constructor <;> simp only [power, link, lens, trig] <;> exact id

theorem Hub.PortKept.holds {h h' : Hub} {p : Port} (k : h.PortKept h' p) (w : h.WaitsKept h') (l : h.LinkHolds p) :
    h'.LinkHolds p where
  powered up := k.power (l.powered fun down => up (k.down down))
  motion m := k.up (l.motion (k.motion m))
  hand n := k.up (l.hand (k.hand n))
  waits i q := k.up (l.waits i (w i p q))

theorem Hub.LinksKept.trans {a b c : Hub} (h : a.LinksKept b) (k : b.LinksKept c) : a.LinksKept c :=
  ⟨h.waits.trans k.waits, fun p => (h.port p).trans (k.port p)⟩

theorem Hub.LinksKept.holds {h h' : Hub} (k : h.LinksKept h') (l : h.LinksHold) : h'.LinksHold :=
  h'.linksHold_iff.mpr fun p => (k.port p).holds k.waits (h.linksHold_iff.mp l p)

/-- The units that the law of links reads. -/
def Hub.linkItems (h : Hub) : Vector PortPower 8 × Vector LinkCtl 8 × Vector PortLens 8 × Vector PortTrigger 8 :=
  (h.power, h.link, h.lens, h.trig)

/-- Of the units that the law reads the slots alone may change. -/
theorem Hub.LinksKept.of_waits {h h' : Hub} (e : h'.linkItems = h.linkItems) (w : h.WaitsKept h') : h.LinksKept h' := by
  simp only [Hub.linkItems, Prod.mk.injEq] at e
  obtain ⟨power, link, lens, trig⟩ := e
  exact ⟨w, fun p => .of_eq (by simp only [Hub.pw, Hub.lk, Hub.ln, Hub.tg, power, link, lens, trig, and_self])⟩

theorem Hub.LinksKept.of_items {h h' : Hub} (e : h'.linkItems = h.linkItems) (slots : h'.mgmt.slots = h.mgmt.slots) :
    h.LinksKept h' := .of_waits e (.of_slots slots)

theorem Hub.LinksKept.refl (h : Hub) : h.LinksKept h := .of_items rfl rfl

/-- Of the units that the law reads one port's items and the slots alone may change. -/
theorem Hub.LinksKept.of_port {h h' : Hub} {p : Port} (waits : h.WaitsKept h')
    (other : ∀ q, q ≠ p → h'.pw q = h.pw q ∧ h'.lk q = h.lk q ∧ h'.ln q = h.ln q ∧ h'.tg q = h.tg q)
    (own : h.PortKept h' p) : h.LinksKept h' := by
  refine ⟨waits, fun q => ?_⟩
  by_cases e : q = p
  · exact e ▸ own
  · exact .of_eq (other q e)

/-! ## The updates of one unit -/

section
variable {h : Hub} {p : Port}

theorem Hub.LinksKept.modPower {f : PortPower → PortPower} (own : (h.pw p).state = .on → (f (h.pw p)).state = .on) :
    h.LinksKept (h.modPower p f) :=
  .of_port (p := p) (.of_slots rfl) (fun q e => by simp [Hub.modPower_pw_ne, e])
    ⟨fun on => by simpa using own on, id, id, id, id⟩

theorem Hub.LinksKept.modLink {f : LinkCtl → LinkCtl} (down : (h.lk p).state = .down → (f (h.lk p)).state = .down)
    (up : (h.lk p).established = true → (f (h.lk p)).established = true) : h.LinksKept (h.modLink p f) :=
  .of_port (p := p) (.of_slots rfl) (fun q e => by simp [Hub.modLink_lk_ne, e])
    ⟨id, fun e => by simpa using down e, fun e => by simpa using up e, id, id⟩

/-- Link items other than the state change. -/
theorem Hub.LinksKept.modLink_of_state {f : LinkCtl → LinkCtl} (same : (f (h.lk p)).state = (h.lk p).state) :
    h.LinksKept (h.modLink p f) :=
  .modLink (by rw [same]; exact id) (by simp only [LinkCtl.established, same]; exact id)

theorem Hub.LinksKept.modLens {f : PortLens → PortLens} (own : (f (h.ln p)).anyMotion = true → (h.ln p).anyMotion = true) :
    h.LinksKept (h.modLens p f) :=
  .of_port (p := p) (.of_slots rfl) (fun q e => by simp [Hub.modLens_ln_ne, e])
    ⟨id, id, id, fun m => own (by simpa using m), id⟩

theorem Hub.LinksKept.modTrig {f : PortTrigger → PortTrigger} (own : (f (h.tg p)).hand ≠ .none → (h.tg p).hand ≠ .none) :
    h.LinksKept (h.modTrig p f) :=
  .of_port (p := p) (.of_slots rfl) (fun q e => by simp [Hub.modTrig_tg_ne, e])
    ⟨id, id, id, id, fun n => own (by simpa using n)⟩

end

theorem Hub.raise_linksKept (h : Hub) (p : Port) (port part : BitVec 16) : h.LinksKept (h.raise p port part) :=
  .of_waits (by simp [Hub.linkItems]) (h.raise_slotsPass p port part none).waitsKept

theorem Hub.flag_linksKept (h : Hub) (p : Port) (f : BitVec 16) : h.LinksKept (h.flag p f) := h.raise_linksKept p f 0

/-- An axis that ends its motion brings no new one. -/
theorem PortLens.modAxis_still {l : PortLens} {x : AxisId} {f : Axis → Axis}
    (own : (f (l.axis x)).moving = true → (l.axis x).moving = true) :
    (l.modAxis x f).anyMotion = true → l.anyMotion = true := by
  cases x <;> simp only [PortLens.modAxis, PortLens.anyMotion, PortLens.axis, Bool.or_eq_true] at own ⊢ <;> tauto

theorem Hub.LinksKept.modAxis {h : Hub} {p : Port} {x : AxisId} {f : Axis → Axis}
    (own : (f (h.ax p x)).moving = true → (h.ax p x).moving = true) : h.LinksKept (h.modAxis p x f) :=
  .modLens (PortLens.modAxis_still own)

/-! ## The camera command queue and the channel keep the link's state -/

theorem LinkCtl.sendHead_state (l : LinkCtl) (resend : Bool) : (l.sendHead resend).state = l.state := by
  unfold LinkCtl.sendHead
  split <;> rfl

theorem LinkCtl.pump_state (l : LinkCtl) : l.pump.state = l.state := by
  unfold LinkCtl.pump
  split
  · split
    · rfl
    · split
      · exact l.sendHead_state false
      · rfl
  · rfl

theorem LinkCtl.offerTrigger_state (l : LinkCtl) (id : BitVec 8) : (l.offerTrigger id).state = l.state :=
  LinkCtl.pump_state _

/-! ## Reports, completions and message boundaries -/

theorem Hub.modLink_pump_linksKept (h : Hub) (p : Port) : h.LinksKept (h.modLink p LinkCtl.pump) :=
  .modLink_of_state (LinkCtl.pump_state _)

/-- A trigger that is sent takes the place of the one in hand. -/
theorem Hub.sendTrigger_linksKept {h : Hub} {p : Port} {fired : FiredAt} {moving : Bool} (held : (h.tg p).hand ≠ .none) :
    h.LinksKept (h.sendTrigger p fired moving) :=
  Hub.LinksKept.trans (.modTrig fun _ => held) (.modLink_of_state (LinkCtl.offerTrigger_state _ _))

theorem Hub.releaseDeferred_linksKept (h : Hub) (p : Port) : h.LinksKept (h.releaseDeferred p) := by
  unfold Hub.releaseDeferred
  split
  case h_1 fired hand =>
    split
    · exact Hub.sendTrigger_linksKept (by rw [hand]; exact Hand.noConfusion)
    · exact Hub.LinksKept.trans (.modTrig fun n => absurd rfl n) (Hub.flag_linksKept _ p _)
  · exact .refl h

theorem Hub.reportIdle_linksKept (h : Hub) (p : Port) : h.LinksKept (h.reportIdle p) := by
  unfold Hub.reportIdle
  split
  · exact .refl h
  · exact Hub.LinksKept.trans (.modPower id) (Hub.releaseDeferred_linksKept _ p)

/-- A change of the lens that ends motions, with its flag and the report. -/
theorem Hub.ended_linksKept {h h' : Hub} (p : Port) (f : BitVec 16) (k : h.LinksKept h') :
    h.LinksKept ((h'.flag p f).reportIdle p) := (k.trans (Hub.flag_linksKept _ p f)).trans (Hub.reportIdle_linksKept _ p)

theorem Axis.lost_moving (a : Axis) (o : LensOutcome) : (a.lost o).moving = false := rfl

theorem Hub.completeLens_linksKept (h : Hub) (p : Port) (x : AxisId) (how : Completion) :
    h.LinksKept (h.completeLens p x how) := by
  have counted : h.LinksKept (h.modAxis p x fun a => { a with pending := a.pending - 1 }) := .modAxis id
  unfold Hub.completeLens
  dsimp only
  split
  · exact Hub.ended_linksKept p _ (counted.trans (.modAxis fun m => absurd m (by simp [Axis.lost_moving])))
  · exact counted

theorem Hub.answerSlot_linksKept (h : Hub) (i : SlotNo) (status : Status) (results : List Byte) :
    h.LinksKept (h.answerSlot i status results) :=
  .of_waits (by simp [Hub.linkItems]) (h.answerSlot_waitsKept i status results)

theorem Hub.completeSlot_linksKept (h : Hub) (i : SlotNo) (p : Port) (attr : BitVec 8) (status : Status) :
    h.LinksKept (h.completeSlot i p attr status) := by
  unfold Hub.completeSlot
  split
  · exact h.answerSlot_linksKept i status []
  · exact .refl h

theorem Hub.completeCommand_linksKept (h : Hub) (p : Port) (c : Command) (how : Completion) :
    h.LinksKept (h.completeCommand p c how) := by
  cases c with
  | attrRead slot attr _ _ | attrWrite slot attr _ _ =>
    cases how with
    | delivered => exact .refl h
    | noAck | linkDown => exact h.completeSlot_linksKept slot p attr _
  | lensMove x _ | lensHome x | lensStop x => exact h.completeLens_linksKept p x how

/-- A link error may degrade an UP link, which stays established. -/
theorem Hub.linkError_linksKept (h : Hub) (p : Port) : h.LinksKept (h.linkError p) := by
  have counted : h.LinksKept (h.modLink p fun l => { l with windowErrors := Nat.min 65535 (l.windowErrors + 1) }) :=
    .modLink_of_state rfl
  unfold Hub.linkError
  dsimp only
  split
  case isTrue full =>
    simp only [Bool.and_eq_true, decide_eq_true_eq] at full
    refine counted.trans (Hub.LinksKept.trans (.modLink (fun down => ?_) fun _ => rfl)
      ((Hub.flag_linksKept _ p _).trans (.of_items rfl rfl)))
    rw [full.1] at down
    cases down
  case isFalse => exact counted

theorem Hub.ackTaken_linksKept (h : Hub) (p : Port) (sequence : Bool) : h.LinksKept (h.ackTaken p sequence) := by
  unfold Hub.ackTaken
  dsimp only
  split
  · split
    · exact (Hub.LinksKept.trans (.modLink_of_state rfl) (Hub.completeCommand_linksKept _ p _ _)).trans
        (Hub.modLink_pump_linksKept _ p)
    · exact .modLink_of_state rfl
  · exact .modLink_of_state rfl

theorem Hub.waitOver_linksKept (h : Hub) (p : Port) : h.LinksKept (h.waitOver p) := by
  unfold Hub.waitOver
  dsimp only
  split
  · exact .refl h
  · split
    · exact .modLink_of_state (LinkCtl.sendHead_state _ true)
    · exact ((Hub.LinksKept.trans (.modLink_of_state rfl) (Hub.completeCommand_linksKept _ p _ _)).trans
        (Hub.linkError_linksKept _ p)).trans (Hub.modLink_pump_linksKept _ p)

theorem Hub.boundary_linksKept (h : Hub) (p : Port) : h.LinksKept (h.boundary p) := by
  unfold Hub.boundary
  dsimp only
  split
  · exact .refl h
  · split
    · exact h.waitOver_linksKept p
    · split
      · exact (h.modLink_pump_linksKept p).trans (Hub.waitOver_linksKept _ p)
      · exact h.modLink_pump_linksKept p

theorem Hub.messageSent_linksKept (h : Hub) (p : Port) : h.LinksKept (h.messageSent p) := by
  unfold Hub.messageSent
  split
  · exact Hub.LinksKept.trans (.modLink_of_state rfl) (Hub.boundary_linksKept _ p)
  · exact Hub.LinksKept.trans (.modLink_of_state rfl) (Hub.boundary_linksKept _ p)
  · exact .refl h

theorem Hub.waitEnds_linksKept (h : Hub) (p : Port) : h.LinksKept (h.waitEnds p) :=
  Hub.LinksKept.trans (.modLink_of_state rfl) (Hub.boundary_linksKept _ p)

/-- A window's end may bring a DEGRADED link UP, which stays established. -/
theorem Hub.windowEnd_linksKept (h : Hub) (p : Port) : h.LinksKept (h.windowEnd p) := by
  have counted : h.LinksKept (h.modLink p fun l => { l with windowErrors := 0, windowStart := after l.windowStart 100000 }) :=
    .modLink_of_state rfl
  unfold Hub.windowEnd
  dsimp only
  split
  case isTrue clean =>
    simp only [Bool.and_eq_true, decide_eq_true_eq] at clean
    refine counted.trans (Hub.LinksKept.trans (.modLink (fun down => ?_) fun _ => rfl) (Hub.flag_linksKept _ p _))
    simp [clean.1] at down
  case isFalse => exact counted

/-! ## Lens reports and commands -/

theorem Hub.lensReport_linksKept (h : Hub) (p : Port) (axis position kind : Nat) :
    h.LinksKept (h.lensReport p axis position kind) := by
  have ignored (late : Bool) : h.LinksKept (h.ignoreReport p late) := .modLens (by cases late <;> exact id)
  unfold Hub.lensReport
  dsimp only
  split
  · exact ignored false
  · split
    · exact ignored false
    · split
      · exact ignored false
      · split
        · exact ignored true
        · split
          · exact ignored false
          · split
            · exact ignored false
            · exact Hub.ended_linksKept p _ (.modAxis fun m => absurd m (by simp [Axis.moving]))

theorem Hub.axisTimeout_linksKept (h : Hub) (p : Port) (x : AxisId) : h.LinksKept (h.axisTimeout p x) :=
  Hub.ended_linksKept p _ (.modAxis fun m => absurd m (by simp [Axis.lost_moving]))

theorem Hub.queueCommand_linksKept (h : Hub) (p : Port) (isAttr : Bool) (mk : BitVec 8 → Command) :
    h.LinksKept (h.queueCommand p isAttr mk) := .modLink_of_state (LinkCtl.pump_state _)

theorem Hub.lensCommand_linksKept (h : Hub) (p : Port) (c : Command) : h.LinksKept (h.lensCommand p c).1 := by
  have held : h.LinksKept (h.holdAllowance p) := .modPower id
  unfold Hub.lensCommand
  split
  · split
    · exact h.queueCommand_linksKept p false fun _ => c
    · exact .refl h
  · split
    · split
      · exact held.trans (Hub.queueCommand_linksKept _ p false fun _ => c)
      · exact held.trans (Hub.reportIdle_linksKept _ p)
    · exact .refl h

end Sys2Proof.Machine

/-! # The operations that move a link or its users -/

namespace Sys2Proof.Machine

/-! ## Drops and departures from ON -/

/-- After a drop nothing uses the port's link (R97, R119, R171). -/
structure Hub.LinkUnused (h : Hub) (p : Port) : Prop where
  motion : (h.ln p).anyMotion = false
  hand : (h.tg p).hand = .none
  waits : ∀ i, (vget h.mgmt.slots i).waitsOn p = false

/-- Where nothing uses the link, the law asks for the power alone. -/
theorem Hub.LinkUnused.holds {h : Hub} {p : Port} (u : h.LinkUnused p) (powered : (h.lk p).state ≠ .down → (h.pw p).state = .on) :
    h.LinkHolds p :=
  ⟨powered, fun m => absurd m (by simp [u.motion]), fun n => absurd u.hand n, fun i w => absurd w (by simp [u.waits i])⟩

/-- A link that is not established is not used. -/
theorem Hub.LinkHolds.unused {h : Hub} {p : Port} (l : h.LinkHolds p) (off : (h.lk p).established = false) : h.LinkUnused p where
  motion := by
    cases m : (h.ln p).anyMotion with
    | false => rfl
    | true => rw [l.motion m] at off; cases off
  hand := by
    by_contra n
    rw [l.hand n] at off
    cases off
  waits i := by
    cases w : (vget h.mgmt.slots i).waitsOn p with
    | false => rfl
    | true => rw [l.waits i w] at off; cases off

/-- A link that is not used stays so. -/
theorem Hub.LinkUnused.kept {h h' : Hub} {p : Port} (u : h.LinkUnused p) (k : h.LinksKept h') : h'.LinkUnused p where
  motion := by
    cases m : (h'.ln p).anyMotion with
    | false => rfl
    | true => have := (k.port p).motion m; rw [u.motion] at this; cases this
  hand := by
    by_contra n
    exact (k.port p).hand n u.hand
  waits i := by
    cases w : (vget h'.mgmt.slots i).waitsOn p with
    | false => rfl
    | true => have := k.waits i p w; rw [u.waits i] at this; cases this

section
variable {h : Hub} {p : Port} {cause : DropCause} {enter : LinkCtl → LinkCtl}

theorem Hub.drop_unused (enters : LinkCtl.Enters enter) : (h.drop p cause enter).LinkUnused p where
  motion := Hub.drop_still
  hand := by rw [h.drop_tg p cause enter fun l => (enters l).1]
  waits := (h.drop_slotsPass p cause enter).2

/-- A drop keeps the law at every other port. -/
theorem Hub.drop_holds_other (l : h.LinksHold) {q : Port} (e : q ≠ p) : (h.drop p cause enter).LinkHolds q :=
  (Hub.PortKept.of_eq (by simp [Hub.pw, Hub.lk, Hub.ln, Hub.tg, e])).holds (h.drop_slotsPass p cause enter).1.waitsKept
    (h.linksHold_iff.mp l q)

/-- A drop of a port that stays ON keeps the law, whatever state its link enters. -/
theorem Hub.drop_linksHold (enters : LinkCtl.Enters enter) (on : (h.pw p).state = .on) (l : h.LinksHold) :
    (h.drop p cause enter).LinksHold := by
  refine (Hub.linksHold_iff _).mpr fun q => ?_
  by_cases e : q = p
  · subst e
    exact (Hub.drop_unused enters).holds fun _ => by rw [(h.drop_kept q cause enter).state, on]
  · exact Hub.drop_holds_other l e

end

theorem PortLens.unpowered_still (l : PortLens) : l.unpowered.anyMotion = false := rfl

theorem Hub.lensPowerLost_linksKept (h : Hub) (p : Port) : h.LinksKept (h.lensPowerLost p) := by
  have fell : h.LinksKept (h.modLens p PortLens.unpowered) := .modLens fun m => absurd m (by simp [PortLens.unpowered_still])
  cases motion : (h.ln p).anyMotion with
  | true =>
    rw [Hub.lensPowerLost_of_motion motion]
    exact Hub.ended_linksKept p _ fell
  | false =>
    rw [Hub.lensPowerLost_of_still motion]
    exact fell

/-- A port whose power state has left ON: its link is DOWN and unused, and the law holds at every other port. -/
theorem Hub.leftOn_holds {h : Hub} {p : Port} (other : ∀ q, q ≠ p → h.LinkHolds q)
    (unused : (h.lk p).established = false → h.LinkUnused p) : (h.leftOn p).LinksHold := by
  have dead (k : Hub) (waits : h.WaitsKept k) (same : ∀ q, q ≠ p → h.PortKept k q) (down : (k.lk p).state = .down)
      (u : k.LinkUnused p) : k.LinksHold := by
    refine k.linksHold_iff.mpr fun q => ?_
    by_cases e : q = p
    · subst e
      exact u.holds fun up => absurd down up
    · exact (same q e).holds waits (other q e)
  have others (q : Port) (e : q ≠ p) : h.PortKept (h.leftOn p) q :=
    .of_eq (by simp [Hub.pw, Hub.lk, Hub.ln, Hub.tg, e])
  cases up : (h.lk p).established with
  | true =>
    have left := Hub.leftOn_of_established up
    refine dead _ (Hub.leftOn_slotsPass up).1.waitsKept others ?_ ?_
    · rw [left, Hub.modLens_lk, h.drop_lk p _ _ fun l => (LinkCtl.powerLost_enters l).1]
      rfl
    · rw [left]
      exact (Hub.drop_unused LinkCtl.powerLost_enters).kept (.modLens fun m => absurd m (by simp [PortLens.unpowered_still]))
  | false =>
    have kept : h.LinksKept (h.leftOn p) := by
      refine Hub.LinksKept.trans ?_ (Hub.lensPowerLost_linksKept _ p)
      cases state : (h.lk p).state with
      | up | degraded => simp [LinkCtl.established, state] at up
      | down => simp only [Hub.linkPowerLost, state]; exact .refl h
      | training =>
        simp only [Hub.linkPowerLost, state]
        exact Hub.LinksKept.trans (.modLink (fun _ => rfl) fun e => by rw [up] at e; cases e) (Hub.flag_linksKept _ p _)
    obtain ⟨k, left, -, -, -, off, down, -⟩ := Hub.leftOn_of_unestablished up
    refine dead _ kept.waits others ?_ ((unused up).kept kept)
    rw [left, Hub.lk, k.lensPowerLost_link p off]
    exact down

/-- A port whose power state changes in any way, with the flags of the event; from ON, it then leaves it (R50). -/
theorem Hub.departs_linksHold {h : Hub} {p : Port} (f : PortPower → PortPower) (port part : BitVec 16) (l : h.LinksHold) :
    (if (h.pw p).state = .on then ((h.modPower p f).raise p port part).leftOn p
      else (h.modPower p f).raise p port part).LinksHold := by
  have law := h.linksHold_iff.mp l
  have link (q : Port) : ((h.modPower p f).raise p port part).lk q = h.lk q := by simp [Hub.lk]
  have waits : h.WaitsKept ((h.modPower p f).raise p port part) := (Hub.WaitsKept.of_slots rfl).trans (Hub.raise_linksKept _ p port part).waits
  have others (q : Port) (e : q ≠ p) : ((h.modPower p f).raise p port part).LinkHolds q :=
    (Hub.PortKept.of_eq (by simp [Hub.pw, Hub.lk, Hub.ln, Hub.tg, vget_vmod_ne, e])).holds waits (law q)
  have unused (off : (h.lk p).established = false) : ((h.modPower p f).raise p port part).LinkUnused p := by
    obtain ⟨motion, hand, slots⟩ := (law p).unused off
    refine ⟨by simpa [Hub.ln] using motion, by simpa [Hub.tg] using hand, fun i => ?_⟩
    cases w : (vget ((h.modPower p f).raise p port part).mgmt.slots i).waitsOn p with
    | false => rfl
    | true => have := waits i p w; rw [slots i] at this; cases this
  split
  case isTrue on => exact Hub.leftOn_holds others (by rw [link]; exact unused)
  case isFalse off =>
    have down : (h.lk p).state = .down := by
      by_contra up
      exact off ((law p).powered up)
    refine (Hub.linksHold_iff _).mpr fun q => ?_
    by_cases e : q = p
    · subst e
      exact (unused (by simp [LinkCtl.established, down])).holds fun up => absurd (by rw [link]; exact down) up
    · exact others q e

/-! ## Camera power -/

section
variable {h : Hub}

theorem Hub.turnOff_linksHold (p : Port) (cause : OffCause) (part : BitVec 16) (l : h.LinksHold) :
    (h.turnOff p cause part).LinksHold := by
  unfold Hub.turnOff
  exact Hub.departs_linksHold _ _ _ l

/-- A port that is not ON may enter DETECTING. -/
theorem Hub.enterDetecting_linksHold {p : Port} (off : (h.pw p).state ≠ .on) (l : h.LinksHold) :
    (h.enterDetecting p).LinksHold :=
  (Hub.LinksKept.trans (.modPower fun on => absurd on off) (Hub.flag_linksKept _ p _)).holds l

theorem Hub.isolationRise_linksHold (p : Port) (l : h.LinksHold) : (h.isolationRise p).LinksHold := by
  unfold Hub.isolationRise
  split
  case h_5 | h_6 => exact l
  all_goals exact Hub.turnOff_linksHold p _ _ l

theorem Hub.retry_linksHold {p : Port} (off : (h.pw p).state ≠ .on) (l : h.LinksHold) : (h.retry p).LinksHold := by
  unfold Hub.retry
  split
  · exact Hub.turnOff_linksHold p _ _ l
  · split
    · exact Hub.enterDetecting_linksHold off l
    · exact Hub.turnOff_linksHold p _ _ l

theorem Hub.cooldownOver_linksHold {p : Port} (off : (h.pw p).state ≠ .on) (l : h.LinksHold) :
    (h.cooldownOver p).LinksHold := by
  unfold Hub.cooldownOver
  split
  · exact Hub.LinksKept.holds (.modPower id) l
  · exact Hub.retry_linksHold off l

theorem Hub.sweepReported_linksHold (p : Port) (l : h.LinksHold) : (h.sweepReported p).LinksHold := by
  unfold Hub.sweepReported
  split
  case isTrue cooling =>
    simp only [Bool.and_eq_true, decide_eq_true_eq] at cooling
    exact Hub.retry_linksHold (by simp [cooling.1]) (Hub.LinksKept.holds (.modPower id) l)
  case isFalse => exact l

theorem Hub.powerDown_linksHold (p : Port) (l : h.LinksHold) : (h.powerDown p).LinksHold := by
  unfold Hub.powerDown
  split
  · exact Hub.turnOff_linksHold p _ _ l
  · exact l

theorem Hub.powerOff_linksHold (p : Port) (l : h.LinksHold) : (h.powerOff p).LinksHold := by
  unfold Hub.powerOff
  split
  · exact Hub.LinksKept.holds (.modPower id) l
  · exact Hub.turnOff_linksHold p _ _ (Hub.LinksKept.holds (.modPower id) l)
  · exact Hub.turnOff_linksHold p _ _ l

theorem Hub.powerOn_linksHold (p : Port) (l : h.LinksHold) : (h.powerOn p).1.LinksHold := by
  unfold Hub.powerOn
  dsimp only
  split
  case isTrue ok =>
    refine Hub.enterDetecting_linksHold (fun on => ok.2 ?_) l
    simp [PortPower.powered, on]
  case isFalse => exact l

theorem Hub.shedToFit_linksHold : ∀ (n : Nat) {h : Hub}, h.LinksHold → (Hub.shedToFit n h).1.LinksHold
  | 0, _, l => l
  | n + 1, h, l => by
    unfold Hub.shedToFit
    split
    · split
      · exact l
      · exact Hub.shedToFit_linksHold n (Hub.turnOff_linksHold _ _ _ l)
    · exact l

theorem Hub.modCell_linksHold (f : CellPower → CellPower) (l : h.LinksHold) : (h.modCell f).LinksHold :=
  Hub.LinksKept.holds (.of_items rfl rfl) l

theorem Hub.shedUndervolt_linksHold (entry : Bool) (l : h.LinksHold) : (h.shedUndervolt entry).LinksHold := by
  unfold Hub.shedUndervolt
  split
  · exact Hub.turnOff_linksHold _ _ _ l
  · split
    · exact (h.raise_linksKept 0 0 _).holds l
    · exact l

theorem Hub.supplySample_linksHold (mv : Nat) (l : h.LinksHold) : (h.supplySample mv).LinksHold := by
  unfold Hub.supplySample
  dsimp only
  have sampled := Hub.modCell_linksHold (fun c => { c with supplySample := mv }) l
  generalize (h.modCell fun c => { c with supplySample := mv }) = h' at *
  split
  case h_1 =>
    split
    · exact Hub.modCell_linksHold _ sampled
    · exact sampled
  case h_2 | h_3 =>
    split
    · exact Hub.modCell_linksHold _ sampled
    · split
      · exact Hub.shedUndervolt_linksHold _ (Hub.modCell_linksHold _ sampled)
      · exact sampled

theorem Hub.portPowerSet_linksKept (p : Port) (grant limit priority allowance : Nat) :
    h.LinksKept (h.portPowerSet p grant limit priority allowance).1 := by
  unfold Hub.portPowerSet
  split
  · exact .refl h
  · split
    · exact .refl h
    · exact .modPower id

/-! ## Sweeps -/

theorem Hub.engineTakes_linksKept (h : Hub) (e : EngineNo) : h.LinksKept (h.engineTakes e) := by
  unfold Hub.engineTakes
  split <;> exact .of_items rfl rfl

theorem Hub.offerEngines_linksKept (h : Hub) : h.LinksKept h.offerEngines :=
  (h.engineTakes_linksKept 0).trans (Hub.engineTakes_linksKept _ 1)

theorem Hub.enqueueSweep_linksKept (h : Hub) (p : Port) (q : SweepParams) (o : SweepOrigin) :
    h.LinksKept (h.enqueueSweep p q o) := by
  unfold Hub.enqueueSweep
  refine Hub.LinksKept.trans ?_ (Hub.offerEngines_linksKept _)
  exact .of_items rfl rfl

theorem Hub.autoSweep_linksHold (p : Port) (o : SweepOrigin) (l : h.LinksHold) : (h.autoSweep p o).LinksHold := by
  unfold Hub.autoSweep
  split
  · exact Hub.LinksKept.holds (.of_items rfl rfl) l
  · exact (Hub.enqueueSweep_linksKept _ p _ _).holds (Hub.powerDown_linksHold p l)

theorem Hub.maySweep_linksHold (p : Port) (o : Option SweepOrigin) (l : h.LinksHold) : (h.maySweep p o).LinksHold := by
  unfold Hub.maySweep
  split
  · exact Hub.autoSweep_linksHold p _ l
  · exact l

theorem Hub.sweepOver_linksHold (p : Port) (l : h.LinksHold) : (h.sweepOver p).LinksHold :=
  Hub.sweepReported_linksHold p ((Hub.LinksKept.trans (.of_items rfl rfl) (Hub.flag_linksKept _ p _)).holds l)

theorem Hub.setEngine_linksKept (h : Hub) (e : EngineNo) (x : Option SweepContext) : h.LinksKept (h.setEngine e x) :=
  .of_items rfl rfl

theorem Hub.stopSweep_linksHold (e : EngineNo) (p : Port) (l : h.LinksHold) : (h.stopSweep e p).LinksHold :=
  (Hub.offerEngines_linksKept _).holds (Hub.sweepOver_linksHold p ((h.setEngine_linksKept e none).holds l))

/-- One engine's part of a cancellation (R79). -/
def Hub.cancelEngine (h : Hub) (p : Port) (e : EngineNo) : Hub :=
  match h.engine e with
  | some c =>
    if c.port = p then
      if c.phase = .shooting then h.setEngine e (some { c with cancelling := true }) else h.stopSweep e p
    else h
  | none => h

theorem Hub.cancelSweep_of_running {p : Port} (running : (h.cb p).sweepStatus = .running) :
    h.cancelSweep p = (h.cancelEngine p 0).cancelEngine p 1 := by
  simp only [Hub.cancelSweep, running]
  rfl

theorem Hub.cancelEngine_linksHold (p : Port) (e : EngineNo) (l : h.LinksHold) : (h.cancelEngine p e).LinksHold := by
  unfold Hub.cancelEngine
  split
  · split
    · split
      · exact (h.setEngine_linksKept e _).holds l
      · exact Hub.stopSweep_linksHold e p l
    · exact l
  · exact l

theorem Hub.cancelSweep_linksHold (p : Port) (l : h.LinksHold) : (h.cancelSweep p).LinksHold := by
  cases status : (h.cb p).sweepStatus with
  | idle => simpa only [Hub.cancelSweep, status] using l
  | queued =>
    simp only [Hub.cancelSweep, status]
    exact Hub.sweepOver_linksHold p (Hub.LinksKept.holds (.of_items rfl rfl) l)
  | running =>
    rw [Hub.cancelSweep_of_running status]
    exact Hub.cancelEngine_linksHold p 1 (Hub.cancelEngine_linksHold p 0 l)

theorem Hub.sweepRequest_linksHold (p : Port) (sweep : SweepParamsRaw) (first : Nat) (l : h.LinksHold) :
    (h.sweepRequest p sweep first).1.LinksHold := by
  unfold Hub.sweepRequest
  split
  · split
    · exact l
    · split
      · exact l
      · exact (Hub.enqueueSweep_linksKept _ p _ _).holds (Hub.powerDown_linksHold p l)
  · exact l

theorem Hub.recordPair_linksHold (c : SweepContext) (pair : Pair) (l : h.LinksHold) : (h.recordPair c pair).LinksHold := by
  unfold Hub.recordPair
  dsimp only
  split
  · exact l
  · split
    · exact Hub.isolationRise_linksHold _ (Hub.LinksKept.holds (.of_items rfl rfl) l)
    · exact Hub.LinksKept.holds (.of_items rfl rfl) l

theorem Hub.noticeFor_linksKept (h : Hub) (rose : BitVec 16) : h.LinksKept (h.noticeFor rose) :=
  .of_waits (by simp [Hub.linkItems]) (by
    unfold Hub.noticeFor
    split
    · exact .of_slots rfl
    · unfold Hub.offerNotice
      dsimp only
      have offered := ((h.offerDue_slotsPass none).trans (Hub.offerReply_slotsPass _ h.noticePacket none)).waitsKept
      split
      · exact offered.trans (.of_slots rfl)
      · exact offered)

theorem Hub.completeSweep_linksHold (e : EngineNo) (c : SweepContext) (l : h.LinksHold) : (h.completeSweep e c).LinksHold := by
  have recorded {h : Hub} (pair : Pair) (l : h.LinksHold) :
      (if tests c.params.pair pair then h.recordPair c pair else h).LinksHold := by
    split
    · exact Hub.recordPair_linksHold c pair l
    · exact l
  have k := recorded .power (recorded .data l)
  unfold Hub.completeSweep
  dsimp only
  revert k
  generalize (if tests c.params.pair .power then _ else _ : Hub) = h'
  intro k
  exact (Hub.offerEngines_linksKept _).holds (Hub.sweepReported_linksHold _ ((Hub.noticeFor_linksKept _ _).holds
    (Hub.LinksKept.holds (.of_items rfl rfl) k)))

theorem Hub.repeatEnd_linksHold (e : EngineNo) (c : SweepContext) (endTime : HubTime) (l : h.LinksHold) :
    (h.repeatEnd e c endTime).LinksHold := by
  unfold Hub.repeatEnd
  dsimp only
  split
  · exact (h.setEngine_linksKept e _).holds l
  · split
    · exact (h.setEngine_linksKept e _).holds l
    · exact Hub.completeSweep_linksHold e _ l

theorem Hub.shotEnd_linksHold (e : EngineNo) (c : SweepContext) (trace : List (Nat × Int)) (l : h.LinksHold) :
    (h.shotEnd e c trace).LinksHold := by
  unfold Hub.shotEnd
  dsimp only
  split
  · exact Hub.stopSweep_linksHold e c.port l
  · split
    · exact (h.setEngine_linksKept e _).holds l
    · exact Hub.repeatEnd_linksHold e _ _ l

/-! ## Protection and training -/

theorem Hub.trip_linksHold (p : Port) (cause : OffCause) (l : h.LinksHold) : (h.trip p cause).LinksHold := by
  unfold Hub.trip
  dsimp only
  exact Hub.maySweep_linksHold p _ (Hub.departs_linksHold _ _ _ l)

theorem Hub.detected_linksHold {p : Port} {load : Nat} (off : (h.pw p).state ≠ .on) (l : h.LinksHold) :
    (h.detected p load).LinksHold := by
  have fails (cause : OffCause) : (if ((h.turnOff p cause 0).cb p).onDetectFail then (h.turnOff p cause 0).autoSweep p .autoDetect
      else h.turnOff p cause 0).LinksHold := by
    split
    · exact Hub.autoSweep_linksHold p _ (Hub.turnOff_linksHold p _ _ l)
    · exact Hub.turnOff_linksHold p _ _ l
  unfold Hub.detected
  dsimp only
  split
  · exact fails _
  · split
    · exact fails _
    · exact (Hub.LinksKept.trans (.modPower fun on => absurd on off) (Hub.flag_linksKept _ p _)).holds l

/-- A port that has become ON begins to train from DOWN (R17). -/
theorem Hub.beginTraining_linksHold {p : Port} (on : (h.pw p).state = .on) (l : h.LinksHold) : (h.beginTraining p).LinksHold := by
  unfold Hub.beginTraining
  split
  case isTrue down =>
    refine (Hub.flag_linksKept _ p _).holds ((Hub.linksHold_iff _).mpr fun q => ?_)
    have law := h.linksHold_iff.mp l q
    by_cases e : q = p
    · subst e
      obtain ⟨motion, hand, waits⟩ := law.unused (by simp [LinkCtl.established, down])
      exact Hub.LinkUnused.holds ⟨motion, hand, waits⟩ fun _ => on
    · exact Hub.PortKept.holds (h := h) (.of_eq (by simp [Hub.modLink_lk_ne, e])) (.of_slots rfl) law
  case isFalse => exact l

theorem Hub.rampReached_linksHold (p : Port) (l : h.LinksHold) : (h.rampReached p).LinksHold :=
  Hub.beginTraining_linksHold (by simp [Hub.pw])
    ((Hub.LinksKept.trans (.modPower fun _ => rfl) (Hub.flag_linksKept _ p _)).holds l)

theorem Hub.lockReply_linksKept {p : Port} (training : (h.lk p).state = .training) : h.LinksKept (h.lockReply p) :=
  Hub.LinksKept.trans (.modLink (fun down => by simp [training] at down) fun _ => rfl) (Hub.flag_linksKept _ p _)

theorem Hub.attemptEnd_linksHold {p : Port} (training : (h.lk p).state = .training) (l : h.LinksHold) :
    (h.attemptEnd p).LinksHold := by
  have failed : h.LinksKept ((h.modLink p fun l => { l with state := .down, note := .trainFail, channel := .idle }).flag p fLink) :=
    Hub.LinksKept.trans (.modLink (fun _ => rfl) fun up => by simp [LinkCtl.established, training] at up)
      (Hub.flag_linksKept _ p _)
  unfold Hub.attemptEnd
  dsimp only
  split
  · exact Hub.LinksKept.holds (.modLink_of_state rfl) l
  · split
    · exact Hub.autoSweep_linksHold p _ (failed.holds l)
    · exact failed.holds l

theorem LinkCtl.train_enters (now : HubTime) : LinkCtl.Enters (LinkCtl.train now) :=
  fun _ => ⟨rfl, rfl, rfl, rfl, rfl, rfl, rfl, rfl, rfl⟩

theorem LinkCtl.not_down_of_established {k : LinkCtl} (up : k.established = true) : k.state ≠ .down := fun down => by
  simp [LinkCtl.established, down] at up

theorem Hub.lossOfLock_linksHold {p : Port} (up : (h.lk p).established = true) (l : h.LinksHold) : (h.lossOfLock p).LinksHold := by
  have dropped := Hub.drop_linksHold (cause := .lossOfLock) (LinkCtl.train_enters h.time)
    ((h.linksHold_iff.mp l p).powered (LinkCtl.not_down_of_established up)) l
  unfold Hub.lossOfLock
  dsimp only
  split
  · exact Hub.autoSweep_linksHold p _ dropped
  · exact dropped

/-! ## New users of an established link: motions, triggers, slots -/

/-- An axis of a port whose link is established may change in any way. -/
theorem Hub.modAxis_linksHold {p : Port} {x : AxisId} {f : Axis → Axis} (up : (h.lk p).established = true) (l : h.LinksHold) :
    (h.modAxis p x f).LinksHold := by
  obtain ⟨powered, motion, hand, waits⟩ := l
  refine ⟨powered, fun q m => ?_, hand, waits⟩
  by_cases e : q = p
  · exact e ▸ up
  · exact motion q (by simpa [Hub.modAxis, Hub.modLens_ln_ne, e] using m)

/-- The trigger of a port whose link is established may change in any way. -/
theorem Hub.modTrig_linksHold {p : Port} {f : PortTrigger → PortTrigger} (up : (h.lk p).established = true) (l : h.LinksHold) :
    (h.modTrig p f).LinksHold := by
  obtain ⟨powered, motion, hand, waits⟩ := l
  refine ⟨powered, motion, fun q n => ?_, waits⟩
  by_cases e : q = p
  · exact e ▸ up
  · exact hand q (by simpa [Hub.modTrig_tg_ne, e] using n)

/-- A slot may come to wait on a port whose link is established. -/
theorem Hub.setSlot_linksHold {i : SlotNo} {x : Slot} (up : ∀ p, x.waitsOn p = true → (h.lk p).established = true)
    (l : h.LinksHold) : (h.setSlot i x).LinksHold := by
  obtain ⟨powered, motion, hand, waits⟩ := l
  refine ⟨powered, motion, hand, fun j q w => ?_⟩
  by_cases e : j = i
  · subst e
    exact up q (by simpa [Hub.setSlot] using w)
  · exact waits j q (by simpa [Hub.setSlot, vget_vset_ne, e] using w)

theorem Hub.homeAxis_linksHold (p : Port) (x : AxisId) (l : h.LinksHold) : (h.homeAxis p x).1.LinksHold := by
  have sent := h.lensCommand_linksKept p (.lensHome x)
  unfold Hub.homeAxis
  dsimp only
  split
  · exact l
  case isFalse up =>
    split
    · exact l
    · split
      · exact l
      · split
        · exact sent.holds l
        · exact Hub.modAxis_linksHold ((sent.port p).up (by simpa using up)) (sent.holds l)

theorem Hub.lensHome_linksHold (p : Port) (axis : Nat) (l : h.LinksHold) : (h.lensHome p axis).1.LinksHold := by
  unfold Hub.lensHome
  split
  · exact l
  · exact Hub.homeAxis_linksHold p _ l

theorem Hub.sendMove_linksHold {p : Port} {x : AxisId} {target : Nat} {status : Status} {f : Axis → Axis}
    (up : (h.lk p).established = true) (l : h.LinksHold) : (h.sendMove p x target status f).1.LinksHold := by
  have sent := h.lensCommand_linksKept p (.lensMove x target)
  unfold Hub.sendMove
  dsimp only
  split
  · exact sent.holds l
  · exact Hub.modAxis_linksHold ((sent.port p).up up) (sent.holds l)

theorem Hub.moveAxis_linksHold (p : Port) (x : AxisId) (wanted : Nat) (l : h.LinksHold) : (h.moveAxis p x wanted).1.LinksHold := by
  unfold Hub.moveAxis
  dsimp only
  split
  · exact l
  case isFalse up =>
    have up : (h.lk p).established = true := by simpa using up
    split
    · exact l
    · split
      case h_1 | h_2 | h_3 => exact l
      case h_4 | h_5 =>
        split
        · exact l
        · exact Hub.sendMove_linksHold up l

theorem Hub.lensMove_linksHold (p : Port) (axis target : Nat) (l : h.LinksHold) : (h.lensMove p axis target).1.LinksHold := by
  unfold Hub.lensMove
  split
  · exact l
  · exact Hub.moveAxis_linksHold p _ target l

theorem PortLens.anyMotion_of_axis {k : PortLens} {x : AxisId} (m : (k.axis x).moving = true) : k.anyMotion = true := by
  cases x <;> simp only [PortLens.axis] at m <;> simp [PortLens.anyMotion, m]

/-- An axis that is stopped was in motion, so that its link is established. -/
theorem Hub.stopAxis_linksHold (p : Port) (x : AxisId) (l : h.LinksHold) : (h.stopAxis p x).1.LinksHold := by
  have sent := h.lensCommand_linksKept p (.lensStop x)
  unfold Hub.stopAxis
  dsimp only
  split
  · exact l
  · split
    · exact l
    case isFalse runs =>
      have moving : (h.ax p x).moving = true := by simp [Axis.moving, not_or.mp runs]
      have up := (h.linksHold_iff.mp l p).motion (PortLens.anyMotion_of_axis moving)
      split
      · exact sent.holds l
      · exact Hub.modAxis_linksHold ((sent.port p).up up) (sent.holds l)

theorem Hub.lensStop_linksHold (p : Port) (axis : Nat) (l : h.LinksHold) : (h.lensStop p axis).1.LinksHold := by
  unfold Hub.lensStop
  split
  · exact l
  · exact Hub.stopAxis_linksHold p _ l

theorem Hub.lensFocusDistance_linksHold (p : Port) (d : Nat) (l : h.LinksHold) : (h.lensFocusDistance p d).1.LinksHold := by
  unfold Hub.lensFocusDistance
  dsimp only
  split
  · exact l
  · split
    · exact l
    · split
      · exact l
      · split
        · exact l
        · split
          · exact l
          · exact Hub.moveAxis_linksHold p .focus _ l

/-- A trigger comes to hand on an established link alone (R114). -/
theorem Hub.fire_linksHold (p : Port) (l : h.LinksHold) : (h.fire p).1.LinksHold := by
  have counted {h : Hub} {f : PortTrigger → PortTrigger} (same : (f (h.tg p)).hand = (h.tg p).hand) (l : h.LinksHold) :
      (h.modTrig p f).LinksHold := Hub.LinksKept.holds (.modTrig (by rw [same]; exact id)) l
  have asked : (h.modTrig p fun t => { t with requested := t.requested + 1 }).LinksHold := counted rfl l
  unfold Hub.fire
  dsimp only
  split
  · exact (Hub.flag_linksKept _ p _).holds (counted rfl asked)
  case isFalse up =>
    have up : (h.lk p).established = true := by simpa using up
    split
    · exact (Hub.flag_linksKept _ p _).holds (counted rfl asked)
    · split
      · exact Hub.modTrig_linksHold up asked
      · exact Hub.LinksKept.holds (.modLink_of_state (LinkCtl.offerTrigger_state _ _)) (Hub.modTrig_linksHold up asked)

theorem Hub.passThrough_linksHold (p : Port) (tag : BitVec 16) (kind : PassKind) (count : Nat) (mk : SlotNo → BitVec 8 → Command)
    (l : h.LinksHold) : (h.passThrough p tag kind count mk).1.LinksHold := by
  unfold Hub.passThrough
  split
  · exact l
  · split
    · exact l
    case h_2 slot _ =>
      split
      · exact l
      case h_2 accepted =>
        have up : (h.lk p).established = true := by
          by_contra down
          simp [Hub.commandRefusal, down] at accepted
        have sent := h.queueCommand_linksKept p true (mk slot)
        refine Hub.setSlot_linksHold (fun q w => ?_) (sent.holds l)
        obtain rfl : p = q := by simpa [Slot.waitsOn] using w
        exact (sent.port p).up up

end

end Sys2Proof.Machine

/-! # Takings and events over any law that their ends keep -/

namespace Sys2Proof.Machine

/-- A law of the hub that the ends of takings and events keep: the arbiter's decision, a cold reset, and the reply queue. -/
structure Hub.EndsKeep (P : Hub → Prop) : Prop where
  settle : ∀ {h : Hub} (m : Memory), P h → P (h.settle m)
  reset : ∀ h : Hub, P h.coldReset
  pop : ∀ {h : Hub}, P h → P h.popRequest
  due : ∀ {h : Hub}, P h → P h.replyDue
  trunk : ∀ {h : Hub} (f : Trunk → Trunk), P h → P (h.modTrunk f)

section
variable {P : Hub → Prop} (ends : Hub.EndsKeep P)
include ends

theorem Hub.EndsKeep.answer {h : Hub} (place : Nat) (reply : Packet) (k : P h) : P (h.answer place reply) := by
  unfold Hub.answer Hub.replyGone
  split
  · exact ends.trunk _ k
  · split
    · exact ends.reset _
    · exact ends.trunk _ k

theorem Hub.EndsKeep.event {s t : State} {f : Hub → Hub} (e : Host.Outcome.next (s.event f) = (.next t : Result))
    (k : P (f s.hub)) : P t.hub := by
  cases e
  exact ends.settle _ k

theorem Hub.EndsKeep.settled {s t : State} (e : Host.Outcome.next s.settled = (.next t : Result)) (k : P s.hub) : P t.hub := by
  cases e
  exact ends.settle _ k

theorem Hub.EndsKeep.when {s t : State} {c : Bool} {f : Hub → Hub} (e : s.when c f = .next t) (l : P s.hub)
    (k : c = true → P (f s.hub)) : P t.hub := by
  rcases State.when_cases s t c f e with ⟨hc, rfl⟩ | ⟨-, rfl⟩
  · exact ends.settle _ (k hc)
  · exact l

theorem Hub.EndsKeep.takeHead {h : Hub} {pkt : Packet} {code : List Byte} {owner : Hub → Hub × Option Reply}
    (k : P (owner h.popRequest).1) : P (h.takeHead pkt code owner) := by
  unfold Hub.takeHead
  dsimp only
  split
  · exact ends.answer _ _ (ends.due k)
  · exact ends.due k

theorem Hub.EndsKeep.takeLater {s t : State} {c : ReqCode} {r : ReqHeader} {ps : List Byte}
    {owner : Byte → Hub → Hub × Option Reply} (k : ∀ b h, P h → P (owner b h).1)
    (e : s.takeLater c r ps owner = .next t) (l : P s.hub) : P t.hub := by
  unfold State.takeLater at e
  split at e
  · exact ends.event e (ends.takeHead (k _ _ (ends.pop l)))
  · cases e; exact l

theorem Hub.EndsKeep.take {s t : State} {c : ReqCode} {r : ReqHeader} {ps : List Byte} {owner : Byte → Hub → Hub × Reply}
    (k : ∀ b h, P h → P (owner b h).1) (e : s.take c r ps owner = .next t) (l : P s.hub) : P t.hub :=
  ends.takeLater (owner := atOnce owner) k e l

theorem Hub.EndsKeep.badRequest {s t : State} (free : ∀ {h : Hub} {n : Nat}, P h → P { h with freeCount := n })
    (e : execBadRequest s = .next t) (l : P s.hub) : P t.hub := by
  unfold execBadRequest at e
  split at e
  · refine ends.event e ?_
    unfold Hub.refuseBad
    refine ends.takeHead ?_
    dsimp only
    split
    · exact ends.pop (free l)
    · exact ends.pop l
  · cases e; exact l

end

section
variable {P : Hub → Prop}

/-- An owner of requests for a port keeps a law where it does so at every port; a refused target changes nothing. -/
theorem forPort_keeps {owner : Port → Hub → Hub × Reply} (k : ∀ p h, P h → P (owner p h).1) (b : Byte) (h : Hub) (l : P h) :
    P (forPort owner b h).1 := by
  unfold forPort
  split
  · exact k _ h l
  · exact l

theorem forHub_keeps {owner : Hub → Hub × Reply} (k : ∀ h, P h → P (owner h).1) (b : Byte) (h : Hub) (l : P h) :
    P (forHub owner b h).1 := by
  unfold forHub
  split
  · exact k h l
  · exact l

theorem forEither_keeps {owner : Option Port → Hub → Hub × Reply} (k : ∀ p h, P h → P (owner p h).1) (b : Byte) (h : Hub)
    (l : P h) : P (forEither owner b h).1 := by
  unfold forEither
  split
  · exact k none h l
  · split
    · exact k _ h l
    · exact l

theorem passFor_keeps {owner : Port → Hub → Hub × Option Reply} (k : ∀ p h, P h → P (owner p h).1) (b : Byte) (h : Hub)
    (l : P h) : P (passFor owner b h).1 := by
  unfold passFor
  split
  · exact k _ h l
  · exact l

end

end Sys2Proof.Machine

/-! # Every command keeps the law of links -/

namespace Sys2Proof.Machine

theorem Hub.settle_linksKept (h : Hub) (m : Memory) : h.LinksKept (h.settle m) := .of_items (by simp [Hub.linkItems]) (by simp)

theorem Hub.coldReset_linksHold (h : Hub) : h.coldReset.LinksHold := by
  refine h.coldReset.linksHold_iff.mpr fun p => Hub.LinkUnused.holds ⟨?_, ?_, fun i => ?_⟩ fun up => absurd ?_ up
  · simp [PortLens.anyMotion, Axis.moving]
  · simp
  · simp [Slot.waitsOn]
  · simp

theorem Hub.linksHold_ends : Hub.EndsKeep Hub.LinksHold where
  settle m l := (Hub.settle_linksKept _ m).holds l
  reset := Hub.coldReset_linksHold
  pop l := Hub.LinksKept.holds (.of_items rfl rfl) l
  due l := Hub.LinksKept.holds (.of_items rfl rfl) l
  trunk _ l := Hub.LinksKept.holds (.of_items rfl rfl) l

/-! ## Requests that leave links, power, lenses and triggers alone, or bring no new use -/

section
variable {h : Hub}

theorem Hub.linkSet_linksKept (p : Port) (degrade drop : Nat) : h.LinksKept (h.linkSet p degrade drop).1 := by
  unfold Hub.linkSet
  split
  · exact .modLink_of_state rfl
  · exact .refl h

theorem Hub.linkTest_linksKept (p : Port) (count : Nat) : h.LinksKept (h.linkTest p count).1 := by
  unfold Hub.linkTest
  split
  · exact .refl h
  · split
    · exact .refl h
    · exact .modLink_of_state rfl

theorem Hub.readEvents_linksKept (p : Option Port) : h.LinksKept (h.readEvents p).1 := by
  cases p <;> exact .of_items rfl rfl

theorem Hub.noticeSet_linksKept (kinds : Nat) : h.LinksKept (h.noticeSet kinds).1 := by
  unfold Hub.noticeSet
  split
  · exact .refl h
  · exact .of_items rfl rfl

/-- A profile that is loaded leaves the motions of the axes (R85). -/
theorem Hub.lensProfileLoad_linksKept (p : Port) (focus zoom iris : ProfileParams) :
    h.LinksKept (h.lensProfileLoad p focus zoom iris).1 := by
  unfold Hub.lensProfileLoad
  split
  · exact .refl h
  · split
    · exact .refl h
    · exact .modLens id

theorem Hub.focusTableLoad_linksKept (p : Port) (stop zoom : Nat) (points : List (Nat × Nat)) :
    h.LinksKept (h.focusTableLoad p stop zoom points).1 := by
  unfold Hub.focusTableLoad
  split
  · exact .refl h
  · split
    · exact .refl h
    · split
      · exact .refl h
      · split
        · exact .refl h
        · exact .modLens id

theorem Hub.encoderSet_linksKept (value : Nat) : h.LinksKept (h.encoderSet value).1 :=
  ⟨.of_slots rfl, fun p => ⟨id, id, id, id, by simp [Hub.encoderSet, Hub.forgetPoints, Hub.tg, vget]⟩⟩

theorem Hub.triggerLineSet_linksKept (line filter : Nat) : h.LinksKept (h.triggerLineSet line filter).1 := by
  unfold Hub.triggerLineSet
  split
  · exact .refl h
  · split
    · exact .refl h
    · exact .of_items rfl rfl

theorem Hub.triggerSet_linksKept (p : Port) (source pitch phase direction policy timeout : Nat) :
    h.LinksKept (h.triggerSet p source pitch phase direction policy timeout).1 := by
  unfold Hub.triggerSet
  split
  · split
    · exact .modTrig id
    · exact .refl h
  · exact .refl h

theorem Hub.cableTypeSet_linksKept (type speed polarity threshold : Nat) :
    h.LinksKept (h.cableTypeSet type speed polarity threshold).1 := by
  unfold Hub.cableTypeSet
  (repeat' split) <;> exact .of_items rfl rfl

theorem Hub.portCableSet_linksKept (p : Port) (type length tolerance offset : Nat) :
    h.LinksKept (h.portCableSet p type length tolerance offset).1 := by
  unfold Hub.portCableSet
  (repeat' split) <;> exact .of_items rfl rfl

theorem Hub.autoSweepSet_linksKept (p : Port) (flags : Nat) (sweep : SweepParamsRaw) :
    h.LinksKept (h.autoSweepSet p flags sweep).1 := by
  unfold Hub.autoSweepSet
  (repeat' split) <;> exact .of_items rfl rfl

theorem Hub.faultClear_linksKept (p : Port) : h.LinksKept (h.faultClear p).1 := by
  unfold Hub.faultClear
  split <;> exact .of_items rfl rfl

theorem Hub.ringSet_linksKept (p : Port) (start length timeout : Nat) : h.LinksKept (h.ringSet p start length timeout).1 := by
  unfold Hub.ringSet
  (repeat' split) <;> exact .of_items rfl rfl

theorem Hub.frameHold_linksKept (p : Port) (number : Nat) : h.LinksKept (h.frameHold p number).1 := by
  unfold Hub.frameHold
  (repeat' split) <;> exact .of_items rfl rfl

theorem Hub.frameRelease_linksKept (p : Port) (number : Nat) : h.LinksKept (h.frameRelease p number).1 := by
  unfold Hub.frameRelease
  (repeat' split) <;> exact .of_items rfl rfl

theorem Hub.viewLoad_linksKept (view : Nat) (q : ViewParams) : h.LinksKept (h.viewLoad view q).1 := by
  unfold Hub.viewLoad
  (repeat' split) <;> exact .of_items rfl rfl

theorem Hub.viewBind_linksKept (p : Port) (view : Nat) : h.LinksKept (h.viewBind p view).1 := by
  unfold Hub.viewBind
  dsimp only
  (repeat' split) <;> exact .of_items rfl rfl

theorem Hub.coefSelect_linksKept (table : Nat) : h.LinksKept (h.coefSelect table).1 := by
  unfold Hub.coefSelect
  (repeat' split) <;> exact .of_items rfl rfl

theorem Hub.coefWrite_linksKept (values : List Nat) : h.LinksKept (h.coefWrite values).1 := by
  unfold Hub.coefWrite
  (repeat' split) <;> exact .of_items rfl rfl

theorem Hub.egressSet_linksKept (settings : EgressParams) (p : Option Port) : h.LinksKept (h.egressSet settings p).1 := by
  cases p <;> unfold Hub.egressSet <;> dsimp only <;> (repeat' split) <;> exact .of_items rfl rfl

theorem Hub.pipeWake_linksKept (m : Memory) (p : Port) : h.LinksKept (h.pipeWake m p) :=
  .of_items (by simp [Hub.linkItems]) (by simp)

theorem Hub.frameResend_linksKept (m : Memory) (p : Port) (number view : Nat) : h.LinksKept (h.frameResend m p number view).1 := by
  unfold Hub.frameResend
  split
  · exact .refl h
  · split
    · exact .refl h
    · split
      · exact .refl h
      · split
        · exact .refl h
        · split
          · exact .refl h
          · refine Hub.LinksKept.trans ?_ (Hub.pipeWake_linksKept m p)
            exact .of_items rfl rfl

theorem Hub.setRequestedIso_linksHold (p : Port) (on : Bool) (l : h.LinksHold) : (h.setRequestedIso p on).LinksHold := by
  have set : ({ h with requestedIso := vset h.requestedIso p on } : Hub).LinksHold := l
  unfold Hub.setRequestedIso
  dsimp only
  split
  · exact Hub.isolationRise_linksHold p set
  · exact set

theorem Hub.isolate_linksHold (p : Port) (action : Nat) (l : h.LinksHold) : (h.isolate p action).1.LinksHold := by
  unfold Hub.isolate
  split
  · exact Hub.setRequestedIso_linksHold p true l
  · exact Hub.setRequestedIso_linksHold p false l
  · exact l

theorem Hub.budgetSet_linksHold (budget : Nat) (l : h.LinksHold) : (h.budgetSet budget).1.LinksHold :=
  Hub.shedToFit_linksHold 8 (Hub.modCell_linksHold _ l)

theorem Hub.fireAll_linksHold : ∀ (ps : List Port) {h : Hub}, h.LinksHold → (h.fireAll ps).1.LinksHold
  | [], _, l => l
  | p :: ps, _, l => Hub.fireAll_linksHold ps (Hub.fire_linksHold p l)

theorem Hub.triggerSoft_linksHold (mask : Nat) (l : h.LinksHold) : (h.triggerSoft mask).1.LinksHold := by
  unfold Hub.triggerSoft
  dsimp only
  split
  · exact l
  · exact Hub.fireAll_linksHold _ l

/-! ## Events of the encoder, the lines, the slots and the trunk -/

theorem foldl_linksHold {α : Type} {f : Hub → α → Hub} (one : ∀ (x : α) {h : Hub}, h.LinksHold → (f h x).LinksHold) :
    ∀ (xs : List α) {h : Hub}, h.LinksHold → (xs.foldl f h).LinksHold
  | [], _, l => l
  | x :: xs, _, l => foldl_linksHold one xs (one x l)

theorem Hub.offerStep_linksHold (forward : Bool) (p : Port) (l : h.LinksHold) : (h.offerStep forward p).LinksHold := by
  unfold Hub.offerStep
  dsimp only
  split
  · exact Hub.fire_linksHold p (Hub.LinksKept.holds (.modTrig id) l)
  · exact l

theorem Hub.encoderStep_linksHold (a b : Bool) (l : h.LinksHold) : (h.encoderStep a b).LinksHold := by
  have turned (e : Encoder) : ({ h with encoder := e } : Hub).LinksHold := l
  unfold Hub.encoderStep
  dsimp only
  split
  · exact turned _
  · split
    · exact turned _
    · exact foldl_linksHold (fun p _ l => Hub.offerStep_linksHold _ p l) allPorts (turned _)

theorem Hub.fireLine_linksHold (n : LineNo) (l : h.LinksHold) : (h.fireLine n).LinksHold := by
  refine foldl_linksHold (fun p h l => ?_) allPorts l
  split
  · exact Hub.fire_linksHold p l
  · exact l

theorem Hub.triggerTimeout_linksKept (p : Port) : h.LinksKept (h.triggerTimeout p) :=
  Hub.LinksKept.trans (.modTrig fun n => absurd rfl n) (Hub.flag_linksKept _ p _)

theorem Hub.attrReply_linksKept (p : Port) (attr : BitVec 8) (status : Nat) (words : List Nat) :
    h.LinksKept (h.attrReply p attr status words) := by
  unfold Hub.attrReply
  split
  · refine Hub.LinksKept.trans ?_ (Hub.flag_linksKept _ p _)
    exact .of_items rfl rfl
  · split
    · exact h.answerSlot_linksKept _ _ _
    · split <;> exact h.answerSlot_linksKept _ _ _

theorem Hub.arrive_linksKept (pkt : Packet) : h.LinksKept (h.arrive pkt) := by
  unfold Hub.arrive
  split
  · exact .of_items rfl rfl
  · refine Hub.LinksKept.trans ?_ (Hub.raise_linksKept _ 0 0 _)
    exact .of_items rfl rfl

theorem Hub.trunkReturns_linksHold (m : Memory) (l : h.LinksHold) : (h.trunkReturns m).LinksHold := by
  unfold Hub.trunkReturns
  exact foldl_linksHold (fun p _ l => (Hub.pipeWake_linksKept m p).holds l) allPorts
    ((Hub.raise_linksKept _ 0 0 _).holds (Hub.linksHold_ends.trunk _ l))

theorem Hub.pipeTrunkLost_linksKept (m : Memory) (p : Port) : h.LinksKept (h.pipeTrunkLost m p) := by
  unfold Hub.pipeTrunkLost
  refine Hub.LinksKept.trans ?_ (Hub.pipeWake_linksKept m p)
  split
  · exact .refl h
  · exact .of_items (by simp [Hub.linkItems]) (by simp)

theorem Hub.trunkLost_linksHold (m : Memory) (l : h.LinksHold) : (h.trunkLost m).LinksHold := by
  have closed : (allPorts.foldl Hub.closesLost h).LinksHold :=
    foldl_linksHold (fun _ _ l => Hub.LinksKept.holds (.of_items (by simp [Hub.linkItems]) (by simp)) l) allPorts l
  have offered : ((allPorts.foldl Hub.closesLost h).modTrunk Trunk.lose).offerDue.LinksHold :=
    Hub.LinksKept.holds (.of_waits (by simp [Hub.linkItems]) (Hub.offerDue_slotsPass _ none).waitsKept)
      (Hub.linksHold_ends.trunk _ closed)
  unfold Hub.trunkLost
  dsimp only
  split
  · exact Hub.coldReset_linksHold _
  · exact foldl_linksHold (fun p _ l => (Hub.pipeTrunkLost_linksKept m p).holds l) allPorts offered

theorem Hub.sendEnd_linksHold (m : Memory) (l : h.LinksHold) : (h.sendEnd m).LinksHold := by
  unfold Hub.sendEnd
  split
  · exact l
  · dsimp only
    split
    · exact Hub.coldReset_linksHold _
    · split
      · exact l
      · split
        · exact l
        · refine Hub.LinksKept.holds ?_ l
          exact .of_items (by simp [Hub.linkItems]) (by simp)

/-! ## Frame packets -/

theorem Hub.badPacket_linksKept (p : Port) : h.LinksKept (h.badPacket p) :=
  Hub.LinksKept.trans (.modLink_of_state rfl) (Hub.linkError_linksKept _ p)

theorem State.completeFrame_linksKept (s : State) (p : Port) (r : FrameRecord) (e : Option (Nat × Nat)) (truncated : Bool)
    (intake : Intake) : s.hub.LinksKept (s.completeFrame p r e truncated intake).hub := by
  unfold State.completeFrame
  dsimp only
  split
  · refine Hub.LinksKept.trans ?_ (Hub.pipeWake_linksKept _ p)
    exact .of_items rfl rfl
  · exact .of_items rfl rfl

theorem State.frameCutOff_linksKept (s : State) (p : Port) : s.hub.LinksKept (s.frameCutOff p).hub := by
  unfold State.frameCutOff
  split
  · exact s.completeFrame_linksKept p _ _ _ _
  · exact .of_items rfl rfl

theorem State.frameEnded_linksKept (s : State) (p : Port) (linesSent status : Nat) :
    s.hub.LinksKept (s.frameEnded p linesSent status).hub := by
  unfold State.frameEnded
  split
  · exact s.completeFrame_linksKept p _ _ _ _
  · dsimp only
    split <;> exact .of_items rfl rfl

/-- The id of a frame takes the trigger in hand, or leaves it (R117). -/
theorem Hub.resolveId_linksKept (p : Port) (id : Nat) : h.LinksKept (h.resolveId p id).1 := by
  unfold Hub.resolveId
  split
  · exact .refl h
  · split
    · split
      · exact .modTrig fun n => absurd rfl n
      · exact .refl h
    · exact .refl h

theorem Hub.admitFrame_linksKept (p : Port) (number w ht id : Nat) (res : Resolution) :
    h.LinksKept (h.admitFrame p number w ht id res) := by
  unfold Hub.admitFrame
  dsimp only
  split
  · refine Hub.LinksKept.trans ?_ (Hub.flag_linksKept _ p _)
    exact .of_items rfl rfl
  · exact .of_items rfl rfl

theorem Hub.openFrame_linksKept (p : Port) (number width height id : Nat) :
    h.LinksKept (h.openFrame p number width height id) :=
  (Hub.LinksKept.trans (.modLink_of_state rfl) (Hub.resolveId_linksKept p id)).trans (Hub.admitFrame_linksKept p _ _ _ _ _)

theorem State.frameStart_linksKept (s : State) (p : Port) (number width height id : Nat) :
    s.hub.LinksKept (s.frameStart p number width height id).hub := by
  unfold State.frameStart
  split
  · exact Hub.LinksKept.trans (.modLink_of_state rfl) (Hub.linkError_linksKept _ p)
  · refine Hub.LinksKept.trans ?_ (Hub.openFrame_linksKept p _ _ _ _)
    split
    · exact s.frameCutOff_linksKept p
    · exact .refl _

theorem State.line_linksKept (s : State) (p : Port) (number : Nat) (pixels : List Nat) :
    s.hub.LinksKept (s.line p number pixels).hub := by
  unfold State.line
  split
  · exact .modLink_of_state rfl
  · split
    · exact .modLink_of_state rfl
    case h_2.isFalse c _ _ =>
      have opened : s.hub.LinksKept (s.hub.modLink p fun l => { l with context := some { c with received := number :: c.received } }) :=
        .modLink_of_state rfl
      unfold State.storeLine
      dsimp only
      split
      · exact opened.trans (.of_items rfl rfl)
      · exact opened.trans (.of_items rfl rfl)
      · exact opened

theorem State.frameEnd_linksKept (s : State) (p : Port) (linesSent status : Nat) :
    s.hub.LinksKept (s.frameEnd p linesSent status).hub := by
  unfold State.frameEnd
  split
  · exact .modLink_of_state rfl
  · refine Hub.LinksKept.trans ?_ (State.frameEnded_linksKept _ p _ _)
    exact .modLink_of_state rfl

end

section
variable {s t : State}

theorem execFrameStart_linksHold {p : Port} {number width height id : Nat} (e : execFrameStart p number width height id s = .next t)
    (l : s.hub.LinksHold) : t.hub.LinksHold := by
  unfold execFrameStart at e
  split at e
  · exact Hub.linksHold_ends.settled e ((s.frameStart_linksKept p _ _ _ _).holds l)
  · cases e; exact l

theorem execLine_linksHold {p : Port} {number : Nat} {pixels : List Nat} (e : execLine p number pixels s = .next t)
    (l : s.hub.LinksHold) : t.hub.LinksHold := by
  unfold execLine at e
  split at e
  · exact Hub.linksHold_ends.settled e ((s.line_linksKept p _ _).holds l)
  · cases e; exact l

theorem execFrameEnd_linksHold {p : Port} {linesSent status : Nat} (e : execFrameEnd p linesSent status s = .next t)
    (l : s.hub.LinksHold) : t.hub.LinksHold := by
  unfold execFrameEnd at e
  split at e
  · exact Hub.linksHold_ends.settled e ((s.frameEnd_linksKept p _ _).holds l)
  · cases e; exact l

theorem execFillDeadline_linksHold {p : Port} (e : execFillDeadline p s = .next t) (l : s.hub.LinksHold) : t.hub.LinksHold := by
  unfold execFillDeadline at e
  split at e
  · exact Hub.linksHold_ends.settled e ((s.completeFrame_linksKept p _ _ _ _).holds l)
  · cases e; exact l

/-! ## Events of the engines and of the current -/

theorem execSettlingEnd_linksHold {n : EngineNo} (e : execSettlingEnd n s = .next t) (l : s.hub.LinksHold) : t.hub.LinksHold := by
  unfold execSettlingEnd at e
  split at e
  · exact Hub.linksHold_ends.event e ((s.hub.setEngine_linksKept n _).holds l)
  · cases e; exact l

theorem execShot_linksHold {n : EngineNo} {trace : List (Nat × Int)} (e : execShot n trace s = .next t) (l : s.hub.LinksHold) :
    t.hub.LinksHold := by
  unfold execShot at e
  split at e
  · exact Hub.linksHold_ends.event e (Hub.shotEnd_linksHold n _ trace l)
  · cases e; exact l

theorem execRepeatIntervalEnd_linksHold {n : EngineNo} (e : execRepeatIntervalEnd n s = .next t) (l : s.hub.LinksHold) :
    t.hub.LinksHold := by
  unfold execRepeatIntervalEnd at e
  split at e
  · exact Hub.linksHold_ends.event e ((s.hub.setEngine_linksKept n _).holds l)
  · cases e; exact l

/-- A current that a row reports trips its port or has that row's own effect (R47). -/
theorem State.senseCurrent_linksHold {p : Port} {current : Nat} {own : Hub → Bool} {act : Hub → Hub}
    (e : s.senseCurrent p current own act = .next t) (l : s.hub.LinksHold) (acts : (act s.hub).LinksHold) : t.hub.LinksHold := by
  refine Hub.linksHold_ends.when e l fun _ => ?_
  split
  · exact Hub.trip_linksHold p _ l
  · exact acts

section
variable {p : Port} {current : Nat}

theorem execOvercurrentRise_linksHold (e : execOvercurrentRise p current s = .next t) (l : s.hub.LinksHold) : t.hub.LinksHold :=
  State.senseCurrent_linksHold e l (Hub.LinksKept.holds (.modPower id) l)

theorem execOvercurrentFall_linksHold (e : execOvercurrentFall p current s = .next t) (l : s.hub.LinksHold) : t.hub.LinksHold :=
  State.senseCurrent_linksHold e l (Hub.LinksKept.holds (.modPower id) l)

theorem execTrip_linksHold (e : execTrip p current s = .next t) (l : s.hub.LinksHold) : t.hub.LinksHold :=
  State.senseCurrent_linksHold e l (Hub.trip_linksHold p .trip l)

theorem execHardShort_linksHold (e : execHardShort p current s = .next t) (l : s.hub.LinksHold) : t.hub.LinksHold :=
  State.senseCurrent_linksHold e l l

end

end

theorem Hub.phaseOver_not_on {h : Hub} {p : Port} {x : PowerState} {duration : Nat} (due : h.phaseOver p x duration = true)
    (other : x ≠ .on) : (h.pw p).state ≠ .on := by
  simp only [Hub.phaseOver, Bool.and_eq_true, decide_eq_true_eq] at due
  rwa [due.1]

/-- Every command keeps the law of links: a link leaves DOWN where its port becomes ON alone; it is dropped, with all that
uses it, before or as its port leaves ON; and motions, triggers and slots come on an established link alone. -/
theorem exec_linksHold (i : Instr) (s t : State) (e : exec i s = .next t) (l : s.hub.LinksHold) : t.hub.LinksHold := by
  have ends := Hub.linksHold_ends
  cases i with
  | coldReset => exact ends.event e (Hub.coldReset_linksHold _)
  | trunkUp => exact ends.when e l fun _ => Hub.trunkReturns_linksHold _ l
  | trunkLoss => exact ends.when e l fun _ => Hub.trunkLost_linksHold _ l
  | requestPacketReceived pkt => exact ends.when e l fun _ => (Hub.arrive_linksKept pkt).holds l
  | badRequest => exact ends.badRequest (fun l => l) e l
  | packetSendEnd => exact ends.when e l fun _ => Hub.sendEnd_linksHold _ l
  | imageQueueTakesPacket p => exact ends.when e l fun _ => Hub.LinksKept.holds (.of_items (by simp [Hub.linkItems]) (by simp)) l
  | answeredSlotReplyOffer =>
    exact ends.when e l fun _ =>
      Hub.LinksKept.holds (.of_waits (by simp [Hub.linkItems]) (s.hub.offerAnswered_slotsPass none).waitsKept) l
  | identify r | timeRead r => exact ends.take (forHub_keeps fun _ l => l) e l
  | partReset r => exact ends.take (forHub_keeps fun _ l => l) e l
  | readEvents r => exact ends.take (forEither_keeps fun p h => (h.readEvents_linksKept p).holds) e l
  | noticeSet r kinds => exact ends.take (forHub_keeps fun h => (h.noticeSet_linksKept kinds).holds) e l
  | isolate r action => exact ends.take (forPort_keeps fun p _ => Hub.isolate_linksHold p action) e l
  | portRead r | dropHistoryRead r | lensRead r | frameList r => exact ends.take (forPort_keeps fun _ _ l => l) e l
  | linkSet r degrade drop => exact ends.take (forPort_keeps fun p _ => (Hub.linkSet_linksKept p _ _).holds) e l
  | linkTest r count => exact ends.take (forPort_keeps fun p _ => (Hub.linkTest_linksKept p _).holds) e l
  | attrRead r address count | attrWrite r address words =>
    exact ends.takeLater (passFor_keeps fun p _ => Hub.passThrough_linksHold p _ _ _ _) e l
  | passThroughTimeout slot => exact ends.when e l fun _ => (s.hub.answerSlot_linksKept slot _ _).holds l
  | budgetSet r budget => exact ends.take (forHub_keeps fun _ => Hub.budgetSet_linksHold budget) e l
  | portPowerSet r grant limit priority allowance =>
    exact ends.take (forPort_keeps fun p _ => (Hub.portPowerSet_linksKept p _ _ _ _).holds) e l
  | powerOn r => exact ends.take (forPort_keeps fun p _ => Hub.powerOn_linksHold p) e l
  | powerOff r => exact ends.take (forPort_keeps fun p _ => Hub.powerOff_linksHold p) e l
  | detectionEnd p load =>
    exact ends.when e l fun due => Hub.detected_linksHold (Hub.phaseOver_not_on due (by decide)) l
  | rampOutputReached p output => exact ends.when e l fun _ => Hub.rampReached_linksHold p l
  | rampFail p output => exact ends.when e l fun _ => Hub.trip_linksHold p _ l
  | overcurrentRise p current => exact execOvercurrentRise_linksHold e l
  | overcurrentFall p current => exact execOvercurrentFall_linksHold e l
  | trip p current => exact execTrip_linksHold e l
  | hardShort p current => exact execHardShort_linksHold e l
  | cooldownEnd p =>
    refine ends.when e l fun due => Hub.cooldownOver_linksHold ?_ l
    simp only [Hub.cooldownDue, Bool.and_eq_true, decide_eq_true_eq] at due
    simp [due.1.1]
  | supplySample mv => exact ends.event e (Hub.supplySample_linksHold mv l)
  | trainingAttemptEnd p =>
    refine ends.when e l fun due => Hub.attemptEnd_linksHold ?_ l
    simp only [Bool.and_eq_true, decide_eq_true_eq] at due
    exact due.1
  | lockReply p => exact ends.when e l fun training => (Hub.lockReply_linksKept (by simpa using training)).holds l
  | lossOfLock p => exact ends.when e l fun up => Hub.lossOfLock_linksHold up l
  | errorWindowEnd p => exact ends.when e l fun _ => (s.hub.windowEnd_linksKept p).holds l
  | badUpstreamPacket p bytes => exact ends.when e l fun _ => (Hub.badPacket_linksKept p).holds l
  | frameStart p number width height id => exact execFrameStart_linksHold e l
  | line p number pixels => exact execLine_linksHold e l
  | frameEnd p linesSent status => exact execFrameEnd_linksHold e l
  | fillDeadline p => exact execFillDeadline_linksHold e l
  | ack p sequence => exact ends.when e l fun _ => (s.hub.ackTaken_linksKept p _).holds l
  | ackWaitEnd p => exact ends.when e l fun _ => (s.hub.waitEnds_linksKept p).holds l
  | downstreamMessageSent p => exact ends.when e l fun _ => (s.hub.messageSent_linksKept p).holds l
  | attrReply p attr status words => exact ends.when e l fun _ => (Hub.attrReply_linksKept p _ _ _).holds l
  | lensReport p axis position kind => exact ends.when e l fun _ => (s.hub.lensReport_linksKept p _ _ _).holds l
  | lensDeadline p axis => exact ends.when e l fun _ => (s.hub.axisTimeout_linksKept p axis).holds l
  | lensProfileLoad r focus zoom iris =>
    exact ends.take (forPort_keeps fun p _ => (Hub.lensProfileLoad_linksKept p _ _ _).holds) e l
  | lensHome r axis => exact ends.take (forPort_keeps fun p _ => Hub.lensHome_linksHold p axis) e l
  | lensMove r axis target => exact ends.take (forPort_keeps fun p _ => Hub.lensMove_linksHold p axis target) e l
  | lensStop r axis => exact ends.take (forPort_keeps fun p _ => Hub.lensStop_linksHold p axis) e l
  | focusTableLoad r stop zoom points =>
    exact ends.take (forPort_keeps fun p _ => (Hub.focusTableLoad_linksKept p _ _ _).holds) e l
  | lensFocusDistance r d => exact ends.take (forPort_keeps fun p _ => Hub.lensFocusDistance_linksHold p d) e l
  | encoderStep a b => exact ends.event e (Hub.encoderStep_linksHold a b l)
  | triggerTimeout p => exact ends.when e l fun _ => (Hub.triggerTimeout_linksKept p).holds l
  | triggerLineRise n | triggerLineFall n => exact ends.when e l fun _ => l
  | filterTimeEnd n => exact ends.when e l fun _ => Hub.fireLine_linksHold n l
  | encoderSet r value => exact ends.take (forHub_keeps fun _ => (Hub.encoderSet_linksKept value).holds) e l
  | triggerLineSet r line filter => exact ends.take (forHub_keeps fun _ => (Hub.triggerLineSet_linksKept _ _).holds) e l
  | triggerSet r source pitch phase direction policy timeout =>
    exact ends.take (forPort_keeps fun p _ => (Hub.triggerSet_linksKept p _ _ _ _ _ _).holds) e l
  | triggerSoft r mask => exact ends.take (forHub_keeps fun _ => Hub.triggerSoft_linksHold mask) e l
  | triggerRead r | faultRead r => exact ends.take (forEither_keeps fun _ _ l => l) e l
  | cableTypeSet r type speed polarity threshold =>
    exact ends.take (forHub_keeps fun _ => (Hub.cableTypeSet_linksKept _ _ _ _).holds) e l
  | portCableSet r type length tolerance offset =>
    exact ends.take (forPort_keeps fun p _ => (Hub.portCableSet_linksKept p _ _ _ _).holds) e l
  | autoSweepSet r flags sweep => exact ends.take (forPort_keeps fun p _ => (Hub.autoSweepSet_linksKept p _ _).holds) e l
  | sweepRequest r sweep first => exact ends.take (forPort_keeps fun p _ => Hub.sweepRequest_linksHold p _ _) e l
  | settlingEnd n => exact execSettlingEnd_linksHold e l
  | shot n trace => exact execShot_linksHold e l
  | repeatIntervalEnd n => exact execRepeatIntervalEnd_linksHold e l
  | sweepCancel r => exact ends.take (forPort_keeps fun p _ => Hub.cancelSweep_linksHold p) e l
  | faultClear r => exact ends.take (forPort_keeps fun p _ => (Hub.faultClear_linksKept p).holds) e l
  | ringSet r start length timeout => exact ends.take (forPort_keeps fun p _ => (Hub.ringSet_linksKept p _ _ _).holds) e l
  | frameHold r number => exact ends.take (forPort_keeps fun p _ => (Hub.frameHold_linksKept p _).holds) e l
  | frameRelease r number => exact ends.take (forPort_keeps fun p _ => (Hub.frameRelease_linksKept p _).holds) e l
  | viewLoad r view params => exact ends.take (forHub_keeps fun _ => (Hub.viewLoad_linksKept _ _).holds) e l
  | viewBind r view => exact ends.take (forPort_keeps fun p _ => (Hub.viewBind_linksKept p _).holds) e l
  | viewUnbind r | pipeReset r => exact ends.take (forPort_keeps fun _ _ l => l) e l
  | coefSelect r table => exact ends.take (forHub_keeps fun _ => (Hub.coefSelect_linksKept _).holds) e l
  | coefWrite r values => exact ends.take (forHub_keeps fun _ => (Hub.coefWrite_linksKept _).holds) e l
  | frameResend r number view => exact ends.take (forPort_keeps fun p _ => (Hub.frameResend_linksKept s.dram p _ _).holds) e l
  | egressSet r settings => exact ends.take (forEither_keeps fun p _ => (Hub.egressSet_linksKept settings p).holds) e l

/-- Settles O10: every command keeps the law, and a microsecond of hub time changes neither links nor what uses them. -/
theorem linksFollowPower : Obligations.LinksFollowPower := by
  intro s t l e
  unfold step at e
  split at e
  case h_1 => cases e; exact l
  case h_2 i rest _ => exact exec_linksHold i { s with pending := rest } t e l

end Sys2Proof.Machine

/-! # Updates of one port's items, composed -/

namespace Sys2Proof.Machine

theorem vmod_vmod {α : Type} {n : Nat} (v : Vector α n) (i : Fin n) (f g : α → α) :
    vmod (vmod v i f) i g = vmod v i fun x => g (f x) := by
  simp [vmod, vset, vget]

/-- An update depends on what its function does to the item that stands there. -/
theorem vmod_congr {α : Type} {n : Nat} {v : Vector α n} {i : Fin n} {f g : α → α} (e : f (vget v i) = g (vget v i)) :
    vmod v i f = vmod v i g := by
  simp only [vmod, e]

section
variable {h : Hub} {p : Port}

theorem Hub.modLink_modLink (f g : LinkCtl → LinkCtl) : (h.modLink p f).modLink p g = h.modLink p fun l => g (f l) := by
  simp only [Hub.modLink, vmod_vmod]

theorem Hub.modLink_congr {f g : LinkCtl → LinkCtl} (e : f (h.lk p) = g (h.lk p)) : h.modLink p f = h.modLink p g := by
  simp only [Hub.modLink, vmod_congr e]

theorem Hub.modFrames_modFrames (f g : PortFrames → PortFrames) :
    (h.modFrames p f).modFrames p g = h.modFrames p fun x => g (f x) := by
  simp only [Hub.modFrames, vmod_vmod]

theorem Hub.modFrames_congr {f g : PortFrames → PortFrames} (e : f (h.fr p) = g (h.fr p)) :
    h.modFrames p f = h.modFrames p g := by
  simp only [Hub.modFrames, vmod_congr e]

end

end Sys2Proof.Machine

/-! # The settings of the link (R26, R32) -/

namespace Sys2Proof.Machine

theorem within_iff {lo hi n : Nat} : within lo hi n = true ↔ lo ≤ n ∧ n ≤ hi := by simp [within]

section
variable {h : Hub} {p : Port} {degrade drop count : Nat}

theorem Hub.linkSet_of_range (fits : 1 ≤ degrade ∧ degrade ≤ 255 ∧ 1 ≤ drop ∧ drop ≤ 15) :
    h.linkSet p degrade drop =
      (h.modLink p fun l => { l with degradeAt := degrade, dropAt := drop }, okWith (u8 degrade ++ u8 drop)) := by
  obtain ⟨e1, e2, d1, d2⟩ := fits
  simp [Hub.linkSet, within, e1, e2, d1, d2]

theorem Hub.linkSet_of_not_range (misses : ¬ (1 ≤ degrade ∧ degrade ≤ 255 ∧ 1 ≤ drop ∧ drop ≤ 15)) :
    h.linkSet p degrade drop = (h, refuse .range) := by
  simp only [Hub.linkSet, Bool.and_eq_true, within_iff, and_assoc, if_neg misses]

theorem Hub.linkTest_of_not_range (misses : ¬ (1 ≤ count ∧ count ≤ 15)) : h.linkTest p count = (h, refuse .range) := by
  simp [Hub.linkTest, mt within_iff.mp misses]

theorem Hub.linkTest_of_down (fits : within 1 15 count = true) (down : (h.lk p).established = false) :
    h.linkTest p count = (h, refuse .linkDown) := by
  simp [Hub.linkTest, fits, down]

theorem Hub.linkTest_of_up (fits : within 1 15 count = true) (up : (h.lk p).established = true) :
    h.linkTest p count = (h.modLink p fun l => { l with testCount := count }, okWith (u8 count)) := by
  simp [Hub.linkTest, fits, up]

end

/-- Settles O35: each outcome is the owner's answer on the hub whose head request is taken. -/
theorem linkSettingsReplaced : Obligations.LinkSettingsReplaced := by
  intro s r pkt p e d n
  refine ⟨fun asked => ⟨fun fits => ?set, fun misses => ?setRange⟩,
    fun asked => ⟨fun misses => ?testRange, fun lo hi down => ?testDown, fun lo hi up => ?test⟩⟩
  case set => exact State.answers_forPort rfl rfl asked (Hub.linkSet_of_range fits)
  case setRange => exact State.answers_forPort rfl rfl asked (Hub.linkSet_of_not_range misses)
  case testRange => exact State.answers_forPort rfl rfl asked (Hub.linkTest_of_not_range misses)
  case testDown => exact State.answers_forPort rfl rfl asked (Hub.linkTest_of_down (within_iff.mpr ⟨lo, hi⟩) down)
  case test => exact State.answers_forPort rfl rfl asked (Hub.linkTest_of_up (within_iff.mpr ⟨lo, hi⟩) up)

end Sys2Proof.Machine

/-! # Automatic sweeps of a powered port (R55, R67) -/

namespace Sys2Proof.Machine

section
variable {h : Hub} {p : Port}

/-- A departure from ON of a port whose link is DOWN leaves the links as they are (R20). -/
theorem Hub.leftOn_link_of_down (down : (h.lk p).state = .down) : (h.leftOn p).link = h.link := by
  simp only [Hub.leftOn, Hub.linkPowerLost, down]
  exact h.lensPowerLost_link p (by simp [LinkCtl.established, down])

/-- An engine takes an entry to RUNNING: no port that is swept or waits for its sweep becomes IDLE. -/
theorem Hub.engineTakes_swept (e : EngineNo) (busy : (h.cb p).sweepStatus ≠ .idle) :
    ((h.engineTakes e).cb p).sweepStatus ≠ .idle := by
  unfold Hub.engineTakes
  split
  case h_1 q rest _ _ =>
    by_cases same : p = q.port
    · subst same; simp
    · rw [Hub.modCable_cb_ne _ _ _ same]
      exact busy
  case h_2 => exact busy

/-- A port whose entry joins the queue is QUEUED, or RUNNING at once. -/
theorem Hub.enqueueSweep_swept (params : SweepParams) (origin : SweepOrigin) :
    ((h.enqueueSweep p params origin).cb p).sweepStatus ≠ .idle := by
  unfold Hub.enqueueSweep
  exact Hub.engineTakes_swept 1 (Hub.engineTakes_swept 0 (by simp))

@[simp] theorem Hub.enqueueSweep_pw (params : SweepParams) (origin : SweepOrigin) (q : Port) :
    (h.enqueueSweep p params origin).pw q = h.pw q := by simp [Hub.pw]
@[simp] theorem Hub.enqueueSweep_lk (params : SweepParams) (origin : SweepOrigin) (q : Port) :
    (h.enqueueSweep p params origin).lk q = h.lk q := by simp [Hub.lk]
@[simp] theorem Hub.enqueueSweep_ax (params : SweepParams) (origin : SweepOrigin) (q : Port) (x : AxisId) :
    (h.enqueueSweep p params origin).ax q x = h.ax q x := by simp [Hub.ax, Hub.ln]

/-- An automatic request for an idle port that is ON: it is powered down with SWEEP first, and queued. -/
theorem Hub.autoSweep_of_on (origin : SweepOrigin) (idle : (h.cb p).sweepStatus = .idle) (on : (h.pw p).state = .on) :
    h.autoSweep p origin =
      (h.turnOff p .sweep 0).enqueueSweep p ((h.turnOff p .sweep 0).cb p).auto origin := by
  have powered : (h.pw p).powered = true := by simp [PortPower.powered, on]
  simp [Hub.autoSweep, idle, Hub.powerDown, powered]

end

end Sys2Proof.Machine

/-! # Training (R16 to R19) -/

namespace Sys2Proof.Machine

section
variable {h : Hub} {p : Port}

theorem Hub.attemptEnd_of_more (more : (h.lk p).attempt < 3) :
    h.attemptEnd p = h.modLink p fun l => { l with attempt := l.attempt + 1, attemptStart := h.time } := by
  rw [Hub.attemptEnd, if_pos more]

/-- The third attempt that ends brings DOWN with TRAIN_FAIL (R19). -/
def Hub.trainFailed (h : Hub) (p : Port) : Hub :=
  (h.modLink p fun l => { l with state := .down, note := .trainFail, channel := .idle }).flag p fLink

theorem Hub.attemptEnd_of_last (last : 3 ≤ (h.lk p).attempt) :
    h.attemptEnd p = if (h.cb p).onLinkFail then (h.trainFailed p).autoSweep p .autoLink else h.trainFailed p := by
  have same : ((h.trainFailed p).cb p).onLinkFail = (h.cb p).onLinkFail := by simp [Hub.trainFailed, Hub.cb]
  rw [Hub.attemptEnd, if_neg (by omega), ← same]
  rfl

theorem Hub.trainFailed_lk :
    (h.trainFailed p).lk p = { h.lk p with state := .down, note := .trainFail, channel := .idle } := by
  simp [Hub.trainFailed, Hub.lk]

/-- The automatic sweep of a link that failed to train powers its port down (R19, R55, R67). -/
theorem Hub.trainFailed_autoSweep (idle : (h.cb p).sweepStatus = .idle) (on : (h.pw p).state = .on) :
    (((h.trainFailed p).autoSweep p .autoLink).lk p = (h.trainFailed p).lk p) ∧
      (((h.trainFailed p).autoSweep p .autoLink).pw p).state = .off ∧
      (((h.trainFailed p).autoSweep p .autoLink).pw p).cause = .sweep ∧
      (((h.trainFailed p).autoSweep p .autoLink).cb p).sweepStatus ≠ .idle := by
  have on' : ((h.trainFailed p).pw p).state = .on := by simpa [Hub.trainFailed, Hub.pw] using on
  have down : (((h.trainFailed p).cutPower p .sweep 0).lk p).state = .down := by
    rw [Hub.lk, Hub.cutPower_units.2.1, ← Hub.lk, Hub.trainFailed_lk]
  rw [Hub.autoSweep_of_on .autoLink (by simpa [Hub.trainFailed, Hub.cb] using idle) on']
  refine ⟨?_, ?_, ?_, Hub.enqueueSweep_swept _ _⟩
  · rw [Hub.enqueueSweep_lk, Hub.turnOff_of_on on', Hub.lk, Hub.leftOn_link_of_down down, Hub.cutPower_units.2.1, ← Hub.lk]
  · rw [Hub.enqueueSweep_pw, Hub.turnOff_pw]
  · rw [Hub.enqueueSweep_pw, Hub.turnOff_pw]

end

/-- Settles O36: the end of an attempt by its number and by ON_LINK_FAIL, and the lock reply. -/
theorem trainingEndsInLockOrFailure : Obligations.TrainingEndsInLockOrFailure := by
  intro s p
  refine ⟨fun training due => ?ends, fun training early => ?early, fun training => ?lock, fun other => ?still⟩
  case ends =>
    have does := State.does_of_when (i := .trainingAttemptEnd p) (s := s) rfl (by simp [training, passed, due])
    refine ⟨fun more => ?_, fun last off => ?_, fun last sweeps idle on => ?_⟩
    · rwa [Hub.attemptEnd_of_more more] at does
    · rw [Hub.attemptEnd_of_last last, off] at does
      exact does
    · rw [Hub.attemptEnd_of_last last, if_pos sweeps] at does
      obtain ⟨link, state, cause, swept⟩ := Hub.trainFailed_autoSweep idle on
      refine ⟨_, does, ?_⟩
      rw [link, Hub.trainFailed_lk]
      refine ⟨rfl, rfl, rfl, rfl, state, cause, swept, fun q e => ?_⟩
      simp [Hub.pw, Hub.lk, Hub.trainFailed, vget_vmod_ne, e]
  case early => exact State.next_of_not_when (i := .trainingAttemptEnd p) rfl (by simp [passed, early])
  case lock => exact State.does_of_when (i := .lockReply p) rfl (by simp [training])
  case still => exact State.next_of_not_when (i := .lockReply p) rfl (by simp [other])

end Sys2Proof.Machine

/-! # Link errors and error windows (R16, R24, R25, R128) -/

namespace Sys2Proof.Machine

section
variable {h : Hub} {p : Port}

/-- The link items with one error more in the window (R24). -/
def LinkCtl.oneError (l : LinkCtl) : LinkCtl := { l with windowErrors := Nat.min 65535 (l.windowErrors + 1) }

/-- An error below the threshold, or on a link that is not UP, is counted. -/
theorem Hub.linkError_of_counted
    (few : (h.lk p).state ≠ .up ∨ Nat.min 65535 ((h.lk p).windowErrors + 1) < (h.lk p).degradeAt) :
    h.linkError p = h.modLink p LinkCtl.oneError := by
  have below : ¬ ((h.lk p).state = .up ∧ (h.lk p).degradeAt ≤ Nat.min 65535 ((h.lk p).windowErrors + 1)) := by
    rintro ⟨up, full⟩
    rcases few with other | few
    · exact other up
    · omega
  unfold Hub.linkError
  dsimp only
  rw [if_neg (by simpa using below)]
  rfl

/-- The error that reaches the threshold on an UP link degrades it (R25, R128). -/
theorem Hub.linkError_of_full (up : (h.lk p).state = .up)
    (full : (h.lk p).degradeAt ≤ Nat.min 65535 ((h.lk p).windowErrors + 1)) :
    h.linkError p = ((h.modLink p fun l => { l.oneError with state := .degraded }).flag p fDegrade).degradeFilling p := by
  unfold Hub.linkError
  dsimp only
  rw [if_pos (by simpa [up] using full), Hub.modLink_modLink]
  rfl

theorem Hub.windowEnd_of_clean (degraded : (h.lk p).state = .degraded) (clean : (h.lk p).windowErrors = 0) :
    h.windowEnd p = (h.modLink p fun l =>
      { l with windowErrors := 0, windowStart := l.windowStart + 100000, state := .up }).flag p fDegrade := by
  unfold Hub.windowEnd
  dsimp only
  rw [if_pos (by simp [degraded, clean]), Hub.modLink_modLink]
  rfl

theorem Hub.windowEnd_of_errors (other : (h.lk p).state ≠ .degraded ∨ (h.lk p).windowErrors ≠ 0) :
    h.windowEnd p = h.modLink p fun l => { l with windowErrors := 0, windowStart := l.windowStart + 100000 } := by
  unfold Hub.windowEnd
  dsimp only
  rw [if_neg]
  · rfl
  · simp only [Bool.and_eq_true, decide_eq_true_eq]
    rintro ⟨degraded, clean⟩
    rcases other with other | other
    · exact other degraded
    · exact other clean

end

/-- Settles O37: a bad packet is a counted packet and a link error; a window's end by the link's state and its errors. -/
theorem linkErrorsDegrade : Obligations.LinkErrorsDegrade := by
  intro s p bytes
  have counted : ((s.hub.modLink p fun l => { l with crcErrors := l.crcErrors + 1 }).lk p) =
      { s.hub.lk p with crcErrors := (s.hub.lk p).crcErrors + 1 } := by simp
  refine ⟨fun up bad => ?bad, fun good => ?good, fun up due => ?ends, fun early => ?early⟩
  case bad =>
    have does := State.does_of_when (i := .badUpstreamPacket p bytes) (s := s) rfl (by simp [up, bad])
    refine ⟨fun few => ?_, fun state full => ?_⟩
    · rw [Hub.badPacket, Hub.linkError_of_counted (by rw [counted]; exact few.imp (fun e => by simp [e]) id),
        Hub.modLink_modLink] at does
      exact does
    · rw [Hub.badPacket, Hub.linkError_of_full (by rw [counted]; exact state) (by rw [counted]; exact full),
        Hub.modLink_modLink] at does
      exact does
  case good =>
    refine State.next_of_not_when (i := .badUpstreamPacket p bytes) rfl ?_
    rcases good with down | good
    · simp [down]
    · simp [Option.isSome_iff_ne_none.mpr good]
  case ends =>
    have does := State.does_of_when (i := .errorWindowEnd p) (s := s) rfl (by simp [up, passed, due])
    refine ⟨fun degraded clean => ?_, fun other => ?_⟩
    · rwa [Hub.windowEnd_of_clean degraded clean] at does
    · rwa [Hub.windowEnd_of_errors (other.imp (fun e => by simp [e]) id)] at does
  case early =>
    refine State.next_of_not_when (i := .errorWindowEnd p) rfl ?_
    rcases early with down | early
    · simp [down]
    · simp [passed, early]

end Sys2Proof.Machine

/-! # Loss of lock (R21 to R23) -/

namespace Sys2Proof.Machine

section
variable {h : Hub} {p : Port}

@[simp] theorem Hub.drop_time (cause : DropCause) (enter : LinkCtl → LinkCtl) : (h.drop p cause enter).time = h.time := by simp
@[simp] theorem Hub.drop_cb (cause : DropCause) (enter : LinkCtl → LinkCtl) (q : Port) :
    (h.drop p cause enter).cb q = h.cb q := by simp [Hub.cb]

/-- The link items after a loss of lock (R21, R22). -/
theorem Hub.drop_train_lk (bounded : (h.lk p).history.length ≤ 16) :
    (h.drop p .lossOfLock (LinkCtl.train h.time)).lk p = { h.lk p with
      state := .training, attempt := 1, attemptStart := h.time, channel := .training trainingBytes
      history := (h.lk p).historyWith (h.dropSeen p .lossOfLock), drops := (h.lk p).drops + 1, testCount := 0
      pendingTrigger := none, queue := [], sendCount := 0, ackWait := none, waitEnded := false, context := none } := by
  rw [h.drop_lk p _ _ fun l => (LinkCtl.train_enters h.time l).1, LinkCtl.historyWith_eq bounded]
  rfl

/-- The number of LOSS_OF_LOCK drops of the last 10 s, with the one that comes (R23). -/
theorem Hub.drop_train_recentLosses (bounded : (h.lk p).history.length ≤ 16) :
    ((h.drop p .lossOfLock (LinkCtl.train h.time)).lk p).recentLosses (h.drop p .lossOfLock (LinkCtl.train h.time)).time =
      (((h.lk p).historyWith (h.dropSeen p .lossOfLock)).filter fun r =>
        r.cause = .lossOfLock && decide (elapsed h.time r.time < 10000000)).length := by
  rw [Hub.drop_train_lk bounded, Hub.drop_time]
  rfl

/-- A loss of lock below the threshold, or without ON_DROPS, is a drop alone. -/
theorem Hub.lossOfLock_of_few (bounded : (h.lk p).history.length ≤ 16)
    (few : (h.cb p).onDrops = false ∨ (((h.lk p).historyWith (h.dropSeen p .lossOfLock)).filter fun r =>
      r.cause = .lossOfLock && decide (elapsed h.time r.time < 10000000)).length < (h.lk p).dropAt) :
    h.lossOfLock p = h.drop p .lossOfLock (LinkCtl.train h.time) := by
  unfold Hub.lossOfLock
  dsimp only
  rw [if_neg]
  rw [Hub.drop_train_recentLosses bounded, Hub.drop_train_lk bounded, Hub.drop_cb]
  rcases few with off | few
  · simp [off]
  · simp [few]

theorem Hub.lossOfLock_of_many (bounded : (h.lk p).history.length ≤ 16) (asks : (h.cb p).onDrops = true)
    (many : (h.lk p).dropAt ≤ (((h.lk p).historyWith (h.dropSeen p .lossOfLock)).filter fun r =>
      r.cause = .lossOfLock && decide (elapsed h.time r.time < 10000000)).length) :
    h.lossOfLock p = (h.drop p .lossOfLock (LinkCtl.train h.time)).autoSweep p .autoDrops := by
  unfold Hub.lossOfLock
  dsimp only
  rw [if_pos]
  rw [Hub.drop_train_recentLosses bounded, Hub.drop_train_lk bounded, Hub.drop_cb, asks]
  simpa using many

/-- A slot that does not wait on the port that drops is as it was, or its kept reply is offered. -/
theorem Hub.SlotsPass.same_or_freed {k : Hub} (pass : h.SlotsPass k (some p)) {i : SlotNo}
    (other : (vget h.mgmt.slots i).waitsOn p = false) :
    vget k.mgmt.slots i = vget h.mgmt.slots i ∨
      (∃ reply, vget h.mgmt.slots i = .answered reply) ∧ vget k.mgmt.slots i = .free := by
  cases pass.slot i with
  | same e => exact .inl e
  | freed reply was now => exact .inr ⟨⟨reply, was⟩, now⟩
  | answered q tag kind attr deadline drop was =>
    cases drop
    simp [was, Slot.waitsOn] at other

/-- A still axis keeps its position and outcome over a drop (R97). -/
theorem Hub.drop_ax_of_still {cause : DropCause} {enter : LinkCtl → LinkCtl} {x : AxisId} (still : (h.ax p x).moving = false) :
    ((h.drop p cause enter).ax p x).position = (h.ax p x).position ∧ ((h.drop p cause enter).ax p x).motion = .idle ∧
      ((h.drop p cause enter).ax p x).outcome = (h.ax p x).outcome := by
  obtain ⟨-, position, motion, outcome⟩ := moving_of_bare ((h.drop_ax p cause enter x).2 still)
  exact ⟨position, motion.trans (by simpa [Axis.moving] using still), outcome⟩

/-! ## A drop followed by the sweep's power-down (R23, R55) -/

/-- A departure from ON of a port whose link trains and whose lens is still (R20, R98). -/
theorem Hub.leftOn_of_training (training : (h.lk p).state = .training) (still : (h.ln p).anyMotion = false) :
    h.leftOn p = ((h.modLink p LinkCtl.powerLost).flag p fLink).modLens p PortLens.unpowered := by
  simp only [Hub.leftOn, Hub.linkPowerLost, training]
  exact Hub.lensPowerLost_of_still (by simpa [Hub.ln] using still)

/-- The hub of a port turned off while its link trains and its lens is still. -/
def Hub.cutWhileTraining (h : Hub) (p : Port) (cause : OffCause) : Hub :=
  (((h.cutPower p cause 0).modLink p LinkCtl.powerLost).flag p fLink).modLens p PortLens.unpowered

theorem Hub.turnOff_of_training {cause : OffCause} (on : (h.pw p).state = .on) (training : (h.lk p).state = .training)
    (still : (h.ln p).anyMotion = false) : h.turnOff p cause 0 = h.cutWhileTraining p cause := by
  obtain ⟨-, link, lens, -⟩ := Hub.cutPower_units (h := h) (p := p) (cause := cause) (part := 0)
  rw [Hub.turnOff_of_on on, Hub.leftOn_of_training]
  · rfl
  · rwa [Hub.lk, link]
  · rwa [Hub.ln, lens]

section
variable {cause : OffCause}

theorem Hub.cutWhileTraining_lk : (h.cutWhileTraining p cause).lk p = (h.lk p).powerLost := by
  simp [Hub.cutWhileTraining, Hub.lk, Hub.cutPower]

theorem Hub.cutWhileTraining_ax (x : AxisId) : (h.cutWhileTraining p cause).ax p x = (h.ax p x).unpowered := by
  simp only [Hub.cutWhileTraining, Hub.ax, Hub.modLens_ln_same, PortLens.unpowered_axis]
  simp [Hub.ln, Hub.cutPower]

theorem Hub.cutWhileTraining_units :
    (h.cutWhileTraining p cause).tg p = h.tg p ∧ (h.cutWhileTraining p cause).fr p = h.fr p := by
  simp [Hub.cutWhileTraining, Hub.tg, Hub.fr, Hub.cutPower]

theorem Hub.cutWhileTraining_slotsPass (d : Option Port) : h.SlotsPass (h.cutWhileTraining p cause) d :=
  (((Hub.cutPower_slotsPass d).trans (Hub.modLink_slotsPass _ p _ d)).trans (Hub.flag_slotsPass _ p _ d)).trans
    (.of_same ⟨rfl, rfl, rfl⟩)

theorem Hub.cutWhileTraining_grow : h.FlagsGrow (h.cutWhileTraining p cause) :=
  Hub.modLens_grow (Hub.flag_grow (Hub.modLink_grow (Hub.raise_grow_of (Hub.modPower_grow (.refl h)))))

end

/-- What a drop has done to a port stays done when the port is then turned off while its link trains. -/
theorem Hub.LinkDropped.cutWhileTraining {k : Hub} {cause : DropCause} {off : OffCause} (l : h.LinkDropped k p cause)
    (pass : h.SlotsPass k (some p)) : h.LinkDropped (k.cutWhileTraining p off) p cause ∧
      h.SlotsPass (k.cutWhileTraining p off) (some p) := by
  obtain ⟨history, drops, queue, sendCount, ackWait, pendingTrigger, testCount, context, fLinked, fallen, fault, trigger,
    trigLost, frame, frameDrop, slots⟩ := l
  obtain ⟨trig, frames⟩ := Hub.cutWhileTraining_units (h := k) (p := p) (cause := off)
  have flags {f : BitVec 16} := (Hub.cutWhileTraining_grow (h := k) (p := p) (cause := off)).1 p f
  have cut := Hub.cutWhileTraining_slotsPass (h := k) (p := p) (cause := off) (some p)
  refine ⟨?_, pass.trans cut⟩
  rw [Hub.LinkDropped, Hub.cutWhileTraining_lk, trig, frames]
  refine ⟨history, drops, queue, sendCount, ackWait, pendingTrigger, testCount, context, flags fLinked, fun x moving => ?_,
    fun motion => ⟨flags (fault motion).1, ?_⟩, trigger, fun f hand => flags (trigLost f hand), frame,
    fun filling => flags (frameDrop filling), (pass.trans cut).slotsDropped fun i => cut.waitsOn (slots.1 i)⟩
  · rw [Hub.cutWhileTraining_ax, fallen x moving]
    rfl
  · simp [Hub.cutWhileTraining, Hub.cutPower, Hub.pw]

/-- An entry that joins the sweep queue leaves what a drop has done. -/
theorem Hub.LinkDropped.enqueueSweep {k : Hub} {cause : DropCause} {params : SweepParams} {origin : SweepOrigin}
    (l : h.LinkDropped k p cause) : h.LinkDropped (k.enqueueSweep p params origin) p cause := by
  simpa [Hub.LinkDropped, Hub.SlotsDropped, Hub.SlotAnswered, Hub.lk, Hub.ax, Hub.ln, Hub.pw, Hub.tg, Hub.fr] using l

/-- The automatic sweep after a loss of lock powers the port down, its lens and link already dropped (R23, R55). -/
theorem Hub.drop_train_autoSweep (bounded : (h.lk p).history.length ≤ 16)
    (idle : (h.cb p).sweepStatus = .idle) (on : (h.pw p).state = .on) :
    ∃ params, (h.drop p .lossOfLock (LinkCtl.train h.time)).autoSweep p .autoDrops =
      ((h.drop p .lossOfLock (LinkCtl.train h.time)).cutWhileTraining p .sweep).enqueueSweep p params .autoDrops := by
  have on' : ((h.drop p .lossOfLock (LinkCtl.train h.time)).pw p).state = .on :=
    (h.drop_kept p _ _).state.trans on
  have training := congrArg LinkCtl.state (Hub.drop_train_lk (h := h) bounded)
  have still := Hub.drop_still (h := h) (p := p) (cause := .lossOfLock) (enter := LinkCtl.train h.time)
  rw [← Hub.drop_cb .lossOfLock (LinkCtl.train h.time)] at idle
  generalize h.drop p .lossOfLock (LinkCtl.train h.time) = k at *
  have swept := Hub.autoSweep_of_on .autoDrops idle on'
  rw [Hub.turnOff_of_training on' training still] at swept
  exact ⟨_, swept⟩

end

/-- Settles O38: the drop in the words of LinkDropped, and after it, at the threshold, the power-down for a sweep. -/
theorem lossOfLockDropsTheLink : Obligations.LossOfLockDropsTheLink := by
  intro s p
  refine ⟨fun down => State.next_of_not_when (i := .lossOfLock p) rfl down, fun up bounded => ⟨fun few => ?drop, ?sweep⟩⟩
  all_goals
    have does := State.does_of_when (i := .lossOfLock p) (s := s) rfl up
    have dropped := Hub.drop_linkDropped (cause := .lossOfLock) (LinkCtl.train_enters s.hub.time) bounded
    obtain ⟨pass, -⟩ := s.hub.drop_slotsPass p .lossOfLock (LinkCtl.train s.hub.time)
  case drop =>
    rw [Hub.lossOfLock_of_few bounded few] at does
    refine ⟨_, does, Hub.drop_train_lk bounded, dropped, fun x => Hub.drop_ax_of_still, fun i => pass.same_or_freed,
      (s.hub.drop_kept p _ _).state, Hub.drop_keeps_flag _ _ _ _ (Hub.dropStart_fLink _ _ _ _), by simp, fun q e => ?_⟩
    simp [Hub.pw, Hub.lk, Hub.ln, Hub.tg, Hub.fr, e]
  case sweep =>
    intro asks many idle on
    obtain ⟨params, swept⟩ := Hub.drop_train_autoSweep bounded idle on
    rw [Hub.lossOfLock_of_many bounded asks many, swept] at does
    refine ⟨_, does, ?_, ?_, (dropped.cutWhileTraining pass).1.enqueueSweep, fun x => ?_, ?_, ?_, ?_,
      Hub.enqueueSweep_swept _ _, fun q e => ?_⟩
    · rw [Hub.enqueueSweep_lk, Hub.cutWhileTraining_lk]
      rfl
    · rw [Hub.enqueueSweep_lk, Hub.cutWhileTraining_lk]
      rfl
    · rw [Hub.enqueueSweep_ax, Hub.cutWhileTraining_ax]
      exact ⟨rfl, rfl⟩
    · simp [Hub.cutWhileTraining, Hub.cutPower, Hub.pw]
    · simp [Hub.cutWhileTraining, Hub.cutPower, Hub.pw]
    · simp [Hub.cutWhileTraining, Hub.cutPower, Hub.pw]
    · simp [Hub.cutWhileTraining, Hub.cutPower, Hub.pw, Hub.lk, Hub.fr, vget_vmod_ne, e]

end Sys2Proof.Machine

/-! # The camera command queue and the channel (R27 to R32): sends, boundaries and completions -/

namespace Sys2Proof.Machine

/-! ## One port's link items: the sends -/

/-- The bytes of a command as it is sent (R28, R30): while the test count lasts, with a bad CRC-16 (R32). -/
def LinkCtl.commandBytes (l : LinkCtl) (c : Command) (resend : Bool) : List Byte :=
  if 0 < l.testCount then withBadCrc (c.body l.sequence resend) else withCrc (c.body l.sequence resend)

section
variable {l : LinkCtl} {c : Command} {rest : List Command}

theorem LinkCtl.sendHead_of_cons (queue : l.queue = c :: rest) (resend : Bool) :
    l.sendHead resend = { l with
      channel := .command (l.commandBytes c resend), testCount := l.testCount - 1, sendCount := l.sendCount + 1
      ackWait := none, waitEnded := false } := by
  rw [LinkCtl.sendHead, queue]
  rfl

theorem LinkCtl.sendHead_of_nil (queue : l.queue = []) (resend : Bool) : l.sendHead resend = l := by
  rw [LinkCtl.sendHead, queue]

/-- While a message is sent, or the link is not established, a boundary does not come. -/
theorem LinkCtl.pump_of_busy (busy : l.channel ≠ .idle ∨ l.established = false) : l.pump = l := by
  rw [LinkCtl.pump, if_neg]
  rcases busy with busy | down
  · simp [busy]
  · simp [down]

/-- A pending trigger goes first (R31). -/
theorem LinkCtl.pump_of_trigger {id : BitVec 8} (idle : l.channel = .idle) (up : l.established = true)
    (pending : l.pendingTrigger = some id) :
    l.pump = { l with channel := .trigger (withCrc [0x86, id]), pendingTrigger := none } := by
  rw [LinkCtl.pump, if_pos (by simp [idle, up]), pending]
  rfl

/-- With a command in flight and no trigger pending nothing is sent. -/
theorem LinkCtl.pump_of_inFlight (pending : l.pendingTrigger = none) (flies : l.sendCount ≠ 0) : l.pump = l := by
  simp [LinkCtl.pump, pending, flies]

/-- With no command in flight and no trigger pending the head of the queue is sent as a new command (R28). -/
theorem LinkCtl.pump_of_new (idle : l.channel = .idle) (up : l.established = true) (pending : l.pendingTrigger = none)
    (free : l.sendCount = 0) : l.pump = l.sendHead false := by
  simp [LinkCtl.pump, idle, up, pending, free]

end

/-- A send leaves the queue, the sequence bit and the counts as they are, and begins no acknowledgement wait. -/
structure LinkCtl.BooksKept (l l' : LinkCtl) : Prop where
  queue : l'.queue = l.queue
  sequence : l'.sequence = l.sequence
  noAcks : l'.noAcks = l.noAcks
  resends : l'.resends = l.resends
  strayAcks : l'.strayAcks = l.strayAcks
  windowErrors : l'.windowErrors = l.windowErrors
  ackWait : l.ackWait = none → l'.ackWait = none
  waitEnded : l.waitEnded = false → l'.waitEnded = false

theorem LinkCtl.BooksKept.refl (l : LinkCtl) : l.BooksKept l := ⟨rfl, rfl, rfl, rfl, rfl, rfl, id, id⟩

theorem LinkCtl.BooksKept.trans {a b c : LinkCtl} (h : a.BooksKept b) (k : b.BooksKept c) : a.BooksKept c where
  queue := k.queue.trans h.queue
  sequence := k.sequence.trans h.sequence
  noAcks := k.noAcks.trans h.noAcks
  resends := k.resends.trans h.resends
  strayAcks := k.strayAcks.trans h.strayAcks
  windowErrors := k.windowErrors.trans h.windowErrors
  ackWait e := k.ackWait (h.ackWait e)
  waitEnded e := k.waitEnded (h.waitEnded e)

theorem LinkCtl.sendHead_booksKept (l : LinkCtl) (resend : Bool) : l.BooksKept (l.sendHead resend) := by
  cases queue : l.queue with
  | nil => rw [LinkCtl.sendHead_of_nil queue]; exact .refl l
  | cons c rest =>
    rw [LinkCtl.sendHead_of_cons queue]
    exact ⟨rfl, rfl, rfl, rfl, rfl, rfl, fun _ => rfl, fun _ => rfl⟩

theorem LinkCtl.pump_booksKept (l : LinkCtl) : l.BooksKept l.pump := by
  unfold LinkCtl.pump
  split
  · split
    · exact ⟨rfl, rfl, rfl, rfl, rfl, rfl, id, id⟩
    · split
      · exact l.sendHead_booksKept false
      · exact .refl l
  · exact .refl l

theorem LinkCtl.offerTrigger_booksKept (l : LinkCtl) (id : BitVec 8) : l.BooksKept (l.offerTrigger id) := by
  refine LinkCtl.BooksKept.trans ?_ (LinkCtl.pump_booksKept _)
  exact ⟨rfl, rfl, rfl, rfl, rfl, rfl, fun e => e, fun e => e⟩

/-! ## What a completion brings to the link: at most the trigger that it releases -/

section
variable {h : Hub} {p : Port}

/-- A deferred trigger that is released is offered to the channel (R116, R31). -/
theorem Hub.releaseDeferred_lk : (h.releaseDeferred p).lk p = h.lk p ∨
    ∃ fired id, (h.tg p).hand = .deferred fired ∧ (h.releaseDeferred p).lk p = (h.lk p).offerTrigger id := by
  unfold Hub.releaseDeferred
  split
  case h_1 fired hand =>
    split
    · exact .inr ⟨fired, (h.tg p).nextId, hand, by simp [Hub.sendTrigger]⟩
    · exact .inl (by simp [Hub.lk])
  · exact .inl rfl

theorem Hub.reportIdle_lk : (h.reportIdle p).lk p = h.lk p ∨
    ∃ fired id, (h.tg p).hand = .deferred fired ∧ (h.reportIdle p).lk p = (h.lk p).offerTrigger id := by
  unfold Hub.reportIdle
  split
  · exact .inl rfl
  · exact Hub.releaseDeferred_lk

theorem Hub.completeLens_lk {x : AxisId} {how : Completion} : (h.completeLens p x how).lk p = h.lk p ∨
    ∃ fired id, (h.tg p).hand = .deferred fired ∧ (h.completeLens p x how).lk p = (h.lk p).offerTrigger id := by
  unfold Hub.completeLens
  dsimp only
  split
  · have told := Hub.reportIdle_lk (h := (((h.modAxis p x fun a => { a with pending := a.pending - 1 }).modAxis p x fun a =>
      a.lost .link).flag p fLensFault)) (p := p)
    simpa [Hub.lk, Hub.tg, Hub.modAxis] using told
  · exact .inl rfl

theorem Hub.completeCommand_lk {c : Command} {how : Completion} : (h.completeCommand p c how).lk p = h.lk p ∨
    ∃ fired id, (h.tg p).hand = .deferred fired ∧ (h.completeCommand p c how).lk p = (h.lk p).offerTrigger id := by
  cases c with
  | attrRead | attrWrite => cases how <;> exact .inl (by simp [Hub.completeCommand, Hub.lk])
  | lensMove | lensHome | lensStop => exact Hub.completeLens_lk

/-- A link error at the link items: the error is counted, and the state may become DEGRADED. -/
theorem Hub.linkError_lk : (h.linkError p).lk p = (h.lk p).oneError ∨
    (h.linkError p).lk p = { (h.lk p).oneError with state := .degraded } := by
  by_cases full : (h.lk p).state = .up ∧ (h.lk p).degradeAt ≤ Nat.min 65535 ((h.lk p).windowErrors + 1)
  · rw [Hub.linkError_of_full full.1 full.2]
    exact .inr (by simp [Hub.lk])
  · rw [Hub.linkError_of_counted (by by_cases up : (h.lk p).state = .up <;> grind)]
    exact .inl (by simp)

end

/-! ## Acknowledgements (R29) -/

section
variable {h : Hub} {p : Port} {c : Command} {rest : List Command}

theorem Hub.ackTaken_of_stray {sequence : Bool}
    (stray : (h.lk p).sendCount = 0 ∨ (h.lk p).queue = [] ∨ (h.lk p).sequence ≠ sequence) :
    h.ackTaken p sequence = h.modLink p fun l => { l with strayAcks := l.strayAcks + 1 } := by
  unfold Hub.ackTaken
  dsimp only
  split
  case h_1 d inFlight =>
    rw [if_neg]
    rintro rfl
    rcases stray with free | empty | other
    · simp [LinkCtl.inFlight, free] at inFlight
    · simp [LinkCtl.inFlight, empty] at inFlight
    · exact other rfl
  case h_2 => rfl

theorem LinkCtl.inFlight_of_cons {l : LinkCtl} (flies : 0 < l.sendCount) (queue : l.queue = c :: rest) : l.inFlight = some c := by
  simp [LinkCtl.inFlight, flies, queue]

theorem Hub.ackTaken_of_inFlight (flies : 0 < (h.lk p).sendCount) (queue : (h.lk p).queue = c :: rest) :
    h.ackTaken p (h.lk p).sequence =
      ((h.modLink p LinkCtl.finishHead).completeCommand p c .delivered).modLink p LinkCtl.pump := by
  simp [Hub.ackTaken, LinkCtl.inFlight_of_cons flies queue]

/-- A command that is delivered leaves all but its axis as it is (R29, R93). -/
theorem Hub.completeLens_delivered (x : AxisId) :
    h.completeLens p x .delivered = h.modAxis p x fun a => { a with pending := a.pending - 1 } := by
  unfold Hub.completeLens
  dsimp only
  rw [if_neg (by simp)]

theorem Hub.completeCommand_delivered_frame :
    (h.completeCommand p c .delivered).link = h.link ∧ (h.completeCommand p c .delivered).mgmt = h.mgmt ∧
      (h.completeCommand p c .delivered).trig = h.trig ∧ (h.completeCommand p c .delivered).power = h.power := by
  cases c <;> simp [Hub.completeCommand, Hub.completeLens_delivered, Hub.modAxis]

theorem Hub.completeCommand_delivered_axis {x : AxisId} (own : (∃ target, c = .lensMove x target) ∨ c = .lensHome x ∨ c = .lensStop x) :
    h.completeCommand p c .delivered = h.modAxis p x fun a => { a with pending := a.pending - 1 } := by
  rcases own with ⟨target, rfl⟩ | rfl | rfl <;> exact Hub.completeLens_delivered x

/-- After a delivery the next head is sent where the channel is free and no trigger is pending. -/
theorem LinkCtl.finishHead_pump_sendCount {l : LinkCtl} (up : l.established = true) (queue : l.queue = c :: rest) :
    l.finishHead.pump.sendCount = if l.channel = .idle ∧ l.pendingTrigger = none ∧ rest ≠ [] then 1 else 0 := by
  have tail : l.finishHead.queue = rest := by simp [LinkCtl.finishHead, queue]
  by_cases idle : l.channel = .idle
  · cases pending : l.pendingTrigger with
    | some id => rw [LinkCtl.pump_of_trigger (l := l.finishHead) idle up pending]; simp [LinkCtl.finishHead]
    | none =>
      rw [LinkCtl.pump_of_new (l := l.finishHead) idle up pending rfl]
      cases rest with
      | nil => rw [LinkCtl.sendHead_of_nil tail]; simp [LinkCtl.finishHead]
      | cons d more => rw [LinkCtl.sendHead_of_cons tail]; simp [LinkCtl.finishHead, idle]
  · rw [LinkCtl.pump_of_busy (l := l.finishHead) (.inl idle)]
    simp [LinkCtl.finishHead, idle]

end

/-! ## The end of the acknowledgement wait (R30) -/

section
variable {h : Hub} {p : Port} {c : Command} {rest : List Command}

theorem Hub.waitOver_of_resend (flies : 0 < (h.lk p).sendCount) (few : (h.lk p).sendCount < 3)
    (queue : (h.lk p).queue = c :: rest) :
    h.waitOver p = h.modLink p fun l =>
      { l with
        channel := .command (l.commandBytes c true), testCount := l.testCount - 1, sendCount := l.sendCount + 1
        ackWait := none, waitEnded := false, resends := l.resends + 1 } := by
  simp only [Hub.waitOver, LinkCtl.inFlight_of_cons flies queue, few, if_true]
  exact Hub.modLink_congr (by rw [LinkCtl.sendHead_of_cons queue])

/-- The head command given up after three sends. -/
def LinkCtl.failHead (l : LinkCtl) : LinkCtl := { l.finishHead with noAcks := l.noAcks + 1 }

/-- A command that fails: its originator is told, then the link error is counted, and the next head is sent (R30, log
entry 38). -/
def Hub.commandFails (h : Hub) (p : Port) (c : Command) : Hub :=
  (((h.modLink p LinkCtl.failHead).completeCommand p c .noAck).linkError p).modLink p LinkCtl.pump

theorem Hub.waitOver_of_last (last : 3 ≤ (h.lk p).sendCount) (queue : (h.lk p).queue = c :: rest) :
    h.waitOver p = h.commandFails p c := by
  have many : ¬ (h.lk p).sendCount < 3 := by omega
  simp only [Hub.waitOver, LinkCtl.inFlight_of_cons (by omega) queue, many, if_false]
  rfl

/-- The link items of a port whose head command has failed. -/
theorem Hub.commandFails_books : ∃ k : LinkCtl, (h.lk p).failHead.BooksKept k ∧
    k.oneError.BooksKept ((h.commandFails p c).lk p) := by
  refine ⟨((h.modLink p LinkCtl.failHead).completeCommand p c .noAck).lk p, ?_, ?_⟩
  · rcases Hub.completeCommand_lk (h := h.modLink p LinkCtl.failHead) (p := p) (c := c) (how := .noAck) with
      same | ⟨-, id, -, released⟩
    · rw [same, Hub.modLink_lk_same]; exact .refl _
    · rw [released, Hub.modLink_lk_same]; exact LinkCtl.offerTrigger_booksKept _ id
  · unfold Hub.commandFails
    rw [Hub.modLink_lk_same]
    refine LinkCtl.BooksKept.trans ?_ (LinkCtl.pump_booksKept _)
    rcases Hub.linkError_lk (h := (h.modLink p LinkCtl.failHead).completeCommand p c .noAck) (p := p) with e | e <;> rw [e]
    · exact .refl _
    · exact ⟨rfl, rfl, rfl, rfl, rfl, rfl, id, id⟩

theorem Hub.commandFails_lk (queue : (h.lk p).queue = c :: rest) :
    ((h.commandFails p c).lk p).queue = rest ∧ ((h.commandFails p c).lk p).sequence = !(h.lk p).sequence ∧
      ((h.commandFails p c).lk p).noAcks = (h.lk p).noAcks + 1 ∧
      ((h.commandFails p c).lk p).windowErrors = Nat.min 65535 ((h.lk p).windowErrors + 1) ∧
      ((h.commandFails p c).lk p).resends = (h.lk p).resends ∧ ((h.commandFails p c).lk p).waitEnded = false ∧
      ((h.commandFails p c).lk p).ackWait = none := by
  obtain ⟨k, told, sent⟩ := Hub.commandFails_books (h := h) (p := p) (c := c)
  refine ⟨sent.queue.trans (told.queue.trans ?_), sent.sequence.trans told.sequence, sent.noAcks.trans told.noAcks,
    sent.windowErrors.trans ?_, sent.resends.trans told.resends, sent.waitEnded (told.waitEnded rfl),
    sent.ackWait (told.ackWait rfl)⟩
  · simp [LinkCtl.failHead, LinkCtl.finishHead, queue]
  · simp only [LinkCtl.oneError, told.windowErrors]
    rfl

end

end Sys2Proof.Machine

/-! # The originators of a command that fails (R30, R93, R171) -/

namespace Sys2Proof.Machine

/-! ## A slot answered -/

/-- A slot that no answer reached: it is as it was, or its kept reply has been offered. -/
def Slot.Passed (x y : Slot) : Prop := y = x ∨ (∃ reply, x = .answered reply) ∧ y = .free

theorem Slot.Passed.trans {x y z : Slot} (h : x.Passed y) (k : y.Passed z) : x.Passed z := by
  rcases k with rfl | ⟨⟨reply, kept⟩, free⟩
  · exact h
  · rcases h with rfl | ⟨-, rfl⟩
    · exact .inr ⟨⟨reply, kept⟩, free⟩
    · cases kept

theorem Slot.Passed.waitsFor {x y : Slot} (h : x.Passed y) {p : Port} {attr : BitVec 8} (w : x.waitsFor p attr = false) :
    y.waitsFor p attr = false := by
  rcases h with rfl | ⟨-, rfl⟩
  · exact w
  · rfl

theorem Hub.SlotsPass.passed {h k : Hub} (pass : h.SlotsPass k none) (i : SlotNo) :
    (vget h.mgmt.slots i).Passed (vget k.mgmt.slots i) := by
  cases pass.slot i with
  | same e => exact .inl e
  | freed reply was now => exact .inr ⟨⟨reply, was⟩, now⟩
  | answered q tag kind attr deadline drop => cases drop

/-- From h to k, one slot has produced a reply, and no answer reached the others. -/
structure Hub.OneAnswered (h k : Hub) (i : SlotNo) (reply : Packet) : Prop where
  up : k.trunk.up = h.trunk.up
  grows : h.trunk.replies <+: k.trunk.replies
  answered : h.SlotAnswered k i reply
  others : ∀ j, j ≠ i → (vget h.mgmt.slots j).Passed (vget k.mgmt.slots j)

theorem Hub.OneAnswered.before {a h k : Hub} {i : SlotNo} {reply : Packet} (pass : a.SlotsPass h none)
    (one : h.OneAnswered k i reply) : a.OneAnswered k i reply where
  up := one.up.trans pass.up
  grows := pass.grows.trans one.grows
  answered := one.answered.earlier pass.up pass.grows
  others j e := (pass.passed j).trans (one.others j e)

theorem Hub.OneAnswered.later {h k m : Hub} {i : SlotNo} {reply : Packet} (one : h.OneAnswered k i reply)
    (pass : k.SlotsPass m none) : h.OneAnswered m i reply where
  up := pass.up.trans one.up
  grows := one.grows.trans pass.grows
  answered := one.answered.later one.up one.grows pass
  others j e := (one.others j e).trans (pass.passed j)

/-- A slot that has produced its reply waits no longer. -/
theorem Hub.SlotAnswered.ended {h k : Hub} {i : SlotNo} {reply : Packet} (s : h.SlotAnswered k i reply) {p : Port} {attr : BitVec 8} :
    (vget k.mgmt.slots i).waitsFor p attr = false := by
  obtain ⟨whenUp, whenDown⟩ := s
  cases up : h.trunk.up with
  | true => rcases whenUp up with ⟨free, -⟩ | kept <;> simp only [*, Slot.waitsFor]
  | false => rw [whenDown up]; rfl

/-- A slot's reply is offered behind those kept before: taken, kept by the slot, or gone with the trunk (R171). -/
theorem Hub.offerSlotReply_oneAnswered (h : Hub) (i : SlotNo) (reply : Packet) :
    h.OneAnswered (h.offerSlotReply i reply) i reply := by
  refine Hub.OneAnswered.before (h.offerDue_slotsPass none) ?_
  unfold Hub.offerSlotReply
  dsimp only
  generalize h.offerDue = k
  have others (x : Hub) (y : Slot) (slots : x.mgmt.slots = vset k.mgmt.slots i y) (j : SlotNo) (e : j ≠ i) :
      (vget k.mgmt.slots j).Passed (vget x.mgmt.slots j) := .inl (by rw [slots, vget_vset_ne _ _ e])
  unfold Hub.offerReply
  cases up : k.trunk.up with
  | true =>
    cases room : k.replyRoom with
    | true =>
      refine ⟨rfl, ⟨[reply], rfl⟩, ⟨fun _ => .inl ⟨?_, ?_⟩, fun down => ?_⟩, others _ .free rfl⟩
      · simp [Hub.setSlot]
      · simp [Hub.setSlot]
      · rw [up] at down; cases down
    | false =>
      refine ⟨rfl, List.prefix_refl _, ⟨fun _ => .inr ?_, fun down => ?_⟩, others _ (.answered reply) rfl⟩
      · simp [Hub.setSlot]
      · rw [up] at down; cases down
  | false =>
    refine ⟨rfl, List.prefix_refl _, ⟨fun up' => ?_, fun _ => ?_⟩, others _ .free rfl⟩
    · rw [up] at up'; cases up'
    · simp [Hub.setSlot]

/-! ## A command that fails at its slot -/

/-- The reply of a slot whose command is not acknowledged (R171). -/
def noAckReply (p : Port) (tag : BitVec 16) (kind : PassKind) : Packet :=
  replyPacket (BitVec.ofNat 8 p.val) tag (u16 (codeNumber (passCode kind))) (refuse .noAck)

/-- From h to k, a command has failed with NO_ACK: the slot that waits for it has produced its reply, and no answer reached
any other slot. -/
structure Hub.NoAckTold (h k : Hub) (p : Port) (c : Command) : Prop where
  answered : ∀ slot attr tag kind deadline, c.isFor slot attr = true → vget h.mgmt.slots slot = .waiting tag p kind attr deadline →
    h.SlotAnswered k slot (noAckReply p tag kind)
  others : ∀ slot, (∀ attr, c.isFor slot attr = true → (vget h.mgmt.slots slot).waitsFor p attr = false) →
    (vget h.mgmt.slots slot).Passed (vget k.mgmt.slots slot)

theorem Slot.waitsFor_iff {x : Slot} {p : Port} {attr : BitVec 8} :
    x.waitsFor p attr = true ↔ ∃ tag kind deadline, x = .waiting tag p kind attr deadline := by
  cases x with
  | free | answered => simp [Slot.waitsFor]
  | waiting tag q kind a deadline =>
    simp only [Slot.waitsFor, Bool.and_eq_true, decide_eq_true_eq, Slot.waiting.injEq]
    constructor
    · rintro ⟨rfl, rfl⟩
      exact ⟨tag, kind, deadline, rfl, rfl, rfl, rfl, rfl⟩
    · rintro ⟨-, -, -, -, rfl, -, rfl, -⟩
      exact ⟨rfl, rfl⟩

theorem Command.isFor_iff {c : Command} {slot : SlotNo} {attr : BitVec 8} :
    c.isFor slot attr = true ↔
      (∃ address count, c = .attrRead slot attr address count) ∨ ∃ address words, c = .attrWrite slot attr address words := by
  cases c <;> simp [Command.isFor]

section
variable {h : Hub} {p : Port} {c : Command}

theorem Hub.completeSlot_of_waiting {i : SlotNo} {attr : BitVec 8} {tag : BitVec 16} {kind : PassKind} {deadline : HubTime}
    (waits : vget h.mgmt.slots i = .waiting tag p kind attr deadline) :
    h.completeSlot i p attr .noAck = h.offerSlotReply i (noAckReply p tag kind) := by
  simp [Hub.completeSlot, Hub.answerSlot, waits, Slot.waitsFor, noAckReply, refuse]

theorem Hub.completeSlot_of_other {i : SlotNo} {attr : BitVec 8} (other : (vget h.mgmt.slots i).waitsFor p attr = false) :
    h.completeSlot i p attr .noAck = h := by
  simp [Hub.completeSlot, other]

theorem Hub.completeSlot_told {i : SlotNo} {attr : BitVec 8} (named : ∀ slot a, c.isFor slot a = true ↔ slot = i ∧ a = attr) :
    h.NoAckTold (h.completeSlot i p attr .noAck) p c := by
  cases waits : (vget h.mgmt.slots i).waitsFor p attr with
  | true =>
    obtain ⟨tag, kind, deadline, was⟩ := Slot.waitsFor_iff.mp waits
    have one := h.offerSlotReply_oneAnswered i (noAckReply p tag kind)
    rw [Hub.completeSlot_of_waiting was]
    refine ⟨fun slot a tag' kind' deadline' own was' => ?_, fun slot other => one.others slot ?_⟩
    · obtain ⟨rfl, rfl⟩ := (named slot a).mp own
      rw [was] at was'
      cases was'
      exact one.answered
    · rintro rfl
      rw [other attr ((named slot attr).mpr ⟨rfl, rfl⟩)] at waits
      cases waits
  | false =>
    rw [Hub.completeSlot_of_other waits]
    refine ⟨fun slot a tag kind deadline own was => ?_, fun _ _ => .inl rfl⟩
    obtain ⟨rfl, rfl⟩ := (named slot a).mp own
    rw [Slot.waitsFor_iff.mpr ⟨tag, kind, deadline, was⟩] at waits
    cases waits

/-- Notices alone reach the slots where no slot's command fails. -/
theorem Hub.NoAckTold.of_pass {k : Hub} (pass : h.SlotsPass k none) (lens : ∀ slot a, c.isFor slot a = false) :
    h.NoAckTold k p c :=
  ⟨fun slot a _ _ _ own => absurd own (by simp [lens]), fun slot _ => pass.passed slot⟩

theorem Hub.completeLens_slotsPass {x : AxisId} {how : Completion} {d : Option Port} : h.SlotsPass (h.completeLens p x how) d := by
  unfold Hub.completeLens
  dsimp only
  split
  · refine Hub.SlotsPass.trans ?_ Hub.reportIdle_slotsPass
    exact Hub.flag_slotsPass_of_same ⟨rfl, rfl, rfl⟩
  · exact .of_same ⟨rfl, rfl, rfl⟩

/-- A command that fails with NO_ACK, at the slots (R171). -/
theorem Hub.completeCommand_told : h.NoAckTold (h.completeCommand p c .noAck) p c ∧
    (h.completeCommand p c .noAck).trunk.up = h.trunk.up ∧
    h.trunk.replies <+: (h.completeCommand p c .noAck).trunk.replies := by
  have slots (i : SlotNo) (attr : BitVec 8) : (h.completeSlot i p attr .noAck).trunk.up = h.trunk.up ∧
      h.trunk.replies <+: (h.completeSlot i p attr .noAck).trunk.replies := by
    cases waits : (vget h.mgmt.slots i).waitsFor p attr with
    | true =>
      obtain ⟨tag, kind, deadline, was⟩ := Slot.waitsFor_iff.mp waits
      have one := h.offerSlotReply_oneAnswered i (noAckReply p tag kind)
      rw [Hub.completeSlot_of_waiting was]
      exact ⟨one.up, one.grows⟩
    | false => rw [Hub.completeSlot_of_other waits]; exact ⟨rfl, List.prefix_refl _⟩
  cases c with
  | attrRead slot attr _ _ | attrWrite slot attr _ _ =>
    refine ⟨Hub.completeSlot_told fun i a => ?_, slots slot attr⟩
    simp only [Command.isFor, Bool.and_eq_true, decide_eq_true_eq, eq_comm (a := slot), eq_comm (a := attr)]
  | lensMove x _ | lensHome x | lensStop x =>
    have pass := Hub.completeLens_slotsPass (h := h) (p := p) (x := x) (how := .noAck) (d := none)
    exact ⟨.of_pass pass fun _ _ => rfl, pass.up, pass.grows⟩

theorem Hub.linkError_slotsPass {d : Option Port} : h.SlotsPass (h.linkError p) d := by
  unfold Hub.linkError
  dsimp only
  split
  · have marked (k : Hub) : k.SlotsPass (k.degradeFilling p) d := .of_same ⟨rfl, rfl, rfl⟩
    refine Hub.SlotsPass.trans ?_ (marked _)
    exact Hub.flag_slotsPass_of_same ⟨rfl, rfl, rfl⟩
  · exact Hub.modLink_slotsPass _ p _ d

/-- A failed command at the slots, to the end of the failure. -/
theorem Hub.commandFails_told : h.NoAckTold (h.commandFails p c) p c := by
  obtain ⟨told, up, grows⟩ := Hub.completeCommand_told (h := h.modLink p LinkCtl.failHead) (p := p) (c := c)
  have ended : ((h.modLink p LinkCtl.failHead).completeCommand p c .noAck).SlotsPass (h.commandFails p c) none :=
    Hub.linkError_slotsPass.trans (Hub.modLink_slotsPass _ p _ none)
  exact ⟨fun slot attr tag kind deadline own was =>
      (told.answered slot attr tag kind deadline own was).later up grows ended,
    fun slot other => (told.others slot other).trans (ended.passed slot)⟩

/-- The slot of a failed command waits for it no longer. -/
theorem Hub.NoAckTold.ended {k : Hub} (told : h.NoAckTold k p c) {slot : SlotNo} {attr : BitVec 8}
    (own : c.isFor slot attr = true) : (vget k.mgmt.slots slot).waitsFor p attr = false := by
  cases waits : (vget h.mgmt.slots slot).waitsFor p attr with
  | true =>
    obtain ⟨tag, kind, deadline, was⟩ := Slot.waitsFor_iff.mp waits
    exact (told.answered slot attr tag kind deadline own was).ended
  | false =>
    refine (told.others slot fun a own' => ?_).waitsFor waits
    have same : a = attr := by
      cases c <;> simp [Command.isFor] at own own' <;> exact own'.2.symm.trans own.2
    rw [same, waits]

/-! ## A command that fails at its axis -/

/-- An axis in motion whose last command fails is lost with LINK (R93). -/
theorem Hub.completeLens_lost {x : AxisId} (moving : (h.ax p x).moving = true) (last : (h.ax p x).pending ≤ 1) :
    h.completeLens p x .noAck =
      (((h.modAxis p x fun a => { a with pending := a.pending - 1 }).modAxis p x fun a => a.lost .link).flag p
        fLensFault).reportIdle p := by
  have none : (h.ax p x).pending - 1 = 0 := by omega
  unfold Hub.completeLens
  dsimp only
  rw [if_pos]
  rw [Hub.ax_modAxis_same]
  simpa [none, Axis.moving] using moving

theorem Hub.commandFails_axis {x : AxisId} (own : (∃ target, c = .lensMove x target) ∨ c = .lensHome x ∨ c = .lensStop x)
    (moving : (h.ax p x).moving = true) (last : (h.ax p x).pending ≤ 1) :
    ((h.commandFails p c).ax p x).position = none ∧ ((h.commandFails p c).ax p x).motion = .idle ∧
      ((h.commandFails p c).ax p x).outcome = .link ∧
      vget (h.commandFails p c).mgmt.portFlags p &&& fLensFault = fLensFault := by
  have told : (h.modLink p LinkCtl.failHead).completeCommand p c .noAck =
      (h.modLink p LinkCtl.failHead).completeLens p x .noAck := by
    rcases own with ⟨target, rfl⟩ | rfl | rfl <;> rfl
  have lost := Hub.completeLens_lost (h := h.modLink p LinkCtl.failHead) moving last
  have lens : (h.commandFails p c).lens = ((h.modLink p LinkCtl.failHead).completeLens p x .noAck).lens := by
    simp [Hub.commandFails, told]
  have axis : (h.commandFails p c).ax p x = ({ h.ax p x with pending := (h.ax p x).pending - 1 } : Axis).lost .link := by
    have e : (h.commandFails p c).ax p x = ((h.modLink p LinkCtl.failHead).completeLens p x .noAck).ax p x := by
      simp only [Hub.ax, Hub.ln, lens]
    have still (k : Hub) (flag : BitVec 16) : ((k.flag p flag).reportIdle p).ax p x = k.ax p x := by
      simp [Hub.ax, Hub.ln]
    rw [e, lost, still, Hub.ax_modAxis_same, Hub.ax_modAxis_same]
    rfl
  rw [axis]
  refine ⟨rfl, rfl, rfl, ?_⟩
  unfold Hub.commandFails
  rw [told, lost]
  exact (Hub.modLink_grow (Hub.linkError_grow (Hub.reportIdle_grow (.refl _)))).1 p _ (Hub.flag_has _ p fLensFault)

end

end Sys2Proof.Machine

/-! # Message boundaries and acknowledgement waits (R28 to R31) -/

namespace Sys2Proof.Machine

section
variable {h : Hub} {p : Port} {c : Command} {rest : List Command}

theorem Hub.boundary_of_busy (busy : (h.lk p).channel ≠ .idle) : h.boundary p = h := by
  rw [Hub.boundary, if_pos busy]

/-- A wait that is over acts at the boundary where no trigger is pending. -/
theorem Hub.boundary_of_wait (idle : (h.lk p).channel = .idle) (ended : (h.lk p).waitEnded = true)
    (clear : (h.lk p).pendingTrigger = none) : h.boundary p = h.waitOver p := by
  simp [Hub.boundary, idle, ended, clear]

/-- Behind a pending trigger a command that has had its three sends fails at the same boundary (log entry 17). -/
theorem Hub.boundary_of_trigger_last {id : BitVec 8} (idle : (h.lk p).channel = .idle) (ended : (h.lk p).waitEnded = true)
    (pending : (h.lk p).pendingTrigger = some id) (last : 3 ≤ (h.lk p).sendCount) :
    h.boundary p = (h.modLink p LinkCtl.pump).waitOver p := by
  simp [Hub.boundary, idle, ended, pending, last]

theorem Hub.boundary_of_trigger {id : BitVec 8} (idle : (h.lk p).channel = .idle)
    (pending : (h.lk p).pendingTrigger = some id) (waits : (h.lk p).waitEnded = false ∨ (h.lk p).sendCount < 3) :
    h.boundary p = h.modLink p LinkCtl.pump := by
  have more : (h.lk p).waitEnded = true → ¬ 3 ≤ (h.lk p).sendCount := fun ended => by
    rcases waits with e | few
    · rw [e] at ended; cases ended
    · omega
  have held : ((h.lk p).waitEnded && decide (3 ≤ (h.lk p).sendCount)) = false := by
    cases ended : (h.lk p).waitEnded with
    | false => rfl
    | true => simpa using more ended
  simp [Hub.boundary, idle, pending, held]

theorem Hub.boundary_of_no_wait (idle : (h.lk p).channel = .idle) (waits : (h.lk p).waitEnded = false) :
    h.boundary p = h.modLink p LinkCtl.pump := by
  simp [Hub.boundary, idle, waits]

/-- A command delivered, from the ACK to the next head's send (R28, R29). -/
theorem Hub.ackTaken_books (flies : 0 < (h.lk p).sendCount) (queue : (h.lk p).queue = c :: rest) :
    (h.ackTaken p (h.lk p).sequence).lk p = (h.lk p).finishHead.pump := by
  have link := (Hub.completeCommand_delivered_frame (h := h.modLink p LinkCtl.finishHead) (p := p) (c := c)).1
  rw [Hub.ackTaken_of_inFlight flies queue, Hub.modLink_lk_same, Hub.lk, link]
  exact congrArg LinkCtl.pump (Hub.modLink_lk_same h p LinkCtl.finishHead)

theorem Hub.ackTaken_others (flies : 0 < (h.lk p).sendCount) (queue : (h.lk p).queue = c :: rest) :
    (h.ackTaken p (h.lk p).sequence).mgmt = h.mgmt ∧ (h.ackTaken p (h.lk p).sequence).trig = h.trig ∧
      (h.ackTaken p (h.lk p).sequence).power = h.power ∧
      (h.ackTaken p (h.lk p).sequence).lens = (h.completeCommand p c .delivered).lens := by
  obtain ⟨-, mgmt, trig, power⟩ :=
    Hub.completeCommand_delivered_frame (h := h.modLink p LinkCtl.finishHead) (p := p) (c := c)
  rw [Hub.ackTaken_of_inFlight flies queue]
  refine ⟨mgmt, trig, power, ?_⟩
  cases c with
  | attrRead | attrWrite => rfl
  | lensMove | lensHome | lensStop => simp [Hub.completeCommand, Hub.completeLens_delivered, Hub.modAxis]

/-- The wait that ends with the channel idle resends the command at once (R30). -/
theorem Hub.waitEnds_of_resend (idle : (h.lk p).channel = .idle) (clear : (h.lk p).pendingTrigger = none)
    (flies : 0 < (h.lk p).sendCount) (few : (h.lk p).sendCount < 3) (queue : (h.lk p).queue = c :: rest) :
    h.waitEnds p = h.modLink p fun l =>
      { l with
        channel := .command (l.commandBytes c true), testCount := l.testCount - 1, sendCount := l.sendCount + 1
        ackWait := none, waitEnded := false, resends := l.resends + 1 } := by
  rw [Hub.waitEnds, Hub.boundary_of_wait, Hub.waitOver_of_resend (c := c) (rest := rest), Hub.modLink_modLink]
  · rfl
  all_goals simp [idle, clear, flies, few, queue]

theorem Hub.waitEnds_of_last (idle : (h.lk p).channel = .idle) (clear : (h.lk p).pendingTrigger = none)
    (last : 3 ≤ (h.lk p).sendCount) (queue : (h.lk p).queue = c :: rest) :
    h.waitEnds p = (h.modLink p fun l => { l with ackWait := none, waitEnded := true }).commandFails p c := by
  rw [Hub.waitEnds, Hub.boundary_of_wait, Hub.waitOver_of_last (c := c) (rest := rest)]
  all_goals simp [idle, clear, last, queue]

end

/-- Settles O39: each clause is one outcome of the ACK or of the wait's end; a failure's consequences for the link items, the
slots and the axis are those of `Hub.commandFails`. -/
theorem commandsAreAcknowledged : Obligations.CommandsAreAcknowledged := by
  intro s p sequence c rest
  refine ⟨fun up stray => ?stray, fun up flies queue same => ?taken, fun start waits due idle clear flies queue =>
    ⟨fun few => ?resend, fun last => ?fails⟩, fun start waits due busy => ?held, fun start waits early => ?early⟩
  case stray =>
    have does := State.does_of_when (i := .ack p sequence) (s := s) rfl up
    rwa [Hub.ackTaken_of_stray stray] at does
  case taken =>
    have does := State.does_of_when (i := .ack p sequence) (s := s) rfl up
    rw [← same] at does
    have link := Hub.ackTaken_books flies queue
    have books := LinkCtl.pump_booksKept (s.hub.lk p).finishHead
    obtain ⟨mgmt, trig, power, lens⟩ := Hub.ackTaken_others flies queue
    refine ⟨_, does, ?_⟩
    rw [link]
    refine ⟨books.queue.trans ?_, books.sequence, books.ackWait rfl, books.strayAcks, books.resends, books.noAcks,
      LinkCtl.finishHead_pump_sendCount up queue, mgmt, trig, power, fun x own => ?_, fun attr => ?_⟩
    · simp [LinkCtl.finishHead, queue]
    · simp only [Hub.ax, Hub.ln, lens, Hub.completeCommand_delivered_axis own]
      exact ⟨Hub.ax_modAxis_same _ _ _ _, fun y other => Hub.ax_modAxis_axis_ne _ _ _ other⟩
    · rw [lens]
      rcases attr with ⟨_, _, _, _, rfl⟩ | ⟨_, _, _, _, rfl⟩ <;> rfl
  case resend =>
    have does := State.does_of_when (i := .ackWaitEnd p) (s := s) rfl (by simp [Hub.waitDue, waits, passed, due])
    rwa [Hub.waitEnds_of_resend idle clear flies few queue] at does
  case fails =>
    have does := State.does_of_when (i := .ackWaitEnd p) (s := s) rfl (by simp [Hub.waitDue, waits, passed, due])
    rw [Hub.waitEnds_of_last idle clear last queue] at does
    have queue' : ((s.hub.modLink p fun l => { l with ackWait := none, waitEnded := true }).lk p).queue = c :: rest := by
      simpa
    obtain ⟨tail, bit, noAcks, errors, resends, -, -⟩ := Hub.commandFails_lk queue'
    have told := Hub.commandFails_told (h := s.hub.modLink p fun l => { l with ackWait := none, waitEnded := true })
      (p := p) (c := c)
    simp only [Hub.modLink_lk_same] at bit noAcks errors resends
    exact ⟨_, does, tail, bit, noAcks, errors, resends,
      fun slot attr address count e => told.ended (Command.isFor_iff.mpr (.inl ⟨address, count, e⟩)),
      fun slot attr address words e => told.ended (Command.isFor_iff.mpr (.inr ⟨address, words, e⟩)),
      told.answered, told.others, fun x own moving one => Hub.commandFails_axis own moving one⟩
  case held =>
    have does := State.does_of_when (i := .ackWaitEnd p) (s := s) rfl (by simp [Hub.waitDue, waits, passed, due])
    rwa [Hub.waitEnds, Hub.boundary_of_busy (by simpa using busy)] at does
  case early =>
    exact State.next_of_not_when (i := .ackWaitEnd p) rfl (by simp [Hub.waitDue, waits, passed, early])

end Sys2Proof.Machine

/-! # The end of a downstream message (R28, R30, R31) -/

namespace Sys2Proof.Machine

section
variable {h : Hub} {p : Port} {c : Command} {rest : List Command} {sent : List Byte}

/-- A command sent begins its acknowledgement wait (R28). -/
theorem Hub.messageSent_of_command (sending : (h.lk p).channel = .command sent) (flies : 0 < (h.lk p).sendCount) :
    h.messageSent p = (h.modLink p fun l => { l with channel := .idle, ackWait := some h.time }).boundary p := by
  simp only [Hub.messageSent, sending]
  exact congrArg (Hub.boundary · p) (Hub.modLink_congr (by simp [flies]))

theorem Hub.messageSent_of_trigger (sending : (h.lk p).channel = .trigger sent) :
    h.messageSent p = (h.modLink p fun l => { l with channel := .idle }).boundary p := by
  simp only [Hub.messageSent, sending]

/-- A boundary with a command in flight, no trigger pending and no wait over sends nothing. -/
theorem Hub.boundary_sends_nothing (idle : (h.lk p).channel = .idle) (clear : (h.lk p).pendingTrigger = none)
    (flies : 0 < (h.lk p).sendCount) (waits : (h.lk p).waitEnded = false) : h.boundary p = h.modLink p fun l => l := by
  rw [Hub.boundary_of_no_wait idle waits]
  exact Hub.modLink_congr (LinkCtl.pump_of_inFlight clear flies.ne')

theorem Hub.modLink_pump_of_trigger {id : BitVec 8} (idle : (h.lk p).channel = .idle) (up : (h.lk p).established = true)
    (pending : (h.lk p).pendingTrigger = some id) :
    h.modLink p LinkCtl.pump =
      h.modLink p fun l => { l with channel := .trigger (withCrc [0x86, id]), pendingTrigger := none } :=
  Hub.modLink_congr (LinkCtl.pump_of_trigger idle up pending)

/-- A boundary with a trigger pending puts it onto the channel (R31). -/
theorem Hub.boundary_sends_trigger {id : BitVec 8} (idle : (h.lk p).channel = .idle) (up : (h.lk p).established = true)
    (pending : (h.lk p).pendingTrigger = some id) (waits : (h.lk p).waitEnded = false ∨ (h.lk p).sendCount < 3) :
    h.boundary p = h.modLink p fun l => { l with channel := .trigger (withCrc [0x86, id]), pendingTrigger := none } := by
  rw [Hub.boundary_of_trigger idle pending waits, Hub.modLink_pump_of_trigger idle up pending]

/-- A boundary with no wait over and no command in flight sends the head of the queue (R28). -/
theorem Hub.boundary_sends_new (idle : (h.lk p).channel = .idle) (up : (h.lk p).established = true)
    (clear : (h.lk p).pendingTrigger = none) (queue : (h.lk p).queue = c :: rest) (waits : (h.lk p).waitEnded = false)
    (free : (h.lk p).sendCount = 0) :
    h.boundary p = h.modLink p fun l =>
      { l with
        channel := .command (l.commandBytes c false), testCount := l.testCount - 1, sendCount := 1, ackWait := none
        waitEnded := false } := by
  rw [Hub.boundary_of_no_wait idle waits]
  refine Hub.modLink_congr ?_
  rw [LinkCtl.pump_of_new idle up clear free, LinkCtl.sendHead_of_cons queue, free]

/-! ## The channel after a failure -/

/-- A trigger that is offered while a message is sent waits for the boundary. -/
theorem LinkCtl.offerTrigger_of_busy {l : LinkCtl} {id : BitVec 8} (busy : l.channel ≠ .idle) :
    l.offerTrigger id = { l with pendingTrigger := some id } := LinkCtl.pump_of_busy (.inl busy)

/-- A command that fails while a trigger is sent leaves the channel to it, with no command in flight. -/
theorem Hub.commandFails_of_busy (busy : (h.lk p).channel ≠ .idle) :
    ((h.commandFails p c).lk p).channel = (h.lk p).channel ∧ ((h.commandFails p c).lk p).sendCount = 0 := by
  let k := (h.modLink p LinkCtl.failHead).completeCommand p c .noAck
  have told : (k.lk p).channel = (h.lk p).channel ∧ (k.lk p).sendCount = 0 := by
    rcases Hub.completeCommand_lk (h := h.modLink p LinkCtl.failHead) (p := p) (c := c) (how := .noAck) with
      same | ⟨-, id, -, released⟩
    · rw [same, Hub.modLink_lk_same]; exact ⟨rfl, rfl⟩
    · rw [released, Hub.modLink_lk_same, LinkCtl.offerTrigger_of_busy (by exact busy)]; exact ⟨rfl, rfl⟩
  have counted : ((k.linkError p).lk p).channel = (h.lk p).channel ∧ ((k.linkError p).lk p).sendCount = 0 := by
    rcases Hub.linkError_lk (h := k) (p := p) with e | e <;> rw [e] <;> exact told
  rw [Hub.commandFails, Hub.modLink_lk_same, LinkCtl.pump_of_busy (.inl (by rw [counted.1]; exact busy))]
  exact counted

/-- A failure that releases no trigger and does not degrade the link ends with the next head's send. -/
theorem Hub.commandFails_of_quiet (few : (h.lk p).windowErrors + 1 < (h.lk p).degradeAt)
    (free : ∀ f, (h.tg p).hand ≠ .deferred f) : (h.commandFails p c).lk p = (h.lk p).failHead.oneError.pump := by
  have told : ((h.modLink p LinkCtl.failHead).completeCommand p c .noAck).lk p = (h.lk p).failHead := by
    rcases Hub.completeCommand_lk (h := h.modLink p LinkCtl.failHead) (p := p) (c := c) (how := .noAck) with
      same | ⟨f, -, held, -⟩
    · rw [same, Hub.modLink_lk_same]
    · exact absurd held (free f)
  rw [Hub.commandFails, Hub.modLink_lk_same, Hub.linkError_of_counted, Hub.modLink_lk_same, told]
  rw [told]
  exact .inr (lt_of_le_of_lt (Nat.min_le_right _ _) few)

/-- The next head after a failure, with the channel idle and no trigger pending. -/
theorem LinkCtl.failHead_pump_of_cons {l : LinkCtl} {d : Command} {more : List Command} (idle : l.channel = .idle)
    (up : l.established = true) (clear : l.pendingTrigger = none) (queue : l.queue = c :: d :: more) :
    l.failHead.oneError.pump.sendCount = 1 ∧ l.failHead.oneError.pump.channel =
      .command (if 0 < l.testCount then withBadCrc (d.body (!l.sequence) false) else withCrc (d.body (!l.sequence) false)) := by
  have tail : l.failHead.oneError.queue = d :: more := by simp [LinkCtl.failHead, LinkCtl.finishHead, LinkCtl.oneError, queue]
  rw [LinkCtl.pump_of_new (by exact idle) (by exact up) (by exact clear) rfl, LinkCtl.sendHead_of_cons tail]
  exact ⟨rfl, rfl⟩

theorem LinkCtl.failHead_pump_of_nil {l : LinkCtl} (idle : l.channel = .idle) (up : l.established = true)
    (clear : l.pendingTrigger = none) (queue : l.queue = [c]) :
    l.failHead.oneError.pump.channel = .idle ∧ l.failHead.oneError.pump.sendCount = 0 := by
  have tail : l.failHead.oneError.queue = [] := by simp [LinkCtl.failHead, LinkCtl.finishHead, LinkCtl.oneError, queue]
  rw [LinkCtl.pump_of_new (by exact idle) (by exact up) (by exact clear) rfl, LinkCtl.sendHead_of_nil tail]
  exact ⟨idle, rfl⟩

/-- A boundary at which a command's third wait has ended: it fails there. -/
theorem Hub.boundary_fails (idle : (h.lk p).channel = .idle) (clear : (h.lk p).pendingTrigger = none)
    (queue : (h.lk p).queue = c :: rest) (ended : (h.lk p).waitEnded = true) (last : 3 ≤ (h.lk p).sendCount) :
    h.boundary p = h.commandFails p c := by
  rw [Hub.boundary_of_wait idle ended clear, Hub.waitOver_of_last last queue]

/-- The same with a trigger pending, which goes onto the channel first (log entry 17). -/
theorem Hub.boundary_fails_behind {id : BitVec 8} (idle : (h.lk p).channel = .idle) (up : (h.lk p).established = true)
    (pending : (h.lk p).pendingTrigger = some id) (queue : (h.lk p).queue = c :: rest)
    (ended : (h.lk p).waitEnded = true) (last : 3 ≤ (h.lk p).sendCount) :
    h.boundary p = (h.modLink p fun l =>
      { l with channel := .trigger (withCrc [0x86, id]), pendingTrigger := none }).commandFails p c := by
  rw [Hub.boundary_of_trigger_last idle ended pending last, Hub.modLink_pump_of_trigger idle up pending,
    Hub.waitOver_of_last (by simpa using last) (by simpa using queue)]

/-- The link items after a failure at a boundary. -/
theorem Hub.boundary_fails_lk (idle : (h.lk p).channel = .idle) (up : (h.lk p).established = true)
    (queue : (h.lk p).queue = c :: rest) (ended : (h.lk p).waitEnded = true) (last : 3 ≤ (h.lk p).sendCount) :
    ((h.boundary p).lk p).queue = rest ∧ ((h.boundary p).lk p).sequence = !(h.lk p).sequence ∧
      ((h.boundary p).lk p).noAcks = (h.lk p).noAcks + 1 ∧
      ((h.boundary p).lk p).windowErrors = Nat.min 65535 ((h.lk p).windowErrors + 1) ∧
      ((h.boundary p).lk p).resends = (h.lk p).resends ∧ ((h.boundary p).lk p).waitEnded = false ∧
      ((h.boundary p).lk p).ackWait = none ∧
      (∀ id, (h.lk p).pendingTrigger = some id →
        ((h.boundary p).lk p).channel = .trigger (withCrc [0x86, id]) ∧ ((h.boundary p).lk p).sendCount = 0) ∧
      ((h.lk p).pendingTrigger = none → (h.lk p).windowErrors + 1 < (h.lk p).degradeAt →
        (∀ f, (h.tg p).hand ≠ .deferred f) →
        (rest = [] → ((h.boundary p).lk p).channel = .idle ∧ ((h.boundary p).lk p).sendCount = 0) ∧
        ∀ d more, rest = d :: more → ((h.boundary p).lk p).sendCount = 1 ∧ ((h.boundary p).lk p).channel =
          .command (if 0 < (h.lk p).testCount then withBadCrc (d.body (!(h.lk p).sequence) false)
            else withCrc (d.body (!(h.lk p).sequence) false))) := by
  cases pending : (h.lk p).pendingTrigger with
  | some id =>
    rw [Hub.boundary_fails_behind idle up pending queue ended last]
    generalize onto : (h.modLink p fun l =>
      { l with channel := .trigger (withCrc [0x86, id]), pendingTrigger := none }) = k
    have was : k.lk p = { h.lk p with channel := .trigger (withCrc [0x86, id]), pendingTrigger := none } := by
      rw [← onto, Hub.modLink_lk_same]
    obtain ⟨tail, bit, noAcks, errors, resends, waitEnded, ackWait⟩ :=
      Hub.commandFails_lk (h := k) (p := p) (c := c) (rest := rest) (by rw [was]; exact queue)
    obtain ⟨channel, count⟩ := Hub.commandFails_of_busy (h := k) (p := p) (c := c) (by simp [was])
    rw [was] at bit noAcks errors resends channel
    refine ⟨tail, bit, noAcks, errors, resends, waitEnded, ackWait, fun other e => ?_, fun clear => nomatch clear⟩
    cases e
    exact ⟨channel, count⟩
  | none =>
    rw [Hub.boundary_fails idle pending queue ended last]
    obtain ⟨tail, bit, noAcks, errors, resends, waitEnded, ackWait⟩ := Hub.commandFails_lk queue
    refine ⟨tail, bit, noAcks, errors, resends, waitEnded, ackWait, fun id e => (nomatch e), fun _ few free => ?_⟩
    rw [Hub.commandFails_of_quiet few free]
    exact ⟨fun empty => LinkCtl.failHead_pump_of_nil idle up pending (by rw [queue, empty]),
      fun d more e => LinkCtl.failHead_pump_of_cons idle up pending (by rw [queue, e])⟩

end

/-- Settles O40: each clause is one case of the boundary that the end of the message brings. -/
theorem messagesLeaveInTurn : Obligations.MessagesLeaveInTurn := by
  intro s p sent
  have does (sending : (s.hub.lk p).sending = true) : s.Does (.downstreamMessageSent p) (s.hub.messageSent p) :=
    State.does_of_when (i := .downstreamMessageSent p) (s := s) rfl sending
  refine ⟨fun command flies clear waits => ?wait, fun id up pending => ⟨fun command flies waits => ?behindCommand,
      fun trigger waits => ?behindTrigger⟩, fun c rest up trigger clear queue => ⟨fun ended flies few => ?resend,
      fun waits free => ?new⟩, fun c rest up trigger queue ended last => ?fails, fun still => ?still⟩
  case wait =>
    have does := does (by simp [LinkCtl.sending, command])
    rw [Hub.messageSent_of_command command flies, Hub.boundary_sends_nothing, Hub.modLink_modLink] at does
    · exact does
    all_goals simp [clear, flies, waits]
  case behindCommand =>
    have does := does (by simp [LinkCtl.sending, command])
    rw [Hub.messageSent_of_command command flies, Hub.boundary_sends_trigger (id := id), Hub.modLink_modLink] at does
    · exact does
    all_goals simp
    all_goals assumption
  case behindTrigger =>
    have does := does (by simp [LinkCtl.sending, trigger])
    rw [Hub.messageSent_of_trigger trigger, Hub.boundary_sends_trigger (id := id), Hub.modLink_modLink] at does
    · exact does
    all_goals simp
    all_goals assumption
  case resend =>
    have does := does (by simp [LinkCtl.sending, trigger])
    rw [Hub.messageSent_of_trigger trigger, Hub.boundary_of_wait, Hub.waitOver_of_resend (c := c) (rest := rest),
      Hub.modLink_modLink] at does
    · exact does
    all_goals simp [clear, ended, flies, few, queue]
  case new =>
    have does := does (by simp [LinkCtl.sending, trigger])
    rw [Hub.messageSent_of_trigger trigger, Hub.boundary_sends_new (c := c) (rest := rest), Hub.modLink_modLink] at does
    · exact does
    all_goals simp [clear, waits, free, queue]
    exact up
  case fails =>
    have does := does (by simp [LinkCtl.sending, trigger])
    rw [Hub.messageSent_of_trigger trigger] at does
    have failed := Hub.boundary_fails_lk (h := s.hub.modLink p fun l => { l with channel := .idle }) (p := p) (c := c)
      (rest := rest)
    simp only [Hub.modLink_lk_same, Hub.modLink_tg] at failed
    exact ⟨_, does, failed trivial up queue ended last⟩
  case still =>
    refine State.next_of_not_when (i := .downstreamMessageSent p) rfl ?_
    rcases still with e | e <;> simp [LinkCtl.sending, e]

end Sys2Proof.Machine

/-! # Runs of bytes in frame memory (log entry 8) -/

namespace Sys2Proof.Machine

/-- A byte read after another was written is as it was, also where the list of bytes is not in its canonical form. -/
theorem Memory.read_write_other {a x : Nat} (v : Byte) (other : x ≠ a) : ∀ m : Memory, (m.write a v).read x = m.read x
  | [] => by
    simp only [Memory.write]
    split
    · rfl
    · simp [Memory.read, other.symm]
  | (b, w) :: rest => by
    have tail := Memory.read_write_other v other rest
    simp only [Memory.write]
    split
    · split <;> simp [Memory.read, other.symm]
    · split
      · subst a
        split <;> simp [Memory.read, other.symm]
      · simp only [Memory.read, tail]

/-- A byte outside a run that is written is as it was. -/
theorem Memory.read_writeBytes_outside {x : Nat} : ∀ (bytes : List Byte) (m : Memory) (a : Nat),
    (∀ k < bytes.length, x ≠ memoryAddress (a + k)) → (m.writeBytes a bytes).read x = m.read x
  | [], _, _, _ => rfl
  | v :: rest, m, a, outside => by
    have later : ∀ k < rest.length, x ≠ memoryAddress (a + 1 + k) := fun k inside => by
      rw [Nat.add_assoc, Nat.add_comm 1 k]
      exact outside (k + 1) (by simpa using inside)
    rw [Memory.writeBytes, Memory.read_writeBytes_outside rest _ (a + 1) later]
    exact Memory.read_write_other v (outside 0 (by simp)) m

/-- Two places of a run that is no longer than frame memory have different addresses. -/
theorem memoryAddress_ne {a d : Nat} (apart : 0 < d) (fits : d < memoryBytes) : memoryAddress a ≠ memoryAddress (a + d) := by
  simp only [memoryAddress, memoryBytes] at fits ⊢
  omega

/-- Each byte of a run that is written is read where it stands. -/
theorem Memory.read_writeBytes_inside : ∀ (bytes : List Byte) (m : Memory) (a k : Nat) (inside : k < bytes.length),
    m.wf = true → bytes.length ≤ memoryBytes → (m.writeBytes a bytes).read (memoryAddress (a + k)) = bytes[k]
  | [], _, _, _, inside, _, _ => absurd inside (Nat.not_lt_zero _)
  | v :: rest, m, a, 0, _, canonical, fits => by
    have apart : ∀ k < rest.length, memoryAddress a ≠ memoryAddress (a + 1 + k) := fun k inside => by
      rw [Nat.add_assoc]
      exact memoryAddress_ne (by omega) (by simp only [List.length_cons] at fits; omega)
    rw [Memory.writeBytes, Nat.add_zero a, Memory.read_writeBytes_outside rest _ (a + 1) apart]
    exact Memory.read_write_same v m canonical
  | v :: rest, m, a, k + 1, inside, canonical, fits => by
    have tail := Memory.read_writeBytes_inside rest (m.write (memoryAddress a) v) (a + 1) k (by simpa using inside)
      (Memory.wf_write v (memoryAddress_lt a) canonical) (by simp only [List.length_cons] at fits; omega)
    rwa [Nat.add_assoc, Nat.add_comm 1 k] at tail

/-! ## The bytes of a line (R128, R179) -/

theorem lineBytes_cons (v : Nat) (rest : List Nat) :
    lineBytes (v :: rest) = BitVec.ofNat 8 (v % 4096 / 256) :: BitVec.ofNat 8 (v % 4096) :: lineBytes rest := rfl

theorem lineBytes_length (pixels : List Nat) : (lineBytes pixels).length = 2 * pixels.length := by
  induction pixels with
  | nil => rfl
  | cons v rest ih => simp only [lineBytes_cons, List.length_cons, ih]; omega

theorem lineBytes_high : ∀ (pixels : List Nat) (i : Nat) (hi : i < pixels.length) (inside : 2 * i < (lineBytes pixels).length),
    (lineBytes pixels)[2 * i].toNat = pixels[i] % 4096 / 256
  | v :: rest, 0, _, _ => by
    simp only [lineBytes_cons, Nat.mul_zero, List.getElem_cons_zero, BitVec.toNat_ofNat]
    omega
  | v :: rest, i + 1, hi, inside => by
    have tail := lineBytes_high rest i (by simpa using hi) (by rw [lineBytes_length]; simp at hi; omega)
    simpa only [lineBytes_cons, Nat.mul_succ, List.getElem_cons_succ] using tail

theorem lineBytes_low : ∀ (pixels : List Nat) (i : Nat) (hi : i < pixels.length)
    (inside : 2 * i + 1 < (lineBytes pixels).length), (lineBytes pixels)[2 * i + 1].toNat = pixels[i] % 256
  | v :: rest, 0, _, _ => by
    simp only [lineBytes_cons, Nat.mul_zero, Nat.zero_add, List.getElem_cons_succ, List.getElem_cons_zero, BitVec.toNat_ofNat]
    omega
  | v :: rest, i + 1, hi, inside => by
    have tail := lineBytes_low rest i (by simpa using hi) (by rw [lineBytes_length]; simp at hi; omega)
    simpa only [lineBytes_cons, Nat.mul_succ, List.getElem_cons_succ] using tail

/-- A stored line, read back: the high four bits of a pixel, then the low eight. -/
theorem Memory.read_writeBytes_lineBytes (m : Memory) (a : Nat) (pixels : List Nat) (canonical : m.wf = true)
    (fits : 2 * pixels.length ≤ memoryBytes) (i : Nat) (hi : i < pixels.length) :
    ((m.writeBytes a (lineBytes pixels)).read (memoryAddress (a + 2 * i))).toNat = pixels[i] % 4096 / 256 ∧
      ((m.writeBytes a (lineBytes pixels)).read (memoryAddress (a + 2 * i + 1))).toNat = pixels[i] % 256 := by
  have length := lineBytes_length pixels
  have read := fun k inside => Memory.read_writeBytes_inside (lineBytes pixels) m a k inside canonical (by omega)
  rw [read (2 * i) (by omega), Nat.add_assoc, read (2 * i + 1) (by omega)]
  exact ⟨lineBytes_high pixels i hi _, lineBytes_low pixels i hi _⟩

end Sys2Proof.Machine

/-! # Lines (R34, R128) -/

namespace Sys2Proof.Machine

section
variable {s : State} {p : Port} {n : Nat} {pixels : List Nat} {c : FrameContext}

/-- The hub after a LINE that belongs to the open context (R34). -/
def Hub.lineReceived (h : Hub) (p : Port) (c : FrameContext) (n : Nat) : Hub :=
  h.modLink p fun l => { l with context := some { c with received := n :: c.received } }

theorem execLine_of_established (up : (s.hub.lk p).established = true) :
    exec (.line p n pixels) s = .next (s.line p n pixels).settled := if_pos up

theorem State.line_of_ignored
    (ignored : (s.hub.lk p).context = none ∨
      ∃ c, (s.hub.lk p).context = some c ∧ (c.height ≤ n ∨ pixels.length ≠ c.width ∨ n ∈ c.received)) :
    s.line p n pixels = { s with hub := s.hub.ignoreLine p } := by
  rcases ignored with closed | ⟨c, opened, foreign⟩
  · simp only [State.line, closed]
  · simp only [State.line, opened, if_pos foreign]

theorem State.line_of_taken (opened : (s.hub.lk p).context = some c) (below : n < c.height) (whole : pixels.length = c.width)
    (new : n ∉ c.received) : s.line p n pixels = s.storeLine p c n pixels := by
  have own : ¬ (c.height ≤ n ∨ pixels.length ≠ c.width ∨ n ∈ c.received) := by
    simp only [not_or, not_le, not_not]
    exact ⟨below, whole, new⟩
  simp only [State.line, opened, if_neg own]

theorem State.storeLine_of_late (late : (s.hub.fr p).intake = .late) :
    s.storeLine p c n pixels = { s with hub := (s.hub.lineReceived p c n).countLate p } := by
  simp only [State.storeLine, Hub.modLink_fr, late]
  rfl

theorem State.storeLine_of_unstored (still : (s.hub.fr p).intake = .discarding ∨ (s.hub.fr p).intake = .idle) :
    s.storeLine p c n pixels = { s with hub := s.hub.lineReceived p c n } := by
  rcases still with e | e <;> simp only [State.storeLine, Hub.modLink_fr, e] <;> rfl

theorem State.storeLine_of_filling {r : FrameRecord} (intake : (s.hub.fr p).intake = .filling)
    (filling : (s.hub.fr p).filling = some r) :
    s.storeLine p c n pixels =
      { s with
        dram := s.dram.writeBytes ((s.hub.fr p).base r + n * r.width * 2) (lineBytes pixels)
        hub := (s.hub.lineReceived p c n).modRecord p r.serial fun x => { x with written := n :: x.written } } := by
  simp only [State.storeLine, Hub.modLink_fr, intake, filling]
  rfl

end

/-- Settles O54: the intake decides what becomes of a line that belongs to the context, and a line that is stored writes the
run of its bytes. -/
theorem linesStored : Obligations.LinesStored := by
  intro s p n pixels
  refine ⟨fun down => ?down, fun up ignored => ?ignored, fun c up opened below whole new =>
    ⟨fun late => ?late, fun still => ?still, fun r intake filling => ?stored⟩⟩
  case down => exact if_neg (by simp [down])
  case ignored =>
    rw [State.Does, execLine_of_established up, State.line_of_ignored ignored]
    rfl
  case late =>
    rw [State.Does, execLine_of_established up, State.line_of_taken opened below whole new, State.storeLine_of_late late]
    rfl
  case still =>
    rw [State.Does, execLine_of_established up, State.line_of_taken opened below whole new, State.storeLine_of_unstored still]
    rfl
  case stored =>
    refine ⟨s.dram.writeBytes ((s.hub.fr p).base r + n * r.width * 2) (lineBytes pixels), ?_, fun a outside => ?_,
      fun canonical fits => ⟨Memory.wf_writeBytes _ _ _ canonical, fun i hi =>
        Memory.read_writeBytes_lineBytes s.dram _ pixels canonical fits i hi⟩⟩
    · rw [execLine_of_established up, State.line_of_taken opened below whole new, State.storeLine_of_filling intake filling]
      rfl
    · refine Memory.read_writeBytes_outside _ _ _ fun k inside => outside k ?_
      rwa [lineBytes_length] at inside

end Sys2Proof.Machine

/-! # Concealment (R129) -/

namespace Sys2Proof.Machine

/-- Line r concealed, unless it was written: line 0 with zeros, any other with the line before it (R129). -/
def concealLine (m : Memory) (base bytes : Nat) (written : List Nat) (r : Nat) : Memory :=
  if r ∈ written then m
  else if r = 0 then m.writeBytes base (List.replicate bytes 0)
  else m.writeBytes (base + r * bytes) (m.readBytes (base + (r - 1) * bytes) bytes)

theorem concealFrom_succ (m : Memory) (base bytes : Nat) (written : List Nat) (r n : Nat) :
    concealFrom m base bytes written r (n + 1) =
      concealFrom (concealLine m base bytes written r) base bytes written (r + 1) n := rfl

theorem memoryAddress_of_lt {a : Nat} (inside : a < memoryBytes) : memoryAddress a = a := Nat.mod_eq_of_lt inside

theorem Memory.readBytes_length (m : Memory) : ∀ a n : Nat, (m.readBytes a n).length = n
  | _, 0 => rfl
  | a, n + 1 => by simp [Memory.readBytes, Memory.readBytes_length m (a + 1) n]

theorem Memory.readBytes_getElem (m : Memory) : ∀ (a n k : Nat) (inside : k < (m.readBytes a n).length),
    (m.readBytes a n)[k] = m.read (memoryAddress (a + k))
  | _, 0, _, inside => absurd inside (Nat.not_lt_zero _)
  | _, _ + 1, 0, _ => rfl
  | a, n + 1, k + 1, inside => by
    have tail := Memory.readBytes_getElem m (a + 1) n k (by simpa [Memory.readBytes] using inside)
    rwa [Nat.add_assoc, Nat.add_comm 1 k] at tail

section
variable {m : Memory} {base bytes : Nat} {written : List Nat} {r : Nat}

theorem concealLine_wf (canonical : m.wf = true) : (concealLine m base bytes written r).wf = true := by
  unfold concealLine
  split
  · exact canonical
  · split <;> exact Memory.wf_writeBytes _ _ _ canonical

/-- A run inside frame memory leaves the addresses before and behind it as they are. -/
theorem Memory.read_writeBytes_apart {a x : Nat} {run : List Byte} (fits : a + run.length ≤ memoryBytes)
    (apart : x < a ∨ a + run.length ≤ x) : (m.writeBytes a run).read x = m.read x := by
  refine Memory.read_writeBytes_outside _ _ _ fun k inside => ?_
  rw [memoryAddress_of_lt (by omega)]
  omega

theorem Memory.read_writeBytes_at {a k : Nat} {run : List Byte} (canonical : m.wf = true) (fits : a + run.length ≤ memoryBytes)
    (inside : k < run.length) : (m.writeBytes a run).read (a + k) = run[k] := by
  have read := Memory.read_writeBytes_inside run m a k inside canonical (by omega)
  rwa [memoryAddress_of_lt (by omega)] at read

/-- Concealing a line leaves what is outside it as it is. -/
theorem concealLine_apart (fits : base + r * bytes + bytes ≤ memoryBytes) {x : Nat}
    (apart : x < base + r * bytes ∨ base + r * bytes + bytes ≤ x) :
    (concealLine m base bytes written r).read x = m.read x := by
  unfold concealLine
  split
  · rfl
  · split
    · subst r
      refine Memory.read_writeBytes_apart ?_ ?_ <;> rw [List.length_replicate] <;> omega
    · refine Memory.read_writeBytes_apart ?_ ?_ <;> rwa [Memory.readBytes_length]

theorem concealLine_of_written (was : r ∈ written) : concealLine m base bytes written r = m := if_pos was

theorem concealLine_zero (canonical : m.wf = true) (missing : 0 ∉ written) (fits : base + bytes ≤ memoryBytes) {i : Nat}
    (hi : i < bytes) : (concealLine m base bytes written 0).read (base + i) = 0 := by
  rw [concealLine, if_neg missing, if_pos rfl, Memory.read_writeBytes_at canonical (by rwa [List.length_replicate])
    (by rwa [List.length_replicate])]
  exact List.getElem_replicate _

theorem concealLine_succ (canonical : m.wf = true) (missing : r + 1 ∉ written)
    (fits : base + (r + 1) * bytes + bytes ≤ memoryBytes) {i : Nat} (hi : i < bytes) :
    (concealLine m base bytes written (r + 1)).read (base + (r + 1) * bytes + i) = m.read (base + r * bytes + i) := by
  have length := Memory.readBytes_length m (base + r * bytes) bytes
  have before : (r + 1) * bytes = r * bytes + bytes := Nat.succ_mul r bytes
  rw [concealLine, if_neg missing, if_neg (Nat.succ_ne_zero r), Nat.add_sub_cancel,
    Memory.read_writeBytes_at canonical (by rwa [length]) (by rwa [length]), Memory.readBytes_getElem,
    memoryAddress_of_lt (by omega)]

end

/-! ## Runs of lines -/

section
variable {base bytes : Nat} {written : List Nat}

/-- Lines from r on concealed leave what is before line r and behind the last line as it is. -/
theorem concealFrom_apart : ∀ (n r : Nat) (m : Memory), base + (r + n) * bytes ≤ memoryBytes → ∀ x,
    x < base + r * bytes ∨ base + (r + n) * bytes ≤ x → (concealFrom m base bytes written r n).read x = m.read x
  | 0, _, _, _, _, _ => rfl
  | n + 1, r, m, fits, x, apart => by
    have line : (r + (n + 1)) * bytes = r * bytes + bytes + n * bytes := by ring
    have rest : (r + 1 + n) * bytes = r * bytes + bytes + n * bytes := by ring
    have next : (r + 1) * bytes = r * bytes + bytes := Nat.succ_mul r bytes
    rw [line] at fits apart
    rw [concealFrom_succ, concealFrom_apart n (r + 1) _ (by omega) x (by omega)]
    exact concealLine_apart (by omega) (by omega)

/-- What concealment leaves in line k. -/
structure LineConcealed (m m' : Memory) (base bytes : Nat) (written : List Nat) (k i : Nat) : Prop where
  kept : k ∈ written → m'.read (base + k * bytes + i) = m.read (base + k * bytes + i)
  zero : k ∉ written → k = 0 → m'.read (base + k * bytes + i) = 0
  copied : k ∉ written → k ≠ 0 → m'.read (base + k * bytes + i) = m'.read (base + (k - 1) * bytes + i)

/-- A line concealed, in a memory that later agrees with it up to the line's end. -/
theorem concealLine_concealed {m m' : Memory} {k i : Nat} (canonical : m.wf = true)
    (fits : base + k * bytes + bytes ≤ memoryBytes) (hi : i < bytes)
    (agree : ∀ x, x < base + k * bytes + bytes → m'.read x = (concealLine m base bytes written k).read x) :
    LineConcealed m m' base bytes written k i := by
  have here := agree (base + k * bytes + i) (by omega)
  refine ⟨fun was => ?_, fun missing first => ?_, fun missing later => ?_⟩
  · rw [here, concealLine_of_written was]
  · subst first
    rw [here]
    simpa using concealLine_zero canonical missing (by omega) hi
  · obtain ⟨j, rfl⟩ : ∃ j, k = j + 1 := Nat.exists_eq_succ_of_ne_zero later
    have before : (j + 1) * bytes = j * bytes + bytes := Nat.succ_mul j bytes
    rw [here, Nat.add_sub_cancel, agree (base + j * bytes + i) (by omega), concealLine_succ canonical missing fits hi]
    exact (concealLine_apart fits (.inl (by omega))).symm

theorem concealFrom_concealed : ∀ (n r : Nat) (m : Memory), m.wf = true → base + (r + n) * bytes ≤ memoryBytes →
    ∀ k i, r ≤ k → k < r + n → i < bytes → LineConcealed m (concealFrom m base bytes written r n) base bytes written k i
  | 0, r, _, _, _, k, _, above, below, _ => absurd above (by omega)
  | n + 1, r, m, canonical, fits, k, i, above, below, hi => by
    have line : (r + (n + 1)) * bytes = r * bytes + bytes + n * bytes := by ring
    have rest : (r + 1 + n) * bytes = r * bytes + bytes + n * bytes := by ring
    have next : (r + 1) * bytes = r * bytes + bytes := Nat.succ_mul r bytes
    rw [line] at fits
    rw [concealFrom_succ]
    rcases Nat.eq_or_lt_of_le above with rfl | later
    · exact concealLine_concealed canonical (by omega) hi fun x before =>
        concealFrom_apart n (r + 1) _ (by omega) x (.inl (by omega))
    · obtain ⟨kept, zero, copied⟩ := concealFrom_concealed n (r + 1) (concealLine m base bytes written r)
        (concealLine_wf canonical) (by omega) k i later (by omega) hi
      have behind : (r + 1) * bytes ≤ k * bytes := Nat.mul_le_mul_right bytes later
      exact ⟨fun was => (kept was).trans (concealLine_apart (by omega) (.inr (by omega))), zero, copied⟩

end

end Sys2Proof.Machine

/-! # The completion of a frame (R129, R130) -/

namespace Sys2Proof.Machine

section
variable {h : Hub} {p : Port} {m : Memory} {r done : FrameRecord} {intake : Intake} {serial : Nat}

/-- A FILLING record replaced by what it has become, the intake changed with it. -/
def Hub.recordStored (h : Hub) (p : Port) (serial : Nat) (done : FrameRecord) (intake : Intake) : Hub :=
  h.modFrames p fun f => { f with table := f.table.map fun x => if x.serial = serial then done else x, intake := intake }

/-- A live item at the tail of a port's work list (R146). -/
def Hub.workQueued (h : Hub) (p : Port) (serial : Nat) : Hub :=
  h.modPipe p fun q => { q with work := q.work ++ [{ serial := serial, resend := none }] }

/-- A record is set aside, neither held nor output, where its flags hold SKIPPED or NO_VIEW (R130). -/
def FrameRecord.setAside (r : FrameRecord) : Bool := hasFlag r.flags flagSkipped || hasFlag r.flags flagNoView

theorem FrameRecord.completed_state (r : FrameRecord) (cameraEnd : Option (Nat × Nat)) (truncated : Bool) :
    (r.completed cameraEnd truncated).state = .complete ↔ (r.completed cameraEnd truncated).setAside = false := by
  simp only [FrameRecord.completed, FrameRecord.setAside]
  split <;> simp [*]

section
variable {s : State} {cameraEnd : Option (Nat × Nat)} {truncated : Bool}

theorem State.completeFrame_of_aside (aside : (r.completed cameraEnd truncated).setAside = true) :
    s.completeFrame p r cameraEnd truncated intake =
      { s with
        dram := (s.hub.fr p).conceal r s.dram
        hub := s.hub.recordStored p r.serial (r.completed cameraEnd truncated) intake } := by
  have out : (r.completed cameraEnd truncated).state ≠ .complete := by
    rw [Ne, FrameRecord.completed_state, aside]
    exact Bool.noConfusion
  simp only [State.completeFrame, if_neg out]
  rfl

theorem State.completeFrame_of_busy (live : (r.completed cameraEnd truncated).setAside = false)
    (busy : (s.hub.pl p).phase ≠ .idle) :
    s.completeFrame p r cameraEnd truncated intake =
      { s with
        dram := (s.hub.fr p).conceal r s.dram
        hub := (s.hub.recordStored p r.serial (r.completed cameraEnd truncated) intake).workQueued p r.serial } := by
  simp only [State.completeFrame, if_pos ((r.completed_state _ _).mpr live), Hub.queueLive, Hub.pipeWake]
  rw [if_neg (by simpa using busy)]
  rfl

theorem State.completeFrame_of_idle (live : (r.completed cameraEnd truncated).setAside = false)
    (idle : (s.hub.pl p).phase = .idle) :
    s.completeFrame p r cameraEnd truncated intake =
      { s with
        dram := (s.hub.fr p).conceal r s.dram
        hub := ((s.hub.recordStored p r.serial (r.completed cameraEnd truncated) intake).workQueued p r.serial).pipeAct
          ((s.hub.fr p).conceal r s.dram) p } := by
  simp only [State.completeFrame, if_pos ((r.completed_state _ _).mpr live), Hub.queueLive, Hub.pipeWake]
  rw [if_pos (by simpa using idle)]
  rfl

/-- What a command that completes a record leaves: the record set aside, a live item that waits, or one that its IDLE
pipeline takes (R130, R147). -/
theorem State.completeFrame_outcomes {i : Instr} {before : Hub}
    (means : exec i s = .next ({ s with hub := before }.completeFrame p r cameraEnd truncated intake).settled)
    (frames : before.fr p = s.hub.fr p) (pipe : before.pl p = s.hub.pl p) :
    let m := (s.hub.fr p).conceal r s.dram
    let stored := before.recordStored p r.serial (r.completed cameraEnd truncated) intake
    let queued := stored.workQueued p r.serial
    ((r.completed cameraEnd truncated).setAside = true → exec i s = .next { s with dram := m, hub := stored.settle m }) ∧
    ((r.completed cameraEnd truncated).setAside = false → (s.hub.pl p).phase ≠ .idle →
      exec i s = .next { s with dram := m, hub := queued.settle m }) ∧
    ((r.completed cameraEnd truncated).setAside = false → (s.hub.pl p).phase = .idle →
      exec i s = .next { s with dram := m, hub := (queued.pipeAct m p).settle m }) := by
  rw [means, ← frames, ← pipe]
  refine ⟨fun aside => ?_, fun live busy => ?_, fun live idle => ?_⟩
  · rw [State.completeFrame_of_aside aside]; rfl
  · rw [State.completeFrame_of_busy live busy]; rfl
  · rw [State.completeFrame_of_idle live idle]; rfl

end

end

/-! ## FRAME_END and the fill deadline -/

section
variable {s : State} {p : Port} {r : FrameRecord} {linesSent status : Nat}

theorem execFrameEnd_of_established (up : (s.hub.lk p).established = true) :
    exec (.frameEnd p linesSent status) s = .next (s.frameEnd p linesSent status).settled := if_pos up

theorem State.frameEnd_of_open (opened : (s.hub.lk p).context ≠ none) :
    s.frameEnd p linesSent status = { s with hub := s.hub.closeContext p }.frameEnded p linesSent status := by
  obtain ⟨c, opened⟩ := Option.ne_none_iff_exists'.mp opened
  simp only [State.frameEnd, opened]

theorem execFrameEnd_of_filling (up : (s.hub.lk p).established = true) (opened : (s.hub.lk p).context ≠ none)
    (filling : (s.hub.fr p).filling = some r) :
    exec (.frameEnd p linesSent status) s =
      .next ({ s with hub := s.hub.closeContext p }.completeFrame p r (some (linesSent, status)) false .idle).settled := by
  have still : ((s.hub.closeContext p).fr p).filling = some r := filling
  rw [execFrameEnd_of_established up, State.frameEnd_of_open opened]
  simp only [State.frameEnded, still]

theorem State.frameEnded_of_none (filling : (s.hub.fr p).filling = none) :
    { s with hub := s.hub.closeContext p }.frameEnded p linesSent status =
      { s with hub := (s.hub.closeContext p).modFrames p fun f =>
        { f with intake := .idle, late := if f.intake = .late then f.late + 1 else f.late } } := by
  have still : ((s.hub.closeContext p).fr p).filling = none := filling
  simp only [State.frameEnded, still]
  split
  next late =>
    refine congrArg (fun h => { s with hub := h }) ?_
    rw [Hub.countLate, Hub.setIntake, Hub.modFrames_modFrames]
    exact Hub.modFrames_congr (by dsimp only; rw [if_pos late])
  next other =>
    refine congrArg (fun h => { s with hub := h }) ?_
    rw [Hub.setIntake]
    exact Hub.modFrames_congr (by rw [if_neg other])

theorem execFillDeadline_of_due (filling : (s.hub.fr p).filling = some r)
    (due : elapsed r.fillDeadline r.arrival ≤ elapsed s.hub.time r.arrival) :
    exec (.fillDeadline p) s = .next (s.completeFrame p r none true .late).settled := by
  have found : s.hub.dueFrame p = some r := by simp [Hub.dueFrame, filling, reachedFrom, passed, due]
  simp only [exec, execFillDeadline, found]

theorem execFillDeadline_of_not_due (none : s.hub.dueFrame p = none) : exec (.fillDeadline p) s = .next s := by
  simp only [exec, execFillDeadline, none]

end

/-- Settles O55: both packets complete the FILLING record by `State.completeFrame`, and its concealment is
`concealFrom_concealed`. -/
theorem framesComplete : Obligations.FramesComplete := by
  intro s p linesSent status
  refine ⟨fun down => ?down, fun up closed => ?closed, fun up opened none => ?empty, fun none => ?never,
    fun r filling => ⟨fun early => ?early, (s.hub.fr p).conceal r s.dram, ?completes, fun canonical fits =>
      ⟨PortFrames.conceal_wf _ _ canonical, fun a outside => ?outside, fun n i below hi => ?inside⟩⟩⟩
  case down => exact if_neg (by simp [down])
  case closed =>
    rw [State.Does, execFrameEnd_of_established up, State.frameEnd, closed]
    rfl
  case empty =>
    rw [State.Does, execFrameEnd_of_established up, State.frameEnd_of_open opened, State.frameEnded_of_none none]
    rfl
  case never => exact execFillDeadline_of_not_due (by simp [Hub.dueFrame, none])
  case early => exact execFillDeadline_of_not_due (by simpa [Hub.dueFrame, filling, reachedFrom, passed] using early)
  case completes =>
    rintro i before cameraEnd flag intake (⟨rfl, rfl, rfl, rfl, rfl, up, opened⟩ | ⟨rfl, rfl, rfl, rfl, rfl, due⟩)
    · exact State.completeFrame_outcomes (truncated := false) (execFrameEnd_of_filling up opened filling) rfl rfl
    · exact State.completeFrame_outcomes (truncated := true) (execFillDeadline_of_due filling due) rfl rfl
  case outside =>
    refine concealFrom_apart r.height 0 s.dram ?_ a ?_ <;> simp only [Nat.zero_add, Nat.zero_mul, Nat.add_zero]
    · exact fits
    · exact outside
  case inside =>
    have line := concealFrom_concealed (base := (s.hub.fr p).base r) (bytes := r.width * 2) (written := r.written) r.height 0
      s.dram canonical (by rw [Nat.zero_add]; exact fits) n i (Nat.zero_le n) (by omega) hi
    exact ⟨line.kept, line.zero, line.copied⟩

end Sys2Proof.Machine

/-! # Admission (R125 to R127) -/

namespace Sys2Proof.Machine

/-! ## Where a frame goes, and why it is dropped -/

theorem frameSize_eq (w ht : Nat) : frameSize w ht = (w * ht * 2 + 4095) / 4096 * 4096 := by
  simp only [frameSize, ceilDiv]
  omega

section
variable {f : PortFrames} {w ht offset size : Nat}

theorem PortFrames.overlaps_iff :
    f.overlaps offset size = true ↔ ∃ r ∈ f.table, offset < r.offset + r.size ∧ r.offset < offset + size := by
  simp [PortFrames.overlaps]

/-- The frame is larger than a frame or the ring can be (R125). -/
def PortFrames.tooLargeFor (f : PortFrames) (w ht : Nat) : Prop := 4096 < w ∨ 4096 < ht ∨ f.ringBytes < frameSize w ht

theorem PortFrames.dropReason_of_noRing (none : f.ringLength = 0) : f.dropReason w ht = some .noRing := by
  rw [PortFrames.dropReason, if_pos none]

theorem PortFrames.dropReason_of_ring (ring : f.ringLength ≠ 0) :
    f.dropReason w ht = if decide (4096 < w) || decide (4096 < ht) || decide (f.ringBytes < frameSize w ht) then some .tooLarge
      else if 8 ≤ f.table.length then some .noRecord
      else if f.overlaps (f.placement (frameSize w ht)) (frameSize w ht) then some .noSpace else none := by
  rw [PortFrames.dropReason, if_neg ring]

theorem PortFrames.dropReason_of_tooLarge (ring : f.ringLength ≠ 0) (large : f.tooLargeFor w ht) :
    f.dropReason w ht = some .tooLarge := by
  rw [PortFrames.dropReason_of_ring ring, if_pos (by simpa [or_assoc, PortFrames.tooLargeFor] using large)]

theorem PortFrames.dropReason_of_fits (ring : f.ringLength ≠ 0) (fits : ¬ f.tooLargeFor w ht) :
    f.dropReason w ht = if 8 ≤ f.table.length then some .noRecord
      else if f.overlaps (f.placement (frameSize w ht)) (frameSize w ht) then some .noSpace else none := by
  rw [PortFrames.dropReason_of_ring ring, if_neg (by simpa [or_assoc, PortFrames.tooLargeFor] using fits)]

end

section
variable {h : Hub} {p : Port} {number w ht id : Nat} {res : Resolution}

theorem Hub.admitFrame_of_drop {reason : DropReason} (drops : (h.fr p).releaseRetained.dropReason w ht = some reason) :
    h.admitFrame p number w ht id res =
      (h.modFrames p fun _ => { (h.fr p).releaseRetained.countDrop reason with intake := .discarding }).flag p fFrameDrop := by
  unfold Hub.admitFrame
  dsimp only
  split
  next other dropped =>
    rw [drops] at dropped
    cases dropped
    rfl
  next stays =>
    rw [drops] at stays
    cases stays

/-! ## The record of an admitted frame (R127) -/

/-- The frame is rate-limited by its port's live view (R127). -/
def Hub.limited (h : Hub) (p : Port) : Bool :=
  match (vget h.view.bindings p).view with
  | none => false
  | some v => (h.fr p).rateLimited h.time (vget h.view.views v).interval

theorem Hub.limited_iff : h.limited p = true ↔ ∃ v t, (vget h.view.bindings p).view = some v ∧ (h.fr p).lastOutput = some t ∧
    elapsed h.time t < (vget h.view.views v).interval := by
  unfold Hub.limited PortFrames.rateLimited
  cases (vget h.view.bindings p).view <;> cases (h.fr p).lastOutput <;> simp

/-- The trigger of a resolution: the one that fired the frame, if any. -/
def Resolution.fired : Resolution → Option FiredAt
  | .matched fired _ => some fired
  | .unmatched | .untriggered => none

/-- A frame exposed while its lens moved. -/
def Resolution.moved : Resolution → Bool
  | .matched _ lensMoving => lensMoving
  | .unmatched | .untriggered => false

/-- A frame whose id matches no trigger. -/
def Resolution.missed : Resolution → Bool
  | .unmatched => true
  | .matched .. | .untriggered => false

/-- The flags of a new record by what raises them (R127). -/
def startFlags (moved missed degraded unseen limited : Bool) : BitVec 32 :=
  (if moved then flagLensMoving else if missed then flagUnmatched else 0) ||| (if degraded then flagDegradedLink else 0) |||
    (if unseen then flagNoView else 0) ||| (if limited then flagSkipped else 0)

theorem triggerFlags_eq (res : Resolution) :
    triggerFlags res = if res.moved then flagLensMoving else if res.missed then flagUnmatched else 0 := by
  cases res <;> rfl

/-- The record of an admitted frame (R127). -/
def Hub.newRecord (h : Hub) (p : Port) (number w ht id : Nat) (res : Resolution) : FrameRecord :=
  let f := h.fr p
  let live := (vget h.view.bindings p).view
  { serial := f.nextSerial, number := number, triggerId := id, trigger := res.fired
    arrival := h.time, fillDeadline := after h.time (f.timeout * 1000)
    width := w, height := ht, offset := f.releaseRetained.placement (frameSize w ht), size := frameSize w ht
    state := .filling, held := false, retained := false, view := live
    flags := startFlags res.moved res.missed (decide ((h.lk p).state = .degraded)) live.isNone (h.limited p)
    concealed := 0, cameraEnd := none, resends := [], written := [] }

theorem Hub.admitFrame_of_admitted (admitted : (h.fr p).releaseRetained.dropReason w ht = none) :
    h.admitFrame p number w ht id res = h.modFrames p fun f =>
      { f with
        table := f.releaseRetained.table ++ [h.newRecord p number w ht id res], nextSerial := f.nextSerial + 1
        admitted := f.admitted + 1, intake := .filling
        skipped := if h.limited p then f.skipped + 1 else f.skipped
        lastOutput := if (vget h.view.bindings p).view ≠ none ∧ h.limited p = false then some h.time else f.lastOutput
        cursor :=
          if f.releaseRetained.placement (frameSize w ht) + frameSize w ht = f.ringBytes then 0
          else f.releaseRetained.placement (frameSize w ht) + frameSize w ht } := by
  unfold Hub.admitFrame
  dsimp only
  split
  next reason dropped =>
    rw [admitted] at dropped
    cases dropped
  next =>
    refine Hub.modFrames_congr ?_
    have output : (((vget h.view.bindings p).view.isSome && !h.limited p) = true) =
        ((vget h.view.bindings p).view ≠ none ∧ h.limited p = false) := by
      simp [Option.isSome_iff_ne_none]
    simp only [← output, triggerFlags_eq, Hub.newRecord, startFlags, decide_eq_true_eq]
    cases res <;> rfl

/-- Each flag of a new record stands for its cause, and no other flag is set. -/
theorem startFlags_spec : ∀ moved missed degraded unseen limited : Bool, (moved && missed) = false →
    hasFlag (startFlags moved missed degraded unseen limited) flagLensMoving = moved ∧
    hasFlag (startFlags moved missed degraded unseen limited) flagUnmatched = missed ∧
    hasFlag (startFlags moved missed degraded unseen limited) flagDegradedLink = degraded ∧
    hasFlag (startFlags moved missed degraded unseen limited) flagNoView = unseen ∧
    hasFlag (startFlags moved missed degraded unseen limited) flagSkipped = limited ∧
    startFlags moved missed degraded unseen limited &&&
      ~~~(flagLensMoving ||| flagUnmatched ||| flagDegradedLink ||| flagNoView ||| flagSkipped) = 0 := by
  decide

end

end Sys2Proof.Machine

/-! # A FRAME_START on an established link (R33, R117, R125 to R127) -/

namespace Sys2Proof.Machine

/-! ## The resolution of the id (R117) -/

/-- The id is that of the port's outstanding trigger. -/
def Hub.idHits (h : Hub) (p : Port) (id : Nat) : Prop :=
  ∃ fired moving sent deadline,
    id ≠ 0 ∧ (h.tg p).hand = .outstanding fired (BitVec.ofNat 8 id) moving sent deadline ∧ id < 256

section
variable {h : Hub} {p : Port} {id : Nat}

theorem Hub.resolveId_of_hit {fired : FiredAt} {moving : Bool} {sent deadline : HubTime}
    (hand : (h.tg p).hand = .outstanding fired (BitVec.ofNat 8 id) moving sent deadline) (real : id ≠ 0) (fits : id < 256) :
    h.resolveId p id = (h.modTrig p fun t => { t with hand := .none, matched := t.matched + 1 }, .matched fired moving) := by
  have same : (BitVec.ofNat 8 id).toNat = id := by simpa using fits
  simp only [Hub.resolveId, if_neg real, hand, if_pos same]

theorem Hub.resolveId_of_miss (miss : ¬ h.idHits p id) :
    h.resolveId p id = (h, if id = 0 then .untriggered else .unmatched) := by
  unfold Hub.resolveId
  split
  · rfl
  next real =>
    split
    next fired outId moving sent deadline hand =>
      rw [if_neg]
      rintro rfl
      exact miss ⟨fired, moving, sent, deadline, real, by simpa using hand, outId.isLt⟩
    · rfl

end

/-! ## What admission leaves unchanged, and what it does to the frame table -/

section
variable {h : Hub} {p : Port} {number w ht id : Nat} {res : Resolution}

theorem Hub.admitFrame_others :
    (h.admitFrame p number w ht id res).link = h.link ∧ (h.admitFrame p number w ht id res).trig = h.trig ∧
      (h.admitFrame p number w ht id res).power = h.power ∧ (h.admitFrame p number w ht id res).lens = h.lens ∧
      (h.admitFrame p number w ht id res).view = h.view ∧ (h.admitFrame p number w ht id res).pipe = h.pipe := by
  cases reason : (h.fr p).releaseRetained.dropReason w ht with
  | some reason => rw [Hub.admitFrame_of_drop ‹_›]; simp
  | none => rw [Hub.admitFrame_of_admitted ‹_›]; simp

theorem Hub.flag_fr {flag : BitVec 16} {q : Port} : (h.flag p flag).fr q = h.fr q := by simp [Hub.fr]

theorem Hub.admitFrame_fr_ne {q : Port} (other : q ≠ p) : (h.admitFrame p number w ht id res).fr q = h.fr q := by
  cases reason : (h.fr p).releaseRetained.dropReason w ht with
  | some reason =>
    rw [Hub.admitFrame_of_drop ‹_›, Hub.flag_fr]
    exact Hub.modFrames_fr_ne h p _ other
  | none =>
    rw [Hub.admitFrame_of_admitted ‹_›]
    exact Hub.modFrames_fr_ne h p _ other

theorem Hub.admitFrame_fr_of_drop {reason : DropReason} (drops : (h.fr p).releaseRetained.dropReason w ht = some reason) :
    (h.admitFrame p number w ht id res).fr p =
      { (h.fr p).releaseRetained.countDrop reason with intake := .discarding } := by
  rw [Hub.admitFrame_of_drop drops, Hub.flag_fr]
  exact Hub.modFrames_fr_same h p _

/-- The frame overlaps a record that stays in the table (R126). -/
def PortFrames.noSpaceFor (f : PortFrames) (w ht : Nat) : Prop :=
  ∃ r ∈ f.releaseRetained.table, f.releaseRetained.placement (frameSize w ht) < r.offset + r.size ∧
    r.offset < f.releaseRetained.placement (frameSize w ht) + frameSize w ht

/-- A reason of R125 applies to the frame. -/
def PortFrames.drops (f : PortFrames) (w ht : Nat) : Prop :=
  f.ringLength = 0 ∨ f.tooLargeFor w ht ∨ 8 ≤ f.releaseRetained.table.length ∨ f.noSpaceFor w ht

/-- A frame dropped from a table f: the flag, and the count of the first reason that applies (R125). -/
def Hub.FrameDropped (f : PortFrames) (h' : Hub) (p : Port) (w ht : Nat) : Prop :=
  vget h'.mgmt.portFlags p &&& fFrameDrop = fFrameDrop ∧
  (f.ringLength = 0 → h'.fr p = { f.releaseRetained with intake := .discarding, noRing := f.noRing + 1 }) ∧
  (f.ringLength ≠ 0 → f.tooLargeFor w ht →
    h'.fr p = { f.releaseRetained with intake := .discarding, tooLarge := f.tooLarge + 1 }) ∧
  (f.ringLength ≠ 0 → ¬ f.tooLargeFor w ht → 8 ≤ f.releaseRetained.table.length →
    h'.fr p = { f.releaseRetained with intake := .discarding, noRecord := f.noRecord + 1 }) ∧
  (f.ringLength ≠ 0 → ¬ f.tooLargeFor w ht → f.releaseRetained.table.length < 8 → f.noSpaceFor w ht →
    h'.fr p = { f.releaseRetained with intake := .discarding, noSpace := f.noSpace + 1 })

section
variable {f : PortFrames}

theorem PortFrames.drops_noRing (none : f.ringLength = 0) : f.releaseRetained.dropReason w ht = some .noRing :=
  PortFrames.dropReason_of_noRing none

theorem PortFrames.drops_tooLarge (ring : f.ringLength ≠ 0) (large : f.tooLargeFor w ht) :
    f.releaseRetained.dropReason w ht = some .tooLarge := PortFrames.dropReason_of_tooLarge ring large

theorem PortFrames.drops_noRecord (ring : f.ringLength ≠ 0) (fits : ¬ f.tooLargeFor w ht)
    (full : 8 ≤ f.releaseRetained.table.length) : f.releaseRetained.dropReason w ht = some .noRecord := by
  rw [PortFrames.dropReason_of_fits (f := f.releaseRetained) ring fits, if_pos full]

theorem PortFrames.drops_noSpace (ring : f.ringLength ≠ 0) (fits : ¬ f.tooLargeFor w ht)
    (room : f.releaseRetained.table.length < 8) (taken : f.noSpaceFor w ht) :
    f.releaseRetained.dropReason w ht = some .noSpace := by
  rw [PortFrames.dropReason_of_fits (f := f.releaseRetained) ring fits, if_neg (by omega),
    if_pos (PortFrames.overlaps_iff.mpr taken)]

theorem PortFrames.dropReason_of_drops (drops : f.drops w ht) : ∃ reason, f.releaseRetained.dropReason w ht = some reason := by
  by_cases none : f.ringLength = 0
  · exact ⟨_, PortFrames.drops_noRing none⟩
  by_cases large : f.tooLargeFor w ht
  · exact ⟨_, PortFrames.drops_tooLarge none large⟩
  by_cases full : 8 ≤ f.releaseRetained.table.length
  · exact ⟨_, PortFrames.drops_noRecord none large full⟩
  have taken : f.noSpaceFor w ht := ((drops.resolve_left none).resolve_left large).resolve_left full
  exact ⟨_, PortFrames.drops_noSpace none large (by omega) taken⟩

end

theorem Hub.admitFrame_drops (drops : (h.fr p).drops w ht) :
    Hub.FrameDropped (h.fr p) (h.admitFrame p number w ht id res) p w ht := by
  refine ⟨?_, fun none => Hub.admitFrame_fr_of_drop (PortFrames.drops_noRing none),
    fun ring large => Hub.admitFrame_fr_of_drop (PortFrames.drops_tooLarge ring large),
    fun ring fits full => Hub.admitFrame_fr_of_drop (PortFrames.drops_noRecord ring fits full),
    fun ring fits room taken => Hub.admitFrame_fr_of_drop (PortFrames.drops_noSpace ring fits room taken)⟩
  obtain ⟨reason, dropped⟩ := PortFrames.dropReason_of_drops drops
  rw [Hub.admitFrame_of_drop dropped]
  exact Hub.flag_has _ p fFrameDrop

theorem Hub.admitted_of_room (ring : (h.fr p).ringLength ≠ 0) (fits : ¬ (h.fr p).tooLargeFor w ht)
    (room : (h.fr p).releaseRetained.table.length < 8) (free : ¬ (h.fr p).noSpaceFor w ht) :
    (h.fr p).releaseRetained.dropReason w ht = none := by
  rw [PortFrames.dropReason_of_fits (f := (h.fr p).releaseRetained) ring fits, if_neg (by omega),
    if_neg fun overlaps => free (PortFrames.overlaps_iff.mp overlaps)]

end

/-! ## The new context and the new record -/

section
variable {h : Hub} {p : Port} {number w ht id : Nat}

/-- The context that a FRAME_START opens (R33). -/
def Hub.contextOpened (h : Hub) (p : Port) (number w ht : Nat) : Hub :=
  h.modLink p fun l => { l with context := some { number := number, width := w, height := ht, received := [] } }

/-- The hub after the id's resolution, and the resolution. -/
def Hub.startResolved (h : Hub) (p : Port) (number w ht id : Nat) : Hub × Resolution :=
  (h.contextOpened p number w ht).resolveId p id

theorem Hub.openFrame_eq : h.openFrame p number w ht id =
    (h.startResolved p number w ht id).1.admitFrame p number w ht id (h.startResolved p number w ht id).2 := rfl

theorem Hub.startResolved_of_hit {fired : FiredAt} {moving : Bool} {sent deadline : HubTime}
    (hand : (h.tg p).hand = .outstanding fired (BitVec.ofNat 8 id) moving sent deadline) (real : id ≠ 0) (fits : id < 256) :
    h.startResolved p number w ht id =
      ((h.contextOpened p number w ht).modTrig p fun t => { t with hand := .none, matched := t.matched + 1 },
        .matched fired moving) :=
  Hub.resolveId_of_hit (h := h.contextOpened p number w ht) hand real fits

theorem Hub.startResolved_of_miss (miss : ¬ h.idHits p id) :
    h.startResolved p number w ht id = (h.contextOpened p number w ht, if id = 0 then .untriggered else .unmatched) :=
  Hub.resolveId_of_miss (h := h.contextOpened p number w ht) miss

/-- The resolution leaves all but the port's trigger and context as they are. -/
theorem Hub.startResolved_others :
    (h.startResolved p number w ht id).1.link = (h.contextOpened p number w ht).link ∧
      (h.startResolved p number w ht id).1.frames = h.frames ∧ (h.startResolved p number w ht id).1.power = h.power ∧
      (h.startResolved p number w ht id).1.lens = h.lens ∧ (h.startResolved p number w ht id).1.view = h.view ∧
      (h.startResolved p number w ht id).1.pipe = h.pipe ∧ (h.startResolved p number w ht id).1.mgmt = h.mgmt ∧
      (h.startResolved p number w ht id).1.trunk = h.trunk ∧ (h.startResolved p number w ht id).1.time = h.time := by
  simp [Hub.startResolved, Hub.contextOpened]

theorem Hub.startResolved_tg_ne {q : Port} (other : q ≠ p) : (h.startResolved p number w ht id).1.tg q = h.tg q := by
  by_cases hit : h.idHits p id
  · obtain ⟨fired, moving, sent, deadline, real, hand, fits⟩ := hit
    rw [Hub.startResolved_of_hit hand real fits]
    exact Hub.modTrig_tg_ne _ p _ other
  · rw [Hub.startResolved_of_miss hit]
    rfl

/-- The trigger part of a new record by the resolution (R117, R127). -/
theorem Hub.startResolved_resolution :
    (∀ fired moving sent deadline, (h.tg p).hand = .outstanding fired (BitVec.ofNat 8 id) moving sent deadline →
      h.idHits p id → (h.startResolved p number w ht id).2.fired = some fired ∧
        (h.startResolved p number w ht id).2.moved = moving) ∧
    (¬ h.idHits p id → (h.startResolved p number w ht id).2.fired = none ∧
      (h.startResolved p number w ht id).2.moved = false) ∧
    ((h.startResolved p number w ht id).2.missed = true ↔ id ≠ 0 ∧ ¬ h.idHits p id) := by
  by_cases hit : h.idHits p id
  · have ⟨fired, moving, sent, deadline, real, hand, fits⟩ := hit
    rw [Hub.startResolved_of_hit hand real fits]
    refine ⟨fun fired' moving' sent' deadline' hand' _ => ?_, fun miss => absurd hit miss, by simp [Resolution.missed, hit]⟩
    rw [hand] at hand'
    cases hand'
    exact ⟨rfl, rfl⟩
  · rw [Hub.startResolved_of_miss hit]
    refine ⟨fun _ _ _ _ _ hit' => absurd hit' hit, fun _ => ?_, ?_⟩
    · split <;> exact ⟨rfl, rfl⟩
    · split <;> simp [Resolution.missed, *]

theorem Resolution.moved_missed (res : Resolution) : (res.moved && res.missed) = false := by
  cases res <;> simp [Resolution.moved, Resolution.missed]

/-- What a new record and its rate limit read of the hub. -/
theorem Hub.newRecord_congr {k : Hub} (frames : k.fr p = h.fr p) (view : k.view = h.view) (time : k.time = h.time)
    (state : (k.lk p).state = (h.lk p).state) (res : Resolution) :
    k.newRecord p number w ht id res = h.newRecord p number w ht id res ∧ k.limited p = h.limited p := by
  have limited : k.limited p = h.limited p := by simp only [Hub.limited, frames, view, time]
  exact ⟨by simp only [Hub.newRecord, frames, view, time, state, limited], limited⟩

/-- An admitted frame at the frame table (R126, R127). -/
theorem Hub.openFrame_of_room (ring : (h.fr p).ringLength ≠ 0) (fits : ¬ (h.fr p).tooLargeFor w ht)
    (room : (h.fr p).releaseRetained.table.length < 8) (free : ¬ (h.fr p).noSpaceFor w ht) :
    let f := h.fr p
    let h' := h.openFrame p number w ht id
    h'.fr p = { f with
      table := f.releaseRetained.table ++ [h.newRecord p number w ht id (h.startResolved p number w ht id).2]
      nextSerial := f.nextSerial + 1, admitted := f.admitted + 1, intake := .filling
      skipped := if h.limited p then f.skipped + 1 else f.skipped
      lastOutput := if (vget h.view.bindings p).view ≠ none ∧ h.limited p = false then some h.time else f.lastOutput
      cursor :=
        if f.releaseRetained.placement (frameSize w ht) + frameSize w ht = f.ringBytes then 0
        else f.releaseRetained.placement (frameSize w ht) + frameSize w ht } ∧
    h'.mgmt = h.mgmt ∧ h'.trunk = h.trunk := by
  obtain ⟨link, frames, -, -, view, -, mgmt, trunk, time⟩ :=
    Hub.startResolved_others (h := h) (p := p) (number := number) (w := w) (ht := ht) (id := id)
  have table : (h.startResolved p number w ht id).1.fr p = h.fr p := congrArg (vget · p) frames
  have state : ((h.startResolved p number w ht id).1.lk p).state = (h.lk p).state := by
    simp only [Hub.lk, link, Hub.contextOpened, Hub.modLink_link, vget_vmod_same]
  obtain ⟨record, limited⟩ := Hub.newRecord_congr (number := number) (w := w) (ht := ht) (id := id) table view time state
    (h.startResolved p number w ht id).2
  have admitted : ((h.startResolved p number w ht id).1.fr p).releaseRetained.dropReason w ht = none := by
    rw [table]
    exact Hub.admitted_of_room ring fits room free
  dsimp only
  rw [Hub.openFrame_eq, Hub.admitFrame_of_admitted admitted]
  refine ⟨?_, mgmt, trunk⟩
  rw [Hub.modFrames_fr_same, table, record, limited, view, time]

/-- The flags of the new record, each with its cause (R127). -/
theorem Hub.newRecord_flags (res : Resolution) :
    let flags := (h.newRecord p number w ht id res).flags
    (hasFlag flags flagLensMoving = true ↔ res.moved = true) ∧ (hasFlag flags flagUnmatched = true ↔ res.missed = true) ∧
    (hasFlag flags flagDegradedLink = true ↔ (h.lk p).state = .degraded) ∧
    (hasFlag flags flagNoView = true ↔ (vget h.view.bindings p).view = none) ∧
    (hasFlag flags flagSkipped = true ↔ h.limited p = true) ∧
    flags &&& ~~~(flagLensMoving ||| flagUnmatched ||| flagDegradedLink ||| flagNoView ||| flagSkipped) = 0 := by
  obtain ⟨moved, missed, degraded, unseen, limited, others⟩ := startFlags_spec res.moved res.missed
    (decide ((h.lk p).state = .degraded)) (vget h.view.bindings p).view.isNone (h.limited p) res.moved_missed
  refine ⟨?_, ?_, ?_, ?_, ?_, others⟩ <;> simp only [Hub.newRecord]
  · rw [moved]
  · rw [missed]
  · rw [degraded, decide_eq_true_eq]
  · rw [unseen, Option.isNone_iff_eq_none]
  · rw [limited]

end

end Sys2Proof.Machine

/-! # A FRAME_START that finds a context open (R33, R129, R130) -/

namespace Sys2Proof.Machine

/-! ## A pipeline reads nothing of the links -/

section
variable {h : Hub} {p q : Port} {g : LinkCtl → LinkCtl}

theorem Hub.modLink_endItem (flag : BitVec 32) : (h.modLink q g).endItem p flag = (h.endItem p flag).modLink q g := by
  simp only [Hub.endItem, Hub.modLink_pl]
  split <;> rfl

theorem Hub.modLink_beginItem (item : WorkItem) (r : FrameRecord) :
    (h.modLink q g).beginItem p item r = (h.beginItem p item r).modLink q g := by
  have plan : (h.modLink q g).planFor (itemView item r) r = h.planFor (itemView item r) r := rfl
  simp only [Hub.beginItem, plan]
  split <;> rfl

theorem Hub.modLink_emission (m : Memory) (plan : OutputPlan) (item : WorkItem) (r : FrameRecord) :
    (h.modLink q g).emission m p plan item r = h.emission m p plan item r := rfl

theorem Hub.modLink_imageFits (pkt : Packet) : (h.modLink q g).imageFits p pkt = h.imageFits p pkt := rfl

theorem Hub.modLink_placeImage (pkt : Packet) : (h.modLink q g).placeImage p pkt = (h.placeImage p pkt).modLink q g := rfl

theorem Hub.modLink_planTaken (f : OutputPlan → OutputPlan) :
    (h.modLink q g).planTaken p f = (h.planTaken p f).modLink q g := rfl

theorem Hub.modLink_closeTaken (serial : Nat) : (h.modLink q g).closeTaken p serial = (h.closeTaken p serial).modLink q g := rfl

end

/-- A pipeline's run commutes with a change of the links (R146 to R154). -/
theorem Hub.modLink_pipeRun (m : Memory) (p q : Port) (g : LinkCtl → LinkCtl) : ∀ (n : Nat) (h : Hub),
    Hub.pipeRun m p n (h.modLink q g) = (Hub.pipeRun m p n h).modLink q g
  | 0, _ => rfl
  | n + 1, h => by
    have run := Hub.modLink_pipeRun m p q g n
    simp only [Hub.pipeRun, Hub.modLink_pl, Hub.modLink_fr, Hub.modLink_trunk, Hub.modLink_emission, Hub.modLink_imageFits,
      Hub.modLink_endItem, Hub.modLink_beginItem, Hub.modLink_placeImage, Hub.modLink_planTaken, Hub.modLink_closeTaken, run]
    cases (h.pl p).work with
    | nil => rfl
    | cons item rest =>
      dsimp only
      cases (h.fr p).record item.serial with
      | none => rfl
      | some r =>
        dsimp only
        by_cases idle : (h.pl p).phase = .idle
        · simp only [idle, if_true]
          cases h.trunk.up <;> rfl
        · cases (h.pl p).plan with
          | none => simp only [idle, if_false]
          | some plan =>
            dsimp only
            by_cases fits : h.imageFits p (h.emission m p plan item r) = true
            · simp only [idle, fits, if_false, if_true]
              cases plan.next with
              | frameOpen => cases plan.empty <;> rfl
              | imageLine k => rfl
              | frameClose => rfl
            · simp only [idle, fits, if_false]
              rfl

theorem Hub.modLink_pipeAct (m : Memory) (p q : Port) (g : LinkCtl → LinkCtl) (h : Hub) :
    (h.modLink q g).pipeAct m p = (h.pipeAct m p).modLink q g := Hub.modLink_pipeRun m p q g _ h

/-! ## The frame that is cut off, and the new one -/

section
variable {s : State} {p : Port} {number w ht id : Nat} {r : FrameRecord}

/-- What a FRAME_START opens does not depend on the context before it. -/
theorem Hub.closeContext_openFrame (h : Hub) :
    (h.closeContext p).openFrame p number w ht id = h.openFrame p number w ht id := by
  unfold Hub.openFrame Hub.closeContext
  rw [Hub.modLink_modLink]

theorem execFrameStart_of_established (up : (s.hub.lk p).established = true) :
    exec (.frameStart p number w ht id) s = .next (s.frameStart p number w ht id).settled := if_pos up

theorem State.frameStart_of_closed (wide : 0 < w) (high : 0 < ht) (closed : (s.hub.lk p).context = none) :
    s.frameStart p number w ht id = { s with hub := s.hub.openFrame p number w ht id } := by
  have ranged : ¬ (w = 0 ∨ ht = 0) := by omega
  simp only [State.frameStart, if_neg ranged, closed]
  rfl

theorem State.frameStart_of_open (wide : 0 < w) (high : 0 < ht) (opened : (s.hub.lk p).context ≠ none) :
    s.frameStart p number w ht id =
      { s.frameCutOff p with hub := (s.frameCutOff p).hub.openFrame p number w ht id } := by
  have ranged : ¬ (w = 0 ∨ ht = 0) := by omega
  simp only [State.frameStart, if_neg ranged, Option.isSome_iff_ne_none.mpr opened, if_true]

/-- The frame that was open cut off, the new one is taken as with no context open (R33). -/
theorem execFrameStart_of_open (up : (s.hub.lk p).established = true) (wide : 0 < w) (high : 0 < ht)
    (opened : (s.hub.lk p).context ≠ none) {m : Memory} {h : Hub} (cut : s.frameCutOff p = { s with dram := m, hub := h })
    (link : h.link = s.hub.link) :
    exec (.frameStart p number w ht id) s =
      exec (.frameStart p number w ht id) { s with dram := m, hub := h.closeContext p } := by
  have same : (h.closeContext p).lk p = { s.hub.lk p with context := none } := by
    rw [Hub.closeContext, Hub.modLink_lk_same, Hub.lk, link]
    rfl
  rw [execFrameStart_of_established up, State.frameStart_of_open wide high opened, cut,
    execFrameStart_of_established (by rw [same]; exact up),
    State.frameStart_of_closed wide high (by rw [same])]
  simp only [Hub.closeContext_openFrame]

theorem State.frameCutOff_of_filling (filling : (s.hub.fr p).filling = some r) :
    s.frameCutOff p = s.completeFrame p r none true .idle := by
  simp only [State.frameCutOff, filling]

theorem State.frameCutOff_of_none (none : (s.hub.fr p).filling = none) :
    s.frameCutOff p = { s with hub := s.hub.setIntake p .idle } := by
  simp only [State.frameCutOff, none]

end

end Sys2Proof.Machine

/-! # FRAME_START as a whole (R33) -/

namespace Sys2Proof.Machine

section
variable {s : State} {p : Port} {number w ht id : Nat} {r : FrameRecord}

theorem State.frameStart_of_ignored (ignored : w = 0 ∨ ht = 0) :
    s.frameStart p number w ht id = { s with hub := (s.hub.ignorePacket p).linkError p } := if_pos ignored

/-- A FRAME_START taken with no context open changes the hub alone. -/
theorem State.does_frameStart (up : (s.hub.lk p).established = true) (wide : 0 < w) (high : 0 < ht)
    (closed : (s.hub.lk p).context = none) :
    s.Does (.frameStart p number w ht id) (s.hub.openFrame p number w ht id) := by
  rw [State.Does, execFrameStart_of_established up, State.frameStart_of_closed wide high closed]
  rfl

theorem State.does_frameStart_ignored (up : (s.hub.lk p).established = true) (ignored : w = 0 ∨ ht = 0) :
    s.Does (.frameStart p number w ht id) ((s.hub.ignorePacket p).linkError p) := by
  rw [State.Does, execFrameStart_of_established up, State.frameStart_of_ignored ignored]
  rfl

/-- What a FRAME_START with no context open leaves unchanged. -/
theorem Hub.openFrame_others {h : Hub} :
    (h.openFrame p number w ht id).lk p =
        { h.lk p with context := some { number := number, width := w, height := ht, received := [] } } ∧
      (∀ q, q ≠ p → (h.openFrame p number w ht id).fr q = h.fr q ∧ (h.openFrame p number w ht id).lk q = h.lk q ∧
        (h.openFrame p number w ht id).tg q = h.tg q) ∧
      (h.openFrame p number w ht id).trig = (h.startResolved p number w ht id).1.trig ∧
      (h.openFrame p number w ht id).power = h.power ∧ (h.openFrame p number w ht id).lens = h.lens ∧
      (h.openFrame p number w ht id).view = h.view ∧ (h.openFrame p number w ht id).pipe = h.pipe := by
  obtain ⟨link, frames, power, lens, view, pipe, -⟩ :=
    Hub.startResolved_others (h := h) (p := p) (number := number) (w := w) (ht := ht) (id := id)
  obtain ⟨link', trig', power', lens', view', pipe'⟩ := Hub.admitFrame_others (h := (h.startResolved p number w ht id).1)
    (p := p) (number := number) (w := w) (ht := ht) (id := id) (res := (h.startResolved p number w ht id).2)
  rw [Hub.openFrame_eq]
  refine ⟨?_, fun q other => ⟨?_, ?_, ?_⟩, trig', power'.trans power, lens'.trans lens, view'.trans view, pipe'.trans pipe⟩
  · rw [Hub.lk, link', link]
    exact Hub.modLink_lk_same h p _
  · rw [Hub.admitFrame_fr_ne other, Hub.fr, frames]
    rfl
  · rw [Hub.lk, link', link]
    exact Hub.modLink_lk_ne h p _ other
  · rw [Hub.tg, trig']
    exact Hub.startResolved_tg_ne other

/-- The trigger in hand after the resolution (R117). -/
theorem Hub.openFrame_tg {h : Hub} :
    (h.idHits p id → (h.openFrame p number w ht id).tg p =
      { h.tg p with hand := .none, matched := (h.tg p).matched + 1 }) ∧
    (¬ h.idHits p id → (h.openFrame p number w ht id).tg p = h.tg p) := by
  obtain ⟨-, -, trig, -⟩ := Hub.openFrame_others (h := h) (p := p) (number := number) (w := w) (ht := ht) (id := id)
  simp only [Hub.tg, trig]
  refine ⟨fun hit => ?_, fun miss => ?_⟩
  · obtain ⟨fired, moving, sent, deadline, real, hand, fits⟩ := hit
    rw [Hub.startResolved_of_hit hand real fits]
    exact Hub.modTrig_tg_same _ p _
  · rw [Hub.startResolved_of_miss miss]
    rfl

theorem Hub.openFrame_drops {h : Hub} (drops : (h.fr p).drops w ht) :
    Hub.FrameDropped (h.fr p) (h.openFrame p number w ht id) p w ht := by
  obtain ⟨-, frames, -⟩ := Hub.startResolved_others (h := h) (p := p) (number := number) (w := w) (ht := ht) (id := id)
  have table : (h.startResolved p number w ht id).1.fr p = h.fr p := congrArg (vget · p) frames
  have dropped := Hub.admitFrame_drops (h := (h.startResolved p number w ht id).1) (p := p) (number := number) (w := w)
    (ht := ht) (id := id) (res := (h.startResolved p number w ht id).2)
  rw [table] at dropped
  exact dropped drops

theorem Hub.closeContext_recordStored {h : Hub} {serial : Nat} {done : FrameRecord} {intake : Intake} :
    (h.closeContext p).recordStored p serial done intake = (h.recordStored p serial done intake).closeContext p := rfl

theorem Hub.closeContext_workQueued {h : Hub} {serial : Nat} :
    (h.closeContext p).workQueued p serial = (h.workQueued p serial).closeContext p := rfl

theorem Hub.closeContext_pipeAct {h : Hub} {m : Memory} : (h.closeContext p).pipeAct m p = (h.pipeAct m p).closeContext p :=
  Hub.modLink_pipeAct m p p _ h

/-- A frame cut off by the next: its record set aside, or a live item of its pipeline (R33, R129, R130). -/
theorem execFrameStart_of_filling (up : (s.hub.lk p).established = true) (wide : 0 < w) (high : 0 < ht)
    (opened : (s.hub.lk p).context ≠ none) (filling : (s.hub.fr p).filling = some r) :
    let m := (s.hub.fr p).conceal r s.dram
    let stored := (s.hub.closeContext p).recordStored p r.serial (r.completed none true) .idle
    let queued := stored.workQueued p r.serial
    exec (.frameStart p number w ht id) s = exec (.frameStart p number w ht id)
      { s with
        dram := m
        hub := if (r.completed none true).setAside then stored
          else if (s.hub.pl p).phase = .idle then queued.pipeAct m p else queued } := by
  have cut := State.frameCutOff_of_filling filling
  simp only [Hub.closeContext_recordStored, Hub.closeContext_workQueued, Hub.closeContext_pipeAct]
  cases aside : (r.completed none true).setAside with
  | true =>
    rw [State.completeFrame_of_aside aside] at cut
    exact execFrameStart_of_open up wide high opened cut rfl
  | false =>
    by_cases idle : (s.hub.pl p).phase = .idle
    · rw [State.completeFrame_of_idle aside idle] at cut
      rw [if_pos idle]
      exact execFrameStart_of_open up wide high opened cut (by simp [Hub.workQueued, Hub.recordStored])
    · rw [State.completeFrame_of_busy aside idle] at cut
      rw [if_neg idle]
      exact execFrameStart_of_open up wide high opened cut rfl

end

/-- Settles O53: a packet out of range is a link error, and one with no context open is `Hub.openFrame`; an open frame is
first cut off, which commutes with closing its context. -/
theorem framesAdmitted : Obligations.FramesAdmitted := by
  intro s p number w ht id
  refine ⟨fun down => ?down, fun up ignored few => ?counted, fun up ignored full => ?degrades,
    fun up wide high closed => ?taken, fun up wide high opened => ⟨fun none => ?afterNone, fun r filling => ?afterCut⟩⟩
  case down => exact if_neg (by simp [down])
  case counted =>
    have does := State.does_frameStart_ignored (number := number) (id := id) up ignored
    rw [Hub.linkError_of_counted (by simpa [Hub.ignorePacket] using few.imp (fun e => by simp [e]) fun few => few),
      Hub.ignorePacket, Hub.modLink_modLink] at does
    exact does
  case degrades =>
    have does := State.does_frameStart_ignored (s := s) (p := p) (number := number) (id := id)
      (by simp [LinkCtl.established, up]) ignored
    rw [Hub.linkError_of_full (by simpa [Hub.ignorePacket] using up) (by simpa [Hub.ignorePacket] using full),
      Hub.ignorePacket, Hub.modLink_modLink] at does
    exact does
  case taken =>
    obtain ⟨link, others, -, power, lens, view, pipe⟩ :=
      Hub.openFrame_others (h := s.hub) (p := p) (number := number) (w := w) (ht := ht) (id := id)
    obtain ⟨hit, miss⟩ := Hub.openFrame_tg (h := s.hub) (p := p) (number := number) (w := w) (ht := ht) (id := id)
    rw [← frameSize_eq]
    refine ⟨_, State.does_frameStart up wide high closed, link, hit, miss, others, power, lens, view, pipe,
      fun drops => ?drops, fun ring fits room free => ?admitted⟩
    case drops => exact Hub.openFrame_drops drops
    case admitted =>
      obtain ⟨table, mgmt, trunk⟩ := Hub.openFrame_of_room (number := number) (id := id) ring fits room free
      obtain ⟨matched, unmatched, missed⟩ := Hub.startResolved_resolution (h := s.hub) (p := p) (number := number) (w := w)
        (ht := ht) (id := id)
      obtain ⟨moving, noMatch, degraded, unseen, limited, others⟩ := Hub.newRecord_flags (h := s.hub) (p := p)
        (number := number) (w := w) (ht := ht) (id := id) (s.hub.startResolved p number w ht id).2
      refine ⟨s.hub.newRecord p number w ht id (s.hub.startResolved p number w ht id).2, s.hub.limited p, Hub.limited_iff,
        table, mgmt, trunk, rfl, rfl, rfl, rfl, rfl, rfl, rfl, rfl, rfl, rfl, rfl, rfl, rfl, rfl, rfl, rfl, rfl,
        fun miss => (unmatched miss).1, fun fired moved sent deadline hit hand => ?_, fun miss => ?_, noMatch.trans missed,
        degraded, unseen, limited, others⟩
      · obtain ⟨trigger, moves⟩ := matched fired moved sent deadline hand hit
        exact ⟨trigger, moving.trans (by rw [moves])⟩
      · exact Bool.eq_false_of_not_eq_true fun flag => by
          rw [moving, (unmatched miss).2] at flag
          cases flag
  case afterNone =>
    exact execFrameStart_of_open up wide high opened (State.frameCutOff_of_none none) rfl
  case afterCut => exact execFrameStart_of_filling up wide high opened filling

end Sys2Proof.Machine

/-! # The port that a shed chooses (R41) -/

namespace Sys2Proof.Machine

section
variable {h : Hub}

/-- A port goes before another in the order of R41: lower priority, and the higher number among equals. -/
def Hub.ShedBefore (h : Hub) (a b : Port) : Prop :=
  (h.pw a).priority < (h.pw b).priority ∨ (h.pw a).priority = (h.pw b).priority ∧ b < a

theorem Hub.ShedBefore.trans {a b c : Port} (ab : h.ShedBefore a b) (bc : h.ShedBefore b c) : h.ShedBefore a c := by
  simp only [Hub.ShedBefore, Fin.lt_def] at *
  omega

theorem Hub.ShedBefore.ne {a b : Port} (ab : h.ShedBefore a b) : a ≠ b := by
  rintro rfl
  simp only [Hub.ShedBefore, Fin.lt_def] at ab
  omega

theorem Hub.ShedBefore.asymm {a b : Port} (ab : h.ShedBefore a b) : ¬ h.ShedBefore b a := fun ba => (ab.trans ba).ne rfl

/-- The powered port that goes before every other. -/
def Hub.ShedFirst (h : Hub) (p : Port) : Prop :=
  (h.pw p).powered = true ∧ ∀ q, (h.pw q).powered = true → q ≠ p → h.ShedBefore p q

/-- The choice between the best port so far and the next one. -/
def Hub.shedBest (h : Hub) (best : Option Port) (p : Port) : Option Port :=
  if (h.pw p).powered then
    match best with
    | none => some p
    | some b => if (h.pw p).priority ≤ (h.pw b).priority then some p else best
  else best

theorem Hub.shedCandidate_eq : h.shedCandidate = allPorts.foldl h.shedBest none := rfl

/-- What has been chosen of the ports seen. -/
def Hub.BestOf (h : Hub) (seen : List Port) : Option Port → Prop
  | none => ∀ q ∈ seen, (h.pw q).powered = false
  | some b => b ∈ seen ∧ (h.pw b).powered = true ∧ ∀ q ∈ seen, (h.pw q).powered = true → q ≠ b → h.ShedBefore b q

/-- The next port, whose number is higher, is chosen over the best so far where its priority is not higher. -/
theorem Hub.BestOf.step {seen : List Port} {best : Option Port} {p : Port} (later : ∀ q ∈ seen, q < p) (k : h.BestOf seen best) :
    h.BestOf (p :: seen) (h.shedBest best p) := by
  unfold Hub.shedBest
  cases on : (h.pw p).powered with
  | false =>
    rw [if_neg (by decide)]
    cases best with
    | none => exact List.forall_mem_cons.mpr ⟨on, k⟩
    | some b =>
      obtain ⟨mem, powered, first⟩ := k
      exact ⟨List.mem_cons_of_mem p mem, powered, List.forall_mem_cons.mpr ⟨fun on' => absurd on' (by simp [on]), first⟩⟩
  | true =>
    rw [if_pos rfl]
    cases best with
    | none =>
      refine ⟨List.mem_cons_self, on, List.forall_mem_cons.mpr ⟨fun _ e => absurd rfl e, fun q m on' => ?_⟩⟩
      rw [k q m] at on'
      cases on'
    | some b =>
      obtain ⟨mem, powered, first⟩ := k
      have above := later b mem
      dsimp only
      split
      case isTrue le =>
        have before : h.ShedBefore p b := by simp only [Hub.ShedBefore, Fin.lt_def] at above ⊢; omega
        refine ⟨List.mem_cons_self, on, List.forall_mem_cons.mpr ⟨fun _ e => absurd rfl e, fun q m on' _ => ?_⟩⟩
        by_cases e : q = b
        · exact e ▸ before
        · exact before.trans (first q m on' e)
      case isFalse gt =>
        exact ⟨List.mem_cons_of_mem p mem, powered, List.forall_mem_cons.mpr ⟨fun _ _ => .inl (by omega), first⟩⟩

theorem Hub.BestOf.foldl : ∀ (l seen : List Port) (best : Option Port), l.Pairwise (· < ·) → (∀ q ∈ seen, ∀ r ∈ l, q < r) →
    h.BestOf seen best → h.BestOf (l.reverse ++ seen) (l.foldl h.shedBest best)
  | [], _, _, _, _, k => k
  | p :: l, seen, best, rise, later, k => by
    obtain ⟨above, rise⟩ := List.pairwise_cons.mp rise
    rw [List.foldl_cons, List.reverse_cons, List.append_assoc]
    refine Hub.BestOf.foldl l (p :: seen) _ rise (List.forall_mem_cons.mpr ⟨above, fun q m r mr => ?_⟩)
      (k.step fun q m => later q m p List.mem_cons_self)
    exact later q m r (List.mem_cons_of_mem p mr)

theorem Hub.shedCandidate_bestOf : h.BestOf (allPorts.reverse ++ []) h.shedCandidate := by
  rw [Hub.shedCandidate_eq]
  exact Hub.BestOf.foldl allPorts [] none (by decide) (fun q m => nomatch m) (fun q m => nomatch m)

theorem mem_reverse_allPorts (p : Port) : p ∈ allPorts.reverse ++ [] := by
  rw [List.append_nil, List.mem_reverse]
  exact mem_allPorts p

/-- A shed that finds no port: none is powered. -/
theorem Hub.not_powered_of_shedCandidate (none : h.shedCandidate = none) (p : Port) : (h.pw p).powered = false := by
  have best := h.shedCandidate_bestOf
  rw [none] at best
  exact best p (mem_reverse_allPorts p)

/-- The port that a shed chooses is the first in the order of R41. -/
theorem Hub.shedFirst_of_shedCandidate {p : Port} (chosen : h.shedCandidate = some p) : h.ShedFirst p := by
  have best := h.shedCandidate_bestOf
  rw [chosen] at best
  obtain ⟨-, powered, first⟩ := best
  exact ⟨powered, fun q => first q (mem_reverse_allPorts q)⟩

theorem Hub.shedCandidate_of_none (off : ∀ p, (h.pw p).powered = false) : h.shedCandidate = none := by
  cases chosen : h.shedCandidate with
  | none => rfl
  | some p => exact absurd (Hub.shedFirst_of_shedCandidate chosen).1 (by simp [off p])

theorem Hub.shedCandidate_of_first {p : Port} (first : h.ShedFirst p) : h.shedCandidate = some p := by
  obtain ⟨powered, before⟩ := first
  cases chosen : h.shedCandidate with
  | none => exact absurd powered (by simp [Hub.not_powered_of_shedCandidate chosen])
  | some q =>
    obtain ⟨powered', before'⟩ := Hub.shedFirst_of_shedCandidate chosen
    by_contra e
    have ne : q ≠ p := fun same => e (congrArg some same)
    exact (before q powered' ne).asymm (before' p powered ne.symm)

end

end Sys2Proof.Machine

/-! # The totals' limits (R38, R42, R86, R141): the law at one port, and what keeps it -/

namespace Sys2Proof.Machine

/-! ## The laws, and the relation that keeps them -/

/-- The law of the allowance at one port: it is held only while the port is ON (R42), and while an axis is in motion (R86). -/
structure Hub.AllowanceHolds (h : Hub) (p : Port) : Prop where
  powered : (h.pw p).allowanceHeld = true → (h.pw p).state = .on
  motion : (h.ln p).anyMotion = true → (h.pw p).allowanceHeld = true

/-- The two laws of the totals (R38, R141). -/
def Hub.TotalsHold (h : Hub) : Prop := h.BudgetHolds ∧ h.AdmissionHolds

theorem Hub.budgetHolds_iff (h : Hub) : h.BudgetHolds ↔ (∀ p, h.AllowanceHolds p) ∧ h.grantedTotal ≤ h.cell.budget :=
  ⟨fun ⟨powered, motion, fits⟩ => ⟨fun p => ⟨powered p, motion p⟩, fits⟩,
    fun ⟨law, fits⟩ => ⟨fun p => (law p).powered, fun p => (law p).motion, fits⟩⟩

/-- From h to h', where the law of the allowance held at the port, it holds, and the port draws no more. -/
def Hub.DrawKept (h h' : Hub) (p : Port) : Prop :=
  h.AllowanceHolds p → h'.AllowanceHolds p ∧ (h'.pw p).drawn ≤ (h.pw p).drawn

/-- From h to h', budget and bindings have stayed, and every port keeps the law of the allowance and draws no more. -/
structure Hub.TotalsKept (h h' : Hub) : Prop where
  budget : h'.cell.budget = h.cell.budget
  bindings : h'.view.bindings = h.view.bindings
  port : ∀ p, h.DrawKept h' p

theorem Hub.DrawKept.trans {a b c : Hub} {p : Port} (h : a.DrawKept b p) (k : b.DrawKept c p) : a.DrawKept c p := fun law => by
  obtain ⟨lawB, lessB⟩ := h law
  obtain ⟨lawC, lessC⟩ := k lawB
  exact ⟨lawC, lessC.trans lessB⟩

theorem Hub.DrawKept.of_eq {h h' : Hub} {p : Port} (e : h'.pw p = h.pw p ∧ h'.ln p = h.ln p) : h.DrawKept h' p := fun law => by
  obtain ⟨power, lens⟩ := e
  exact ⟨⟨by rw [power]; exact law.powered, by rw [power, lens]; exact law.motion⟩, by rw [power]⟩

theorem Hub.TotalsKept.trans {a b c : Hub} (h : a.TotalsKept b) (k : b.TotalsKept c) : a.TotalsKept c :=
  ⟨k.budget.trans h.budget, k.bindings.trans h.bindings, fun p => (h.port p).trans (k.port p)⟩

/-- A sum over the ports grows with its terms. -/
theorem sum_ports_le {f g : Port → Nat} (le : ∀ p, f p ≤ g p) : (allPorts.map f).sum ≤ (allPorts.map g).sum :=
  List.sum_le_sum fun p _ => le p

theorem Hub.grantedTotal_le {h h' : Hub} (le : ∀ p, (h'.pw p).drawn ≤ (h.pw p).drawn) : h'.grantedTotal ≤ h.grantedTotal :=
  sum_ports_le le

theorem Hub.TotalsKept.holds {h h' : Hub} (k : h.TotalsKept h') (l : h.TotalsHold) : h'.TotalsHold := by
  obtain ⟨budget, admission⟩ := l
  obtain ⟨law, fits⟩ := h.budgetHolds_iff.mp budget
  refine ⟨h'.budgetHolds_iff.mpr ⟨fun p => (k.port p (law p)).1, ?_⟩, ?_⟩
  · rw [k.budget]
    exact (Hub.grantedTotal_le fun p => (k.port p (law p)).2).trans fits
  · simpa only [Hub.AdmissionHolds, Hub.admissionTotal, k.bindings] using admission

/-- What the laws of the totals read: the Power Controller's ports, the lenses, the budget and the bindings. -/
def Hub.totalItems (h : Hub) : Vector PortPower 8 × Vector PortLens 8 × Nat × Vector Binding 8 :=
  (h.power, h.lens, h.cell.budget, h.view.bindings)

theorem Hub.TotalsKept.of_items {h h' : Hub} (e : h'.totalItems = h.totalItems) : h.TotalsKept h' := by
  simp only [Hub.totalItems, Prod.mk.injEq] at e
  obtain ⟨power, lens, budget, bindings⟩ := e
  exact ⟨budget, bindings, fun p => .of_eq (by simp only [Hub.pw, Hub.ln, power, lens, and_self])⟩

theorem Hub.TotalsKept.refl (h : Hub) : h.TotalsKept h := .of_items rfl

/-- Of what the laws read, one port's power and lens items may change. -/
theorem Hub.TotalsKept.of_port {h h' : Hub} {p : Port}
    (units : h'.cell.budget = h.cell.budget ∧ h'.view.bindings = h.view.bindings)
    (other : ∀ q, q ≠ p → h'.pw q = h.pw q ∧ h'.ln q = h.ln q) (own : h.DrawKept h' p) : h.TotalsKept h' := by
  refine ⟨units.1, units.2, fun q => ?_⟩
  by_cases e : q = p
  · exact e ▸ own
  · exact .of_eq (other q e)

/-! ## The updates of one unit -/

section
variable {h : Hub} {p : Port}

/-- A port that holds no allowance and has no axis in motion meets the law, whatever its power state. -/
theorem Hub.AllowanceHolds.of_released (released : (h.pw p).allowanceHeld = false) (still : (h.ln p).anyMotion = false) :
    h.AllowanceHolds p := ⟨fun held => absurd held (by simp [released]), fun m => absurd m (by simp [still])⟩

/-- A port that is not ON holds no allowance and has no axis in motion. -/
theorem Hub.AllowanceHolds.of_not_on (law : h.AllowanceHolds p) (off : (h.pw p).state ≠ .on) :
    (h.pw p).allowanceHeld = false ∧ (h.ln p).anyMotion = false := by
  have released : (h.pw p).allowanceHeld = false := by
    by_contra held
    exact off (law.powered (by simpa using held))
  refine ⟨released, ?_⟩
  by_contra m
  have held := law.motion (by simpa using m)
  rw [released] at held
  cases held

theorem Hub.TotalsKept.modPower {f : PortPower → PortPower}
    (own : h.AllowanceHolds p → ((f (h.pw p)).allowanceHeld = true → (f (h.pw p)).state = .on) ∧
      ((h.ln p).anyMotion = true → (f (h.pw p)).allowanceHeld = true) ∧ (f (h.pw p)).drawn ≤ (h.pw p).drawn) :
    h.TotalsKept (h.modPower p f) := by
  refine .of_port (p := p) ⟨rfl, rfl⟩ (fun q e => by simp [Hub.modPower_pw_ne, e]) fun law => ?_
  obtain ⟨powered, motion, less⟩ := own law
  exact ⟨⟨by simpa using powered, by simpa using motion⟩, by simpa using less⟩

/-- Power items that the laws do not read change. -/
theorem Hub.TotalsKept.modPower_of_same {f : PortPower → PortPower} (state : (f (h.pw p)).state = (h.pw p).state)
    (held : (f (h.pw p)).allowanceHeld = (h.pw p).allowanceHeld) (grant : (f (h.pw p)).grant = (h.pw p).grant)
    (allowance : (f (h.pw p)).allowance = (h.pw p).allowance) : h.TotalsKept (h.modPower p f) := by
  refine .modPower fun law => ⟨by rw [state, held]; exact law.powered, by rw [held]; exact law.motion, ?_⟩
  simp [PortPower.drawn, PortPower.powered, state, held, grant, allowance]

theorem Hub.TotalsKept.modLens {f : PortLens → PortLens} (own : (f (h.ln p)).anyMotion = true → (h.ln p).anyMotion = true) :
    h.TotalsKept (h.modLens p f) := by
  refine .of_port (p := p) ⟨rfl, rfl⟩ (fun q e => by simp [Hub.modLens_ln_ne, e]) fun law => ⟨⟨law.powered, fun m => ?_⟩, le_rfl⟩
  exact law.motion (own (by simpa using m))

theorem Hub.TotalsKept.modAxis {x : AxisId} {f : Axis → Axis} (own : (f (h.ax p x)).moving = true → (h.ax p x).moving = true) :
    h.TotalsKept (h.modAxis p x f) := .modLens (PortLens.modAxis_still own)

/-- Bindings that carry no more load than before. -/
theorem Hub.TotalsHold.modView {f : ViewTable → ViewTable} (l : h.TotalsHold) (fits : (h.modView f).admissionTotal ≤ imageBandwidth) :
    (h.modView f).TotalsHold := ⟨l.1, fits⟩

end

theorem Hub.raise_totalsKept (h : Hub) (p : Port) (port part : BitVec 16) : h.TotalsKept (h.raise p port part) :=
  .of_items (by simp [Hub.totalItems])

theorem Hub.flag_totalsKept (h : Hub) (p : Port) (f : BitVec 16) : h.TotalsKept (h.flag p f) := h.raise_totalsKept p f 0

theorem Hub.modLink_totalsKept (h : Hub) (p : Port) (f : LinkCtl → LinkCtl) : h.TotalsKept (h.modLink p f) := .of_items rfl

/-! ## Reports, completions and message boundaries -/

/-- The report releases the allowance where no axis is in motion (R86). -/
theorem Hub.reportIdle_totalsKept (h : Hub) (p : Port) : h.TotalsKept (h.reportIdle p) := by
  unfold Hub.reportIdle
  split
  · exact .refl h
  case isFalse still =>
    have released : h.TotalsKept (h.modPower p fun q => { q with allowanceHeld := false }) :=
      .modPower fun _ => ⟨fun held => absurd held Bool.false_ne_true, fun m => absurd m still, by simp [PortPower.drawn, PortPower.powered]⟩
    exact released.trans (.of_items (by simp [Hub.totalItems]))

/-- A change of the lens that ends motions, with its flag and the report. -/
theorem Hub.ended_totalsKept {h h' : Hub} (p : Port) (f : BitVec 16) (k : h.TotalsKept h') :
    h.TotalsKept ((h'.flag p f).reportIdle p) := (k.trans (Hub.flag_totalsKept _ p f)).trans (Hub.reportIdle_totalsKept _ p)

theorem Hub.completeLens_totalsKept (h : Hub) (p : Port) (x : AxisId) (how : Completion) :
    h.TotalsKept (h.completeLens p x how) := by
  have counted : h.TotalsKept (h.modAxis p x fun a => { a with pending := a.pending - 1 }) := .modAxis id
  unfold Hub.completeLens
  dsimp only
  split
  · exact Hub.ended_totalsKept p _ (counted.trans (.modAxis fun m => absurd m (by simp [Axis.lost_moving])))
  · exact counted

theorem Hub.completeCommand_totalsKept (h : Hub) (p : Port) (c : Command) (how : Completion) :
    h.TotalsKept (h.completeCommand p c how) := by
  cases c with
  | attrRead slot attr _ _ | attrWrite slot attr _ _ =>
    cases how with
    | delivered => exact .refl h
    | noAck | linkDown => exact .of_items (by simp [Hub.completeCommand, Hub.totalItems])
  | lensMove x _ | lensHome x | lensStop x => exact h.completeLens_totalsKept p x how

theorem Hub.linkError_totalsKept (h : Hub) (p : Port) : h.TotalsKept (h.linkError p) := .of_items (by simp [Hub.totalItems])

theorem Hub.ackTaken_totalsKept (h : Hub) (p : Port) (sequence : Bool) : h.TotalsKept (h.ackTaken p sequence) := by
  unfold Hub.ackTaken
  dsimp only
  split
  · split
    · exact ((h.modLink_totalsKept p _).trans (Hub.completeCommand_totalsKept _ p _ _)).trans (Hub.modLink_totalsKept _ p _)
    · exact h.modLink_totalsKept p _
  · exact h.modLink_totalsKept p _

theorem Hub.waitOver_totalsKept (h : Hub) (p : Port) : h.TotalsKept (h.waitOver p) := by
  unfold Hub.waitOver
  dsimp only
  split
  · exact .refl h
  · split
    · exact h.modLink_totalsKept p _
    · exact (((h.modLink_totalsKept p _).trans (Hub.completeCommand_totalsKept _ p _ _)).trans
        (Hub.linkError_totalsKept _ p)).trans (Hub.modLink_totalsKept _ p _)

theorem Hub.boundary_totalsKept (h : Hub) (p : Port) : h.TotalsKept (h.boundary p) := by
  unfold Hub.boundary
  dsimp only
  split
  · exact .refl h
  · split
    · exact h.waitOver_totalsKept p
    · split
      · exact (h.modLink_totalsKept p _).trans (Hub.waitOver_totalsKept _ p)
      · exact h.modLink_totalsKept p _

theorem Hub.messageSent_totalsKept (h : Hub) (p : Port) : h.TotalsKept (h.messageSent p) := by
  unfold Hub.messageSent
  split
  · exact (h.modLink_totalsKept p _).trans (Hub.boundary_totalsKept _ p)
  · exact (h.modLink_totalsKept p _).trans (Hub.boundary_totalsKept _ p)
  · exact .refl h

theorem Hub.waitEnds_totalsKept (h : Hub) (p : Port) : h.TotalsKept (h.waitEnds p) :=
  (h.modLink_totalsKept p _).trans (Hub.boundary_totalsKept _ p)

/-! ## Lens reports and commands -/

theorem Hub.lensReport_totalsKept (h : Hub) (p : Port) (axis position kind : Nat) :
    h.TotalsKept (h.lensReport p axis position kind) := by
  have ignored (late : Bool) : h.TotalsKept (h.ignoreReport p late) := .modLens (by cases late <;> exact id)
  unfold Hub.lensReport
  dsimp only
  split
  · exact ignored false
  · split
    · exact ignored false
    · split
      · exact ignored false
      · split
        · exact ignored true
        · split
          · exact ignored false
          · split
            · exact ignored false
            · exact Hub.ended_totalsKept p _ (.modAxis fun m => absurd m (by simp [Axis.moving]))

theorem Hub.axisTimeout_totalsKept (h : Hub) (p : Port) (x : AxisId) : h.TotalsKept (h.axisTimeout p x) :=
  Hub.ended_totalsKept p _ (.modAxis fun m => absurd m (by simp [Axis.lost_moving]))

section
variable {h : Hub} {p : Port}

/-- One port's term counts once in a sum over the ports. -/
theorem sum_ports_update (f : Port → Nat) (p : Port) (n : Nat) :
    (allPorts.map fun q => if q = p then n else f q).sum + f p = (allPorts.map f).sum + n := by
  revert p
  simp only [allPorts, List.map_cons, List.map_nil, List.sum_cons, List.sum_nil]
  intro p
  fin_cases p <;> simp <;> omega

/-- The granted total after one port's power items changed (R38). -/
theorem Hub.modPower_grantedTotal (f : PortPower → PortPower) :
    (h.modPower p f).grantedTotal + (h.pw p).drawn = h.grantedTotal + (f (h.pw p)).drawn := by
  have drawn (q : Port) : ((h.modPower p f).pw q).drawn = if q = p then (f (h.pw p)).drawn else (h.pw q).drawn := by
    rw [Hub.modPower_pw]
    split <;> rfl
  simp only [Hub.grantedTotal, drawn]
  exact sum_ports_update (fun q => (h.pw q).drawn) p _

/-- Power items change within the budget (R39, R42). -/
theorem Hub.TotalsHold.modPower {f : PortPower → PortPower} (l : h.TotalsHold)
    (powered : (f (h.pw p)).allowanceHeld = true → (f (h.pw p)).state = .on)
    (motion : (h.ln p).anyMotion = true → (f (h.pw p)).allowanceHeld = true)
    (fits : h.grantedTotal + (f (h.pw p)).drawn ≤ h.cell.budget + (h.pw p).drawn) : (h.modPower p f).TotalsHold := by
  obtain ⟨budget, admission⟩ := l
  obtain ⟨law, -⟩ := h.budgetHolds_iff.mp budget
  have total := h.modPower_grantedTotal (p := p) f
  refine ⟨(Hub.budgetHolds_iff _).mpr ⟨fun q => ?_, ?_⟩, admission⟩
  · by_cases e : q = p
    · subst e; exact ⟨by simpa using powered, by simpa using motion⟩
    · exact (Hub.DrawKept.of_eq (h := h) (by simp [Hub.modPower_pw_ne, e]) (law q)).1
  · simp only [Hub.modPower_cell]
    omega

/-- The allowance that the Power Controller grants (R42). -/
theorem Hub.holdAllowance_totalsHold (fits : h.allowanceFits p = true) (l : h.TotalsHold) : (h.holdAllowance p).TotalsHold := by
  simp only [Hub.allowanceFits, Bool.and_eq_true, decide_eq_true_eq] at fits
  obtain ⟨on, room⟩ := fits
  refine l.modPower (fun _ => on) (fun _ => rfl) ?_
  simp only [PortPower.drawn, PortPower.powered, on]
  simp
  omega

/-- A lens command that is accepted finds or takes the allowance (R87). -/
theorem Hub.lensCommand_totalsHold (c : Command) (l : h.TotalsHold) : (h.lensCommand p c).1.TotalsHold ∧
    ((h.lensCommand p c).2 = none → ((h.lensCommand p c).1.pw p).allowanceHeld = true) := by
  have queued (h : Hub) (mk : BitVec 8 → Command) : h.TotalsKept (h.queueCommand p false mk) := .of_items rfl
  unfold Hub.lensCommand
  split
  case isTrue m =>
    split
    · exact ⟨(queued _ _).holds l, fun _ => l.1.2.1 p m⟩
    · exact ⟨l, fun e => by cases e⟩
  · split
    case isTrue fits =>
      have held := Hub.holdAllowance_totalsHold fits l
      split
      · refine ⟨(queued _ _).holds held, fun _ => ?_⟩
        simp [Hub.queueCommand, Hub.holdAllowance]
      · exact ⟨(Hub.reportIdle_totalsKept _ p).holds held, fun e => by cases e⟩
    · exact ⟨l, fun e => by cases e⟩

/-- An axis of a port that holds its allowance may change in any way. -/
theorem Hub.modAxis_totalsHold {x : AxisId} {f : Axis → Axis} (held : (h.pw p).allowanceHeld = true) (l : h.TotalsHold) :
    (h.modAxis p x f).TotalsHold := by
  obtain ⟨⟨powered, motion, fits⟩, admission⟩ := l
  refine ⟨⟨powered, fun q m => ?_, fits⟩, admission⟩
  by_cases e : q = p
  · exact e ▸ held
  · exact motion q (by simpa [Hub.modAxis, Hub.modLens_ln_ne, e] using m)

theorem Hub.homeAxis_totalsHold (p : Port) (x : AxisId) (l : h.TotalsHold) : (h.homeAxis p x).1.TotalsHold := by
  obtain ⟨sent, held⟩ := Hub.lensCommand_totalsHold (p := p) (.lensHome x) l
  unfold Hub.homeAxis
  dsimp only
  split
  · exact l
  · split
    · exact l
    · split
      · exact l
      · split
        · exact sent
        case h_2 accepted => exact Hub.modAxis_totalsHold (held accepted) sent

theorem Hub.lensHome_totalsHold (p : Port) (axis : Nat) (l : h.TotalsHold) : (h.lensHome p axis).1.TotalsHold := by
  unfold Hub.lensHome
  split
  · exact l
  · exact Hub.homeAxis_totalsHold p _ l

theorem Hub.sendMove_totalsHold {x : AxisId} {target : Nat} {status : Status} {f : Axis → Axis} (l : h.TotalsHold) :
    (h.sendMove p x target status f).1.TotalsHold := by
  obtain ⟨sent, held⟩ := Hub.lensCommand_totalsHold (p := p) (.lensMove x target) l
  unfold Hub.sendMove
  dsimp only
  split
  · exact sent
  case h_2 accepted => exact Hub.modAxis_totalsHold (held accepted) sent

theorem Hub.moveAxis_totalsHold (p : Port) (x : AxisId) (wanted : Nat) (l : h.TotalsHold) :
    (h.moveAxis p x wanted).1.TotalsHold := by
  unfold Hub.moveAxis
  dsimp only
  split
  · exact l
  · split
    · exact l
    · split
      case h_1 | h_2 | h_3 => exact l
      case h_4 | h_5 =>
        split
        · exact l
        · exact Hub.sendMove_totalsHold l

theorem Hub.lensMove_totalsHold (p : Port) (axis target : Nat) (l : h.TotalsHold) : (h.lensMove p axis target).1.TotalsHold := by
  unfold Hub.lensMove
  split
  · exact l
  · exact Hub.moveAxis_totalsHold p _ target l

theorem Hub.stopAxis_totalsHold (p : Port) (x : AxisId) (l : h.TotalsHold) : (h.stopAxis p x).1.TotalsHold := by
  obtain ⟨sent, held⟩ := Hub.lensCommand_totalsHold (p := p) (.lensStop x) l
  unfold Hub.stopAxis
  dsimp only
  split
  · exact l
  · split
    · exact l
    · split
      · exact sent
      case h_2 accepted => exact Hub.modAxis_totalsHold (held accepted) sent

theorem Hub.lensStop_totalsHold (p : Port) (axis : Nat) (l : h.TotalsHold) : (h.lensStop p axis).1.TotalsHold := by
  unfold Hub.lensStop
  split
  · exact l
  · exact Hub.stopAxis_totalsHold p _ l

theorem Hub.lensFocusDistance_totalsHold (p : Port) (d : Nat) (l : h.TotalsHold) : (h.lensFocusDistance p d).1.TotalsHold := by
  unfold Hub.lensFocusDistance
  dsimp only
  split
  · exact l
  · split
    · exact l
    · split
      · exact l
      · split
        · exact l
        · split
          · exact l
          · exact Hub.moveAxis_totalsHold p .focus _ l

end

end Sys2Proof.Machine

/-! # The operations that change what ports draw -/

namespace Sys2Proof.Machine

/-! ## Drops and departures from ON -/

section
variable {h : Hub} {p : Port}

theorem PowerKept.drawn {q q' : PortPower} (k : PowerKept q q') : q'.drawn ≤ q.drawn := by
  rcases k with rfl | rfl
  · exact le_rfl
  · simp [PortPower.drawn, PortPower.powered]

/-- Power items that are kept but for the allowance, of a port with no axis in motion, keep the law and draw no more. -/
theorem Hub.DrawKept.of_powerKept {h' : Hub} (power : PowerKept (h.pw p) (h'.pw p)) (still : (h'.ln p).anyMotion = false) :
    h.DrawKept h' p := fun law => by
  refine ⟨⟨fun held => ?_, fun m => absurd m (by simp [still])⟩, power.drawn⟩
  rw [power.state]
  rcases power with e | e
  · exact law.powered (by rwa [e] at held)
  · rw [e] at held; cases held

theorem Hub.drop_totalsKept (h : Hub) (p : Port) (cause : DropCause) (enter : LinkCtl → LinkCtl) :
    h.TotalsKept (h.drop p cause enter) :=
  .of_port (by simp) (fun q e => by simp [Hub.pw, Hub.ln, e]) (.of_powerKept (h.drop_kept p cause enter) Hub.drop_still)

/-- After a departure from ON no axis of the port is in motion (R98). -/
theorem Hub.leftOn_still (h : Hub) (p : Port) : ((h.leftOn p).ln p).anyMotion = false := by
  have axis (x : AxisId) : (((h.leftOn p).ln p).axis x).moving = false :=
    congrArg Axis.moving (Hub.lensPowerLost_ax (h := h.linkPowerLost p) (p := p) x)
  have f := axis .focus
  have z := axis .zoom
  have i := axis .iris
  simp only [PortLens.axis] at f z i
  simp only [PortLens.anyMotion, f, z, i, Bool.or_false]

/-- A port whose power is cut, with the flags of the event; from ON, it then leaves it (R50). -/
theorem Hub.departs_totalsKept {f : PortPower → PortPower} (port part : BitVec 16)
    (released : (f (h.pw p)).allowanceHeld = false) (cut : (f (h.pw p)).powered = false) :
    h.TotalsKept (if (h.pw p).state = .on then ((h.modPower p f).raise p port part).leftOn p
      else (h.modPower p f).raise p port part) := by
  have power : ((h.modPower p f).raise p port part).pw p = f (h.pw p) := by simp [Hub.pw]
  have dry {q : PortPower} (k : PowerKept (f (h.pw p)) q) : q.allowanceHeld = false ∧ q.drawn = 0 := by
    have none : (f (h.pw p)).drawn = 0 := by simp [PortPower.drawn, released, cut]
    exact ⟨by rcases k with rfl | rfl <;> simp [released], Nat.le_zero.mp (none ▸ k.drawn)⟩
  split
  · obtain ⟨free, drawn⟩ := dry (power ▸ Hub.leftOn_kept ((h.modPower p f).raise p port part) p)
    exact .of_port (p := p) (by simp) (fun q e => by simp [Hub.pw, Hub.ln, vget_vmod_ne, e])
      fun _ => ⟨.of_released free (Hub.leftOn_still _ p), by simp [drawn]⟩
  case isFalse off =>
    obtain ⟨free, drawn⟩ := dry (.refl _)
    refine .of_port (p := p) (by simp) (fun q e => by simp [Hub.pw, Hub.ln, vget_vmod_ne, e]) fun law => ?_
    refine ⟨.of_released (by rw [power, free]) ?_, by simp [power, drawn]⟩
    simpa [Hub.ln] using (law.of_not_on off).2

/-! ## Camera power -/

theorem Hub.turnOff_totalsKept (h : Hub) (p : Port) (cause : OffCause) (part : BitVec 16) :
    h.TotalsKept (h.turnOff p cause part) := by
  unfold Hub.turnOff
  exact Hub.departs_totalsKept _ _ rfl rfl

/-- A port may enter DETECTING where its grant fits the budget (R39). -/
theorem Hub.enterDetecting_totalsHold (off : (h.pw p).state ≠ .on) (fits : h.grantFits p = true) (l : h.TotalsHold) :
    (h.enterDetecting p).TotalsHold := by
  obtain ⟨released, still⟩ := Hub.AllowanceHolds.of_not_on ((h.budgetHolds_iff.mp l.1).1 p) off
  simp only [Hub.grantFits, decide_eq_true_eq] at fits
  refine (Hub.flag_totalsKept _ p _).holds (l.modPower (fun held => ?_) (fun m => ?_) ?_)
  · simp [released] at held
  · simp [still] at m
  · simp only [PortPower.drawn, PortPower.powered, released]
    simp
    omega

theorem Hub.isolationRise_totalsKept (h : Hub) (p : Port) : h.TotalsKept (h.isolationRise p) := by
  unfold Hub.isolationRise
  split
  case h_5 | h_6 => exact .refl h
  all_goals exact h.turnOff_totalsKept p _ _

theorem Hub.retry_totalsHold (off : (h.pw p).state ≠ .on) (l : h.TotalsHold) : (h.retry p).TotalsHold := by
  unfold Hub.retry
  split
  · exact (h.turnOff_totalsKept p _ _).holds l
  · split
    case isTrue fits => exact Hub.enterDetecting_totalsHold off fits l
    case isFalse => exact (h.turnOff_totalsKept p _ _).holds l

theorem Hub.modPostponed_totalsKept (h : Hub) (p : Port) (b : Bool) :
    h.TotalsKept (h.modPower p fun q => { q with postponed := b }) := .modPower_of_same rfl rfl rfl rfl

theorem Hub.cooldownOver_totalsHold (off : (h.pw p).state ≠ .on) (l : h.TotalsHold) : (h.cooldownOver p).TotalsHold := by
  unfold Hub.cooldownOver
  split
  · exact (h.modPostponed_totalsKept p true).holds l
  · exact Hub.retry_totalsHold off l

theorem Hub.sweepReported_totalsHold (p : Port) (l : h.TotalsHold) : (h.sweepReported p).TotalsHold := by
  unfold Hub.sweepReported
  split
  case isTrue cooling =>
    simp only [Bool.and_eq_true, decide_eq_true_eq] at cooling
    exact Hub.retry_totalsHold (by simp [cooling.1]) ((h.modPostponed_totalsKept p false).holds l)
  case isFalse => exact l

theorem Hub.powerDown_totalsKept (h : Hub) (p : Port) : h.TotalsKept (h.powerDown p) := by
  unfold Hub.powerDown
  split
  · exact h.turnOff_totalsKept p _ _
  · exact .refl h

theorem Hub.powerOff_totalsKept (h : Hub) (p : Port) : h.TotalsKept (h.powerOff p) := by
  unfold Hub.powerOff
  split
  · exact .modPower_of_same rfl rfl rfl rfl
  · exact Hub.TotalsKept.trans (.modPower_of_same rfl rfl rfl rfl) (Hub.turnOff_totalsKept _ p _ _)
  · exact h.turnOff_totalsKept p _ _

/-- A POWER_ON that is answered OK for a port that is not powered has found room for the grant (R44). -/
theorem Hub.grantFits_of_powerOnStatus (ok : h.powerOnStatus p = .ok) (off : (h.pw p).powered = false) :
    h.grantFits p = true := by
  unfold Hub.powerOnStatus at ok
  split at ok
  · cases ok
  · split at ok
    · cases ok
    · split at ok
      · cases ok
      · rw [off, if_neg Bool.false_ne_true] at ok
        split at ok
        case isTrue fits => exact fits
        case isFalse => cases ok

theorem Hub.powerOn_totalsHold (p : Port) (l : h.TotalsHold) : (h.powerOn p).1.TotalsHold := by
  unfold Hub.powerOn
  dsimp only
  split
  case isTrue ok =>
    obtain ⟨status, off⟩ := ok
    refine Hub.enterDetecting_totalsHold (fun on => off (by simp [PortPower.powered, on])) ?_ l
    exact Hub.grantFits_of_powerOnStatus status (by simpa using off)
  case isFalse => exact l

/-- The settings of a port that is not powered draw nothing (R43). -/
theorem Hub.portPowerSet_totalsKept (h : Hub) (p : Port) (grant limit priority allowance : Nat) :
    h.TotalsKept (h.portPowerSet p grant limit priority allowance).1 := by
  unfold Hub.portPowerSet
  split
  · exact .refl h
  · split
    · exact .refl h
    case isFalse off =>
      refine .modPower fun law => ⟨law.powered, law.motion, ?_⟩
      have state : (h.pw p).state ≠ .on := fun on => off (by simp [PortPower.powered, on])
      have off' : (h.pw p).powered = false := by simpa using off
      simp [PortPower.drawn, PortPower.powered, (law.of_not_on state).1] at off' ⊢
      simp [off']

/-! ### Sheds (R40, R41) -/

/-- The number of powered ports. -/
def Hub.poweredCount (h : Hub) : Nat := (allPorts.map fun p => if (h.pw p).powered then 1 else 0).sum

theorem PortPower.drawn_of_not_powered {q : PortPower} (off : q.powered = false) (released : q.allowanceHeld = false) :
    q.drawn = 0 := by simp [PortPower.drawn, off, released]

/-- Without a powered port nothing is granted (R38, R42). -/
theorem Hub.grantedTotal_of_not_powered (law : ∀ p, (h.pw p).allowanceHeld = true → (h.pw p).state = .on)
    (off : ∀ p, (h.pw p).powered = false) : h.grantedTotal = 0 := by
  refine List.sum_eq_zero fun n m => ?_
  obtain ⟨p, -, rfl⟩ := List.mem_map.mp m
  refine PortPower.drawn_of_not_powered (off p) ?_
  by_contra held
  have on := law p (by simpa using held)
  exact absurd (off p) (by simp [PortPower.powered, on])

theorem Hub.turnOff_allowance (cause : OffCause) (part : BitVec 16)
    (law : ∀ q, (h.pw q).allowanceHeld = true → (h.pw q).state = .on) (q : Port) :
    ((h.turnOff p cause part).pw q).allowanceHeld = true → ((h.turnOff p cause part).pw q).state = .on := by
  by_cases e : q = p
  · subst e
    rw [Hub.turnOff_pw]
    exact fun held => absurd held Bool.false_ne_true
  · simpa [Hub.pw, e] using law q

/-- A powered port that is turned off is one powered port fewer. -/
theorem Hub.turnOff_poweredCount (cause : OffCause) (part : BitVec 16) (on : (h.pw p).powered = true) :
    (h.turnOff p cause part).poweredCount + 1 = h.poweredCount := by
  have off : ((h.turnOff p cause part).pw p).powered = false := by rw [Hub.turnOff_pw]; rfl
  have other (q : Port) (e : q ≠ p) : ((h.turnOff p cause part).pw q).powered = (h.pw q).powered := by simp [Hub.pw, e]
  have counted := sum_ports_update (fun q => if (h.pw q).powered then 1 else 0) p 0
  have same : (fun q => if q = p then 0 else if (h.pw q).powered then 1 else 0) =
      fun q => if ((h.turnOff p cause part).pw q).powered then 1 else 0 := by
    funext q
    by_cases e : q = p
    · simp [e, off]
    · simp [e, other q e]
  simp only [same, on, if_true] at counted
  exact counted

/-- Sheds of as many ports as are powered bring the granted total within the budget (R40). -/
theorem Hub.shedToFit_fits : ∀ (n : Nat) (h : Hub), (∀ q, (h.pw q).allowanceHeld = true → (h.pw q).state = .on) →
    h.poweredCount ≤ n → (Hub.shedToFit n h).1.grantedTotal ≤ h.cell.budget
  | 0, h, law, few => by
    have off (p : Port) : (h.pw p).powered = false := by
      have none := List.sum_eq_zero_iff.mp (Nat.le_zero.mp few) _ (List.mem_map_of_mem (mem_allPorts p))
      simpa using none
    rw [Hub.shedToFit, Hub.grantedTotal_of_not_powered law off]
    exact Nat.zero_le _
  | n + 1, h, law, few => by
    unfold Hub.shedToFit
    split
    · split
      case h_1 none =>
        rw [Hub.grantedTotal_of_not_powered law (Hub.not_powered_of_shedCandidate none)]
        exact Nat.zero_le _
      case h_2 p chosen =>
        have fewer := Hub.turnOff_poweredCount .shed fShed (Hub.shedFirst_of_shedCandidate chosen).1
        have fits := Hub.shedToFit_fits n (h.turnOff p .shed fShed) (Hub.turnOff_allowance .shed fShed law) (by omega)
        simpa using fits
    case isFalse within => exact Nat.le_of_not_lt within

theorem Hub.poweredCount_le (h : Hub) : h.poweredCount ≤ 8 :=
  sum_ports_le (g := fun _ => 1) fun p => by split <;> decide

theorem Hub.shedToFit_totalsKept : ∀ (n : Nat) (h : Hub), h.TotalsKept (Hub.shedToFit n h).1
  | 0, h => .refl h
  | n + 1, h => by
    unfold Hub.shedToFit
    split
    · split
      · exact .refl h
      · exact (h.turnOff_totalsKept _ _ _).trans (Hub.shedToFit_totalsKept n _)
    · exact .refl h

theorem Hub.budgetSet_totalsHold (budget : Nat) (l : h.TotalsHold) : (h.budgetSet budget).1.TotalsHold := by
  obtain ⟨⟨powered, motion, -⟩, admission⟩ := l
  have kept := Hub.shedToFit_totalsKept 8 (h.modCell fun c => { c with budget := Nat.min budget 200000 })
  refine ⟨(Hub.budgetHolds_iff _).mpr ⟨fun p => (kept.port p ⟨powered p, motion p⟩).1, ?_⟩, ?_⟩
  · have fits := Hub.shedToFit_fits 8 (h.modCell fun c => { c with budget := Nat.min budget 200000 }) powered
      (Hub.poweredCount_le _)
    simpa [Hub.budgetSet] using fits
  · simpa only [Hub.budgetSet, Hub.AdmissionHolds, Hub.admissionTotal, kept.bindings, Hub.modCell_view] using admission

theorem Hub.modCell_totalsKept {f : CellPower → CellPower} (budget : (f h.cell).budget = h.cell.budget) :
    h.TotalsKept (h.modCell f) := .of_items (by simp [Hub.totalItems, budget])

theorem Hub.shedUndervolt_totalsKept (h : Hub) (entry : Bool) : h.TotalsKept (h.shedUndervolt entry) := by
  unfold Hub.shedUndervolt
  split
  · exact h.turnOff_totalsKept _ _ _
  · split
    · exact h.raise_totalsKept 0 0 _
    · exact .refl h

theorem Hub.supplySample_totalsKept (h : Hub) (mv : Nat) : h.TotalsKept (h.supplySample mv) := by
  have sampled : h.TotalsKept (h.modCell fun c => { c with supplySample := mv }) := Hub.modCell_totalsKept rfl
  unfold Hub.supplySample
  dsimp only
  refine sampled.trans ?_
  generalize (h.modCell fun c => { c with supplySample := mv }) = k
  split
  case h_1 =>
    split
    · exact Hub.modCell_totalsKept rfl
    · exact .refl k
  case h_2 | h_3 =>
    split
    · exact Hub.modCell_totalsKept rfl
    · split
      · exact Hub.TotalsKept.trans (Hub.modCell_totalsKept rfl) (Hub.shedUndervolt_totalsKept _ _)
      · exact .refl k

/-! ## Sweeps -/

theorem Hub.autoSweep_totalsKept (h : Hub) (p : Port) (o : SweepOrigin) : h.TotalsKept (h.autoSweep p o) := by
  unfold Hub.autoSweep
  split
  · exact .of_items rfl
  · exact (h.powerDown_totalsKept p).trans (.of_items (by simp [Hub.totalItems]))

theorem Hub.maySweep_totalsKept (h : Hub) (p : Port) (o : Option SweepOrigin) : h.TotalsKept (h.maySweep p o) := by
  unfold Hub.maySweep
  split
  · exact h.autoSweep_totalsKept p _
  · exact .refl h

theorem Hub.offerEngines_totalsKept (h : Hub) : h.TotalsKept h.offerEngines := .of_items (by simp [Hub.totalItems])

theorem Hub.setEngine_totalsKept (h : Hub) (e : EngineNo) (x : Option SweepContext) : h.TotalsKept (h.setEngine e x) :=
  .of_items rfl

theorem Hub.sweepOver_totalsHold (p : Port) (l : h.TotalsHold) : (h.sweepOver p).TotalsHold :=
  Hub.sweepReported_totalsHold p ((Hub.TotalsKept.of_items (by simp [Hub.totalItems])).holds l)

theorem Hub.stopSweep_totalsHold (e : EngineNo) (p : Port) (l : h.TotalsHold) : (h.stopSweep e p).TotalsHold :=
  (Hub.offerEngines_totalsKept _).holds (Hub.sweepOver_totalsHold p ((h.setEngine_totalsKept e none).holds l))

theorem Hub.cancelEngine_totalsHold (p : Port) (e : EngineNo) (l : h.TotalsHold) : (h.cancelEngine p e).TotalsHold := by
  unfold Hub.cancelEngine
  split
  · split
    · split
      · exact (h.setEngine_totalsKept e _).holds l
      · exact Hub.stopSweep_totalsHold e p l
    · exact l
  · exact l

theorem Hub.cancelSweep_totalsHold (p : Port) (l : h.TotalsHold) : (h.cancelSweep p).TotalsHold := by
  cases status : (h.cb p).sweepStatus with
  | idle => simpa only [Hub.cancelSweep, status] using l
  | queued =>
    simp only [Hub.cancelSweep, status]
    exact Hub.sweepOver_totalsHold p ((Hub.TotalsKept.of_items rfl).holds l)
  | running =>
    rw [Hub.cancelSweep_of_running status]
    exact Hub.cancelEngine_totalsHold p 1 (Hub.cancelEngine_totalsHold p 0 l)

theorem Hub.sweepRequest_totalsKept (h : Hub) (p : Port) (sweep : SweepParamsRaw) (first : Nat) :
    h.TotalsKept (h.sweepRequest p sweep first).1 := by
  unfold Hub.sweepRequest
  split
  · split
    · exact .refl h
    · split
      · exact .refl h
      · exact (h.powerDown_totalsKept p).trans (.of_items (by simp [Hub.totalItems]))
  · exact .refl h

theorem Hub.recordPair_totalsKept (h : Hub) (c : SweepContext) (pair : Pair) : h.TotalsKept (h.recordPair c pair) := by
  unfold Hub.recordPair
  dsimp only
  split
  · exact .refl h
  · split
    · refine Hub.TotalsKept.trans ?_ (Hub.isolationRise_totalsKept _ _)
      exact .of_items rfl
    · exact .of_items rfl

theorem Hub.completeSweep_totalsHold (e : EngineNo) (c : SweepContext) (l : h.TotalsHold) : (h.completeSweep e c).TotalsHold := by
  have recorded {h : Hub} (pair : Pair) (l : h.TotalsHold) :
      (if tests c.params.pair pair then h.recordPair c pair else h).TotalsHold := by
    split
    · exact (h.recordPair_totalsKept c pair).holds l
    · exact l
  have k := recorded .power (recorded .data l)
  unfold Hub.completeSweep
  dsimp only
  revert k
  generalize (if tests c.params.pair .power then _ else _ : Hub) = h'
  intro k
  exact (Hub.offerEngines_totalsKept _).holds (Hub.sweepReported_totalsHold _
    ((Hub.TotalsKept.of_items (by simp [Hub.totalItems])).holds k))

theorem Hub.repeatEnd_totalsHold (e : EngineNo) (c : SweepContext) (endTime : HubTime) (l : h.TotalsHold) :
    (h.repeatEnd e c endTime).TotalsHold := by
  unfold Hub.repeatEnd
  dsimp only
  split
  · exact (h.setEngine_totalsKept e _).holds l
  · split
    · exact (h.setEngine_totalsKept e _).holds l
    · exact Hub.completeSweep_totalsHold e _ l

theorem Hub.shotEnd_totalsHold (e : EngineNo) (c : SweepContext) (trace : List (Nat × Int)) (l : h.TotalsHold) :
    (h.shotEnd e c trace).TotalsHold := by
  unfold Hub.shotEnd
  dsimp only
  split
  · exact Hub.stopSweep_totalsHold e c.port l
  · split
    · exact (h.setEngine_totalsKept e _).holds l
    · exact Hub.repeatEnd_totalsHold e _ _ l

/-! ## Protection and training -/

theorem Hub.trip_totalsKept (h : Hub) (p : Port) (cause : OffCause) : h.TotalsKept (h.trip p cause) := by
  unfold Hub.trip
  dsimp only
  refine Hub.TotalsKept.trans (Hub.departs_totalsKept _ _ ?_ ?_) (Hub.maySweep_totalsKept _ p _)
  · split <;> rfl
  · split <;> rfl

/-- A powered port that becomes another powered state draws what it drew; it is or was not ON. -/
theorem Hub.modPowered_totalsKept {f : PortPower → PortPower} (powers : (h.pw p).powered = true) (off : (h.pw p).state ≠ .on)
    (power : (f (h.pw p)).powered = true) (held : (f (h.pw p)).allowanceHeld = (h.pw p).allowanceHeld)
    (grant : (f (h.pw p)).grant = (h.pw p).grant) : h.TotalsKept (h.modPower p f) := by
  refine .modPower fun law => ?_
  obtain ⟨released, still⟩ := law.of_not_on off
  refine ⟨fun on => ?_, fun m => ?_, ?_⟩
  · simp [held, released] at on
  · simp [still] at m
  · simp only [PortPower.drawn, power, powers, held, grant, released]
    exact le_rfl

theorem Hub.detected_totalsKept {load : Nat} (detecting : (h.pw p).state = .detecting) : h.TotalsKept (h.detected p load) := by
  have fails (cause : OffCause) : h.TotalsKept (if ((h.turnOff p cause 0).cb p).onDetectFail then
      (h.turnOff p cause 0).autoSweep p .autoDetect else h.turnOff p cause 0) := by
    split
    · exact (h.turnOff_totalsKept p _ _).trans (Hub.autoSweep_totalsKept _ p _)
    · exact h.turnOff_totalsKept p _ _
  unfold Hub.detected
  dsimp only
  split
  · exact fails _
  · split
    · exact fails _
    · exact (Hub.modPowered_totalsKept (by simp [PortPower.powered, detecting]) (by simp [detecting]) rfl rfl rfl).trans
        (Hub.flag_totalsKept _ p _)

theorem Hub.rampReached_totalsKept (ramping : (h.pw p).state = .ramping) : h.TotalsKept (h.rampReached p) := by
  have on : h.TotalsKept (h.modPower p fun q => { q with state := .on, overSince := none }) :=
    Hub.modPowered_totalsKept (by simp [PortPower.powered, ramping]) (by simp [ramping]) rfl rfl rfl
  exact on.trans (.of_items (by simp [Hub.rampReached, Hub.totalItems]))

theorem Hub.attemptEnd_totalsKept (h : Hub) (p : Port) : h.TotalsKept (h.attemptEnd p) := by
  have failed (f : LinkCtl → LinkCtl) : h.TotalsKept ((h.modLink p f).flag p fLink) :=
    (h.modLink_totalsKept p f).trans (Hub.flag_totalsKept _ p _)
  unfold Hub.attemptEnd
  dsimp only
  split
  · exact h.modLink_totalsKept p _
  · split
    · exact (failed _).trans (Hub.autoSweep_totalsKept _ p _)
    · exact failed _

theorem Hub.lossOfLock_totalsKept (h : Hub) (p : Port) : h.TotalsKept (h.lossOfLock p) := by
  unfold Hub.lossOfLock
  dsimp only
  split
  · exact (h.drop_totalsKept p _ _).trans (Hub.autoSweep_totalsKept _ p _)
  · exact h.drop_totalsKept p _ _

end

end Sys2Proof.Machine

/-! # Every command keeps the totals within their limits -/

namespace Sys2Proof.Machine

theorem Hub.settle_totalsKept (h : Hub) (m : Memory) : h.TotalsKept (h.settle m) := .of_items (by simp [Hub.totalItems])

theorem Hub.coldReset_totalsHold (h : Hub) : h.coldReset.TotalsHold := by
  refine ⟨(Hub.budgetHolds_iff _).mpr ⟨fun p => .of_released ?_ ?_, ?_⟩, ?_⟩
  · simp
  · simp [PortLens.anyMotion, Axis.moving]
  · simp
  · simp [Hub.AdmissionHolds]

theorem Hub.totalsHold_ends : Hub.EndsKeep Hub.TotalsHold where
  settle m l := (Hub.settle_totalsKept _ m).holds l
  reset := Hub.coldReset_totalsHold
  pop l := l
  due l := l
  trunk _ l := l

/-! ## Requests that change nothing the totals read, or less of it -/

section
variable {h : Hub}

theorem Hub.linkSet_totalsKept (p : Port) (degrade drop : Nat) : h.TotalsKept (h.linkSet p degrade drop).1 := by
  unfold Hub.linkSet
  split <;> exact .of_items rfl

theorem Hub.linkTest_totalsKept (p : Port) (count : Nat) : h.TotalsKept (h.linkTest p count).1 := by
  unfold Hub.linkTest
  (repeat' split) <;> exact .of_items rfl

theorem Hub.passThrough_totalsKept (p : Port) (tag : BitVec 16) (kind : PassKind) (count : Nat)
    (mk : SlotNo → BitVec 8 → Command) : h.TotalsKept (h.passThrough p tag kind count mk).1 := by
  unfold Hub.passThrough
  (repeat' split) <;> exact .of_items (by simp [Hub.totalItems])

theorem Hub.readEvents_totalsKept (p : Option Port) : h.TotalsKept (h.readEvents p).1 := by
  cases p <;> exact .of_items rfl

theorem Hub.noticeSet_totalsKept (kinds : Nat) : h.TotalsKept (h.noticeSet kinds).1 := by
  unfold Hub.noticeSet
  split <;> exact .of_items rfl

/-- A profile that is loaded leaves the motions of the axes (R85). -/
theorem Hub.lensProfileLoad_totalsKept (p : Port) (focus zoom iris : ProfileParams) :
    h.TotalsKept (h.lensProfileLoad p focus zoom iris).1 := by
  unfold Hub.lensProfileLoad
  split
  · exact .refl h
  · split
    · exact .refl h
    · exact .modLens id

theorem Hub.focusTableLoad_totalsKept (p : Port) (stop zoom : Nat) (points : List (Nat × Nat)) :
    h.TotalsKept (h.focusTableLoad p stop zoom points).1 := by
  unfold Hub.focusTableLoad
  split
  · exact .refl h
  · split
    · exact .refl h
    · split
      · exact .refl h
      · split
        · exact .refl h
        · exact .modLens id

theorem Hub.triggerLineSet_totalsKept (line filter : Nat) : h.TotalsKept (h.triggerLineSet line filter).1 := by
  unfold Hub.triggerLineSet
  (repeat' split) <;> exact .of_items rfl

theorem Hub.triggerSet_totalsKept (p : Port) (source pitch phase direction policy timeout : Nat) :
    h.TotalsKept (h.triggerSet p source pitch phase direction policy timeout).1 := by
  unfold Hub.triggerSet
  (repeat' split) <;> exact .of_items rfl

theorem Hub.cableTypeSet_totalsKept (type speed polarity threshold : Nat) :
    h.TotalsKept (h.cableTypeSet type speed polarity threshold).1 := by
  unfold Hub.cableTypeSet
  (repeat' split) <;> exact .of_items rfl

theorem Hub.portCableSet_totalsKept (p : Port) (type length tolerance offset : Nat) :
    h.TotalsKept (h.portCableSet p type length tolerance offset).1 := by
  unfold Hub.portCableSet
  (repeat' split) <;> exact .of_items rfl

theorem Hub.autoSweepSet_totalsKept (p : Port) (flags : Nat) (sweep : SweepParamsRaw) :
    h.TotalsKept (h.autoSweepSet p flags sweep).1 := by
  unfold Hub.autoSweepSet
  (repeat' split) <;> exact .of_items rfl

theorem Hub.faultClear_totalsKept (p : Port) : h.TotalsKept (h.faultClear p).1 := by
  unfold Hub.faultClear
  split <;> exact .of_items rfl

theorem Hub.ringSet_totalsKept (p : Port) (start length timeout : Nat) : h.TotalsKept (h.ringSet p start length timeout).1 := by
  unfold Hub.ringSet
  (repeat' split) <;> exact .of_items rfl

theorem Hub.frameHold_totalsKept (p : Port) (number : Nat) : h.TotalsKept (h.frameHold p number).1 := by
  unfold Hub.frameHold
  (repeat' split) <;> exact .of_items rfl

theorem Hub.frameRelease_totalsKept (p : Port) (number : Nat) : h.TotalsKept (h.frameRelease p number).1 := by
  unfold Hub.frameRelease
  (repeat' split) <;> exact .of_items rfl

theorem Hub.viewLoad_totalsKept (view : Nat) (q : ViewParams) : h.TotalsKept (h.viewLoad view q).1 := by
  unfold Hub.viewLoad
  (repeat' split) <;> exact .of_items rfl

theorem Hub.coefSelect_totalsKept (table : Nat) : h.TotalsKept (h.coefSelect table).1 := by
  unfold Hub.coefSelect
  (repeat' split) <;> exact .of_items rfl

theorem Hub.coefWrite_totalsKept (values : List Nat) : h.TotalsKept (h.coefWrite values).1 := by
  unfold Hub.coefWrite
  (repeat' split) <;> exact .of_items rfl

theorem Hub.egressSet_totalsKept (settings : EgressParams) (p : Option Port) : h.TotalsKept (h.egressSet settings p).1 := by
  cases p <;> unfold Hub.egressSet <;> dsimp only <;> (repeat' split) <;> exact .of_items rfl

theorem Hub.pipeWake_totalsKept (m : Memory) (p : Port) : h.TotalsKept (h.pipeWake m p) := .of_items (by simp [Hub.totalItems])

theorem Hub.frameResend_totalsKept (m : Memory) (p : Port) (number view : Nat) :
    h.TotalsKept (h.frameResend m p number view).1 := by
  unfold Hub.frameResend
  split
  · exact .refl h
  · split
    · exact .refl h
    · split
      · exact .refl h
      · split
        · exact .refl h
        · split
          · exact .refl h
          · refine Hub.TotalsKept.trans ?_ (Hub.pipeWake_totalsKept m p)
            exact .of_items rfl

theorem Hub.setRequestedIso_totalsKept (p : Port) (on : Bool) : h.TotalsKept (h.setRequestedIso p on) := by
  have set : h.TotalsKept { h with requestedIso := vset h.requestedIso p on } := .of_items rfl
  unfold Hub.setRequestedIso
  dsimp only
  split
  · exact set.trans (Hub.isolationRise_totalsKept _ p)
  · exact set

theorem Hub.isolate_totalsKept (p : Port) (action : Nat) : h.TotalsKept (h.isolate p action).1 := by
  unfold Hub.isolate
  split
  · exact Hub.setRequestedIso_totalsKept p true
  · exact Hub.setRequestedIso_totalsKept p false
  · exact .refl h

theorem Hub.fire_totalsKept (h : Hub) (p : Port) : h.TotalsKept (h.fire p).1 := .of_items (by simp [Hub.totalItems])

theorem Hub.fireAll_totalsKept : ∀ (ps : List Port) (h : Hub), h.TotalsKept (h.fireAll ps).1
  | [], h => .refl h
  | p :: ps, h => (h.fire_totalsKept p).trans (Hub.fireAll_totalsKept ps _)

theorem Hub.triggerSoft_totalsKept (mask : Nat) : h.TotalsKept (h.triggerSoft mask).1 := by
  unfold Hub.triggerSoft
  dsimp only
  split
  · exact .refl h
  · exact Hub.fireAll_totalsKept _ h

/-! ### Bindings (R139, R141) -/

/-- The admission total after one port's binding changed. -/
theorem Hub.setBinding_admissionTotal (h : Hub) (p : Port) (b : Binding) :
    (h.setBinding p b).admissionTotal + (vget h.view.bindings p).load = h.admissionTotal + b.load := by
  have load (q : Port) : (vget (vset h.view.bindings p b) q).load = if q = p then b.load else (vget h.view.bindings q).load := by
    by_cases e : q = p
    · simp [e]
    · simp [e, vget_vset_ne]
  simp only [Hub.setBinding, Hub.modView, Hub.admissionTotal, load]
  exact sum_ports_update (fun q => (vget h.view.bindings q).load) p _

/-- A view is bound where the total with its load, without the load of the binding replaced, fits (R141). -/
theorem Hub.viewBind_totalsHold (p : Port) (view : Nat) (l : h.TotalsHold) : (h.viewBind p view).1.TotalsHold := by
  unfold Hub.viewBind
  split
  · exact l
  case h_2 n _ =>
    dsimp only
    split
    · exact l
    · split
      · exact l
      case isFalse fits =>
        refine l.modView ?_
        have total := h.setBinding_admissionTotal p ⟨some n, (vget h.view.views n).load⟩
        have held := l.2
        simp only [Hub.AdmissionHolds, Hub.setBinding] at total held ⊢
        omega

theorem Hub.viewUnbind_totalsHold (p : Port) (l : h.TotalsHold) : (h.viewUnbind p).1.TotalsHold := by
  refine l.modView ?_
  have total := h.setBinding_admissionTotal p ⟨none, 0⟩
  have held := l.2
  simp only [Hub.AdmissionHolds, Hub.setBinding] at total held ⊢
  omega

/-! ## Events of the trunk, the encoder, the lines and the slots -/

theorem foldl_totalsKept {α : Type} {f : Hub → α → Hub} (one : ∀ (x : α) (h : Hub), h.TotalsKept (f h x)) :
    ∀ (xs : List α) (h : Hub), h.TotalsKept (xs.foldl f h)
  | [], h => .refl h
  | x :: xs, h => (one x h).trans (foldl_totalsKept one xs _)

theorem Hub.fireLine_totalsKept (n : LineNo) : h.TotalsKept (h.fireLine n) := by
  refine foldl_totalsKept (fun p h => ?_) allPorts h
  split
  · exact h.fire_totalsKept p
  · exact .refl h

theorem Hub.triggerTimeout_totalsKept (p : Port) : h.TotalsKept (h.triggerTimeout p) :=
  .of_items (by simp [Hub.triggerTimeout, Hub.totalItems])

theorem Hub.arrive_totalsKept (pkt : Packet) : h.TotalsKept (h.arrive pkt) := by
  unfold Hub.arrive
  split <;> exact .of_items (by simp [Hub.totalItems])

theorem Hub.trunkReturns_totalsKept (m : Memory) : h.TotalsKept (h.trunkReturns m) := by
  unfold Hub.trunkReturns
  refine Hub.TotalsKept.trans ?_ (foldl_totalsKept (fun p _ => Hub.pipeWake_totalsKept m p) allPorts _)
  exact .of_items (by simp [Hub.totalItems])

theorem Hub.pipeTrunkLost_totalsKept (m : Memory) (p : Port) : h.TotalsKept (h.pipeTrunkLost m p) := by
  unfold Hub.pipeTrunkLost
  refine Hub.TotalsKept.trans ?_ (Hub.pipeWake_totalsKept m p)
  split
  · exact .refl h
  · exact .of_items (by simp [Hub.totalItems])

theorem Hub.trunkLost_totalsHold (m : Memory) (l : h.TotalsHold) : (h.trunkLost m).TotalsHold := by
  have closed : h.TotalsKept (allPorts.foldl Hub.closesLost h) :=
    foldl_totalsKept (fun _ _ => .of_items (by simp [Hub.totalItems])) allPorts h
  have offered : h.TotalsKept ((allPorts.foldl Hub.closesLost h).modTrunk Trunk.lose).offerDue :=
    closed.trans (.of_items (by simp [Hub.totalItems]))
  unfold Hub.trunkLost
  dsimp only
  split
  · exact Hub.coldReset_totalsHold _
  · exact (offered.trans (foldl_totalsKept (fun p _ => Hub.pipeTrunkLost_totalsKept m p) allPorts _)).holds l

theorem Hub.sendEnd_totalsHold (m : Memory) (l : h.TotalsHold) : (h.sendEnd m).TotalsHold := by
  unfold Hub.sendEnd
  split
  · exact l
  · dsimp only
    split
    · exact Hub.coldReset_totalsHold _
    · split
      · exact l
      · split
        · exact l
        · refine Hub.TotalsKept.holds ?_ l
          exact .of_items (by simp [Hub.totalItems])

/-! ## Frame packets -/

theorem State.completeFrame_totalsKept (s : State) (p : Port) (r : FrameRecord) (e : Option (Nat × Nat)) (truncated : Bool)
    (intake : Intake) : s.hub.TotalsKept (s.completeFrame p r e truncated intake).hub := by
  unfold State.completeFrame
  dsimp only
  split
  · refine Hub.TotalsKept.trans ?_ (Hub.pipeWake_totalsKept _ p)
    exact .of_items rfl
  · exact .of_items rfl

theorem State.frameCutOff_totalsKept (s : State) (p : Port) : s.hub.TotalsKept (s.frameCutOff p).hub := by
  unfold State.frameCutOff
  split
  · exact s.completeFrame_totalsKept p _ _ _ _
  · exact .of_items rfl

theorem State.frameEnded_totalsKept (s : State) (p : Port) (linesSent status : Nat) :
    s.hub.TotalsKept (s.frameEnded p linesSent status).hub := by
  unfold State.frameEnded
  split
  · exact s.completeFrame_totalsKept p _ _ _ _
  · dsimp only
    split <;> exact .of_items rfl

theorem Hub.admitFrame_totalsKept (p : Port) (number w ht id : Nat) (res : Resolution) :
    h.TotalsKept (h.admitFrame p number w ht id res) := by
  unfold Hub.admitFrame
  dsimp only
  split <;> exact .of_items (by simp [Hub.totalItems])

theorem Hub.openFrame_totalsKept (p : Port) (number width height id : Nat) :
    h.TotalsKept (h.openFrame p number width height id) := by
  have resolved {k : Hub} : k.TotalsKept (k.resolveId p id).1 := .of_items (by simp [Hub.totalItems])
  exact ((h.modLink_totalsKept p _).trans resolved).trans (Hub.admitFrame_totalsKept p _ _ _ _ _)

theorem State.frameStart_totalsKept (s : State) (p : Port) (number width height id : Nat) :
    s.hub.TotalsKept (s.frameStart p number width height id).hub := by
  unfold State.frameStart
  split
  · exact (Hub.modLink_totalsKept _ p _).trans (Hub.linkError_totalsKept _ p)
  · refine Hub.TotalsKept.trans ?_ (Hub.openFrame_totalsKept p _ _ _ _)
    split
    · exact s.frameCutOff_totalsKept p
    · exact .refl _

theorem State.line_totalsKept (s : State) (p : Port) (number : Nat) (pixels : List Nat) :
    s.hub.TotalsKept (s.line p number pixels).hub := by
  unfold State.line
  split
  · exact .of_items rfl
  · split
    · exact .of_items rfl
    · unfold State.storeLine
      dsimp only
      split <;> exact .of_items rfl

theorem State.frameEnd_totalsKept (s : State) (p : Port) (linesSent status : Nat) :
    s.hub.TotalsKept (s.frameEnd p linesSent status).hub := by
  unfold State.frameEnd
  split
  · exact .of_items rfl
  · refine Hub.TotalsKept.trans ?_ (State.frameEnded_totalsKept _ p _ _)
    exact .of_items rfl

end

section
variable {s t : State}

theorem execFrameStart_totalsHold {p : Port} {number width height id : Nat} (e : execFrameStart p number width height id s = .next t)
    (l : s.hub.TotalsHold) : t.hub.TotalsHold := by
  unfold execFrameStart at e
  split at e
  · exact Hub.totalsHold_ends.settled e ((s.frameStart_totalsKept p _ _ _ _).holds l)
  · cases e; exact l

theorem execLine_totalsHold {p : Port} {number : Nat} {pixels : List Nat} (e : execLine p number pixels s = .next t)
    (l : s.hub.TotalsHold) : t.hub.TotalsHold := by
  unfold execLine at e
  split at e
  · exact Hub.totalsHold_ends.settled e ((s.line_totalsKept p _ _).holds l)
  · cases e; exact l

theorem execFrameEnd_totalsHold {p : Port} {linesSent status : Nat} (e : execFrameEnd p linesSent status s = .next t)
    (l : s.hub.TotalsHold) : t.hub.TotalsHold := by
  unfold execFrameEnd at e
  split at e
  · exact Hub.totalsHold_ends.settled e ((s.frameEnd_totalsKept p _ _).holds l)
  · cases e; exact l

theorem execFillDeadline_totalsHold {p : Port} (e : execFillDeadline p s = .next t) (l : s.hub.TotalsHold) : t.hub.TotalsHold := by
  unfold execFillDeadline at e
  split at e
  · exact Hub.totalsHold_ends.settled e ((s.completeFrame_totalsKept p _ _ _ _).holds l)
  · cases e; exact l

theorem execSettlingEnd_totalsHold {n : EngineNo} (e : execSettlingEnd n s = .next t) (l : s.hub.TotalsHold) : t.hub.TotalsHold := by
  unfold execSettlingEnd at e
  split at e
  · exact Hub.totalsHold_ends.event e ((s.hub.setEngine_totalsKept n _).holds l)
  · cases e; exact l

theorem execShot_totalsHold {n : EngineNo} {trace : List (Nat × Int)} (e : execShot n trace s = .next t) (l : s.hub.TotalsHold) :
    t.hub.TotalsHold := by
  unfold execShot at e
  split at e
  · exact Hub.totalsHold_ends.event e (Hub.shotEnd_totalsHold n _ trace l)
  · cases e; exact l

theorem execRepeatIntervalEnd_totalsHold {n : EngineNo} (e : execRepeatIntervalEnd n s = .next t) (l : s.hub.TotalsHold) :
    t.hub.TotalsHold := by
  unfold execRepeatIntervalEnd at e
  split at e
  · exact Hub.totalsHold_ends.event e ((s.hub.setEngine_totalsKept n _).holds l)
  · cases e; exact l

/-- A current that a row reports trips its port or has that row's own effect (R47). -/
theorem State.senseCurrent_totalsHold {p : Port} {current : Nat} {own : Hub → Bool} {act : Hub → Hub}
    (e : s.senseCurrent p current own act = .next t) (l : s.hub.TotalsHold) (acts : s.hub.TotalsKept (act s.hub)) :
    t.hub.TotalsHold := by
  refine Hub.totalsHold_ends.when e l fun _ => ?_
  split
  · exact (Hub.trip_totalsKept _ p _).holds l
  · exact acts.holds l

/-- The start and the end of an excursion above the limit (R47). -/
theorem Hub.overSince_totalsKept (h : Hub) (p : Port) (since : Option HubTime) :
    h.TotalsKept (h.modPower p fun q => { q with overSince := since }) := .modPower_of_same rfl rfl rfl rfl

section
variable {p : Port} {current : Nat}

theorem execOvercurrentRise_totalsHold (e : execOvercurrentRise p current s = .next t) (l : s.hub.TotalsHold) : t.hub.TotalsHold :=
  State.senseCurrent_totalsHold e l (s.hub.overSince_totalsKept p _)

theorem execOvercurrentFall_totalsHold (e : execOvercurrentFall p current s = .next t) (l : s.hub.TotalsHold) : t.hub.TotalsHold :=
  State.senseCurrent_totalsHold e l (s.hub.overSince_totalsKept p _)

theorem execTrip_totalsHold (e : execTrip p current s = .next t) (l : s.hub.TotalsHold) : t.hub.TotalsHold :=
  State.senseCurrent_totalsHold e l (s.hub.trip_totalsKept p .trip)

theorem execHardShort_totalsHold (e : execHardShort p current s = .next t) (l : s.hub.TotalsHold) : t.hub.TotalsHold :=
  State.senseCurrent_totalsHold e l (.refl _)

end

end

theorem Hub.phaseOver_state {h : Hub} {p : Port} {x : PowerState} {duration : Nat} (due : h.phaseOver p x duration = true) :
    (h.pw p).state = x := by
  simp only [Hub.phaseOver, Bool.and_eq_true, decide_eq_true_eq] at due
  exact due.1

/-- Every command keeps the totals' laws: a port takes its grant or its allowance within the budget alone, and releases both as
it leaves its power state; an axis is in motion under an allowance alone; a view is bound within the bandwidth alone. -/
theorem exec_totalsHold (i : Instr) (s t : State) (e : exec i s = .next t) (l : s.hub.TotalsHold) : t.hub.TotalsHold := by
  have ends := Hub.totalsHold_ends
  cases i with
  | coldReset => exact ends.event e (Hub.coldReset_totalsHold _)
  | trunkUp => exact ends.when e l fun _ => (Hub.trunkReturns_totalsKept _).holds l
  | trunkLoss => exact ends.when e l fun _ => Hub.trunkLost_totalsHold _ l
  | requestPacketReceived pkt => exact ends.when e l fun _ => (Hub.arrive_totalsKept pkt).holds l
  | badRequest => exact ends.badRequest (fun l => l) e l
  | packetSendEnd => exact ends.when e l fun _ => Hub.sendEnd_totalsHold _ l
  | imageQueueTakesPacket p | answeredSlotReplyOffer =>
    exact ends.when e l fun _ => Hub.TotalsKept.holds (.of_items (by simp [Hub.totalItems])) l
  | identify r | timeRead r => exact ends.take (forHub_keeps fun _ l => l) e l
  | partReset r => exact ends.take (forHub_keeps fun _ l => l) e l
  | readEvents r => exact ends.take (forEither_keeps fun p h => (h.readEvents_totalsKept p).holds) e l
  | noticeSet r kinds => exact ends.take (forHub_keeps fun h => (h.noticeSet_totalsKept kinds).holds) e l
  | isolate r action => exact ends.take (forPort_keeps fun p _ => (Hub.isolate_totalsKept p action).holds) e l
  | portRead r | dropHistoryRead r | lensRead r | frameList r => exact ends.take (forPort_keeps fun _ _ l => l) e l
  | linkSet r degrade drop => exact ends.take (forPort_keeps fun p _ => (Hub.linkSet_totalsKept p _ _).holds) e l
  | linkTest r count => exact ends.take (forPort_keeps fun p _ => (Hub.linkTest_totalsKept p _).holds) e l
  | attrRead r address count | attrWrite r address words =>
    exact ends.takeLater (passFor_keeps fun p _ => (Hub.passThrough_totalsKept p _ _ _ _).holds) e l
  | passThroughTimeout slot => exact ends.when e l fun _ => Hub.TotalsKept.holds (.of_items (by simp [Hub.totalItems])) l
  | budgetSet r budget => exact ends.take (forHub_keeps fun _ => Hub.budgetSet_totalsHold budget) e l
  | portPowerSet r grant limit priority allowance =>
    exact ends.take (forPort_keeps fun p h => (h.portPowerSet_totalsKept p _ _ _ _).holds) e l
  | powerOn r => exact ends.take (forPort_keeps fun p _ => Hub.powerOn_totalsHold p) e l
  | powerOff r => exact ends.take (forPort_keeps fun p h => (h.powerOff_totalsKept p).holds) e l
  | detectionEnd p load => exact ends.when e l fun due => (Hub.detected_totalsKept (Hub.phaseOver_state due)).holds l
  | rampOutputReached p output =>
    refine ends.when e l fun due => (Hub.rampReached_totalsKept ?_).holds l
    simp only [Bool.and_eq_true, decide_eq_true_eq] at due
    exact due.1
  | rampFail p output => exact ends.when e l fun _ => (Hub.trip_totalsKept _ p _).holds l
  | overcurrentRise p current => exact execOvercurrentRise_totalsHold e l
  | overcurrentFall p current => exact execOvercurrentFall_totalsHold e l
  | trip p current => exact execTrip_totalsHold e l
  | hardShort p current => exact execHardShort_totalsHold e l
  | cooldownEnd p =>
    refine ends.when e l fun due => Hub.cooldownOver_totalsHold ?_ l
    simp only [Hub.cooldownDue, Bool.and_eq_true, decide_eq_true_eq] at due
    simp [due.1.1]
  | supplySample mv => exact ends.event e ((s.hub.supplySample_totalsKept mv).holds l)
  | trainingAttemptEnd p => exact ends.when e l fun _ => (Hub.attemptEnd_totalsKept _ p).holds l
  | lockReply p | errorWindowEnd p => exact ends.when e l fun _ => Hub.TotalsKept.holds (.of_items (by simp [Hub.totalItems])) l
  | lossOfLock p => exact ends.when e l fun _ => (Hub.lossOfLock_totalsKept _ p).holds l
  | badUpstreamPacket p bytes =>
    exact ends.when e l fun _ => ((Hub.modLink_totalsKept _ p _).trans (Hub.linkError_totalsKept _ p)).holds l
  | frameStart p number width height id => exact execFrameStart_totalsHold e l
  | line p number pixels => exact execLine_totalsHold e l
  | frameEnd p linesSent status => exact execFrameEnd_totalsHold e l
  | fillDeadline p => exact execFillDeadline_totalsHold e l
  | ack p sequence => exact ends.when e l fun _ => (s.hub.ackTaken_totalsKept p _).holds l
  | ackWaitEnd p => exact ends.when e l fun _ => (s.hub.waitEnds_totalsKept p).holds l
  | downstreamMessageSent p => exact ends.when e l fun _ => (s.hub.messageSent_totalsKept p).holds l
  | attrReply p attr status words => exact ends.when e l fun _ => Hub.TotalsKept.holds (.of_items (by simp [Hub.totalItems])) l
  | lensReport p axis position kind => exact ends.when e l fun _ => (s.hub.lensReport_totalsKept p _ _ _).holds l
  | lensDeadline p axis => exact ends.when e l fun _ => (s.hub.axisTimeout_totalsKept p axis).holds l
  | lensProfileLoad r focus zoom iris =>
    exact ends.take (forPort_keeps fun p _ => (Hub.lensProfileLoad_totalsKept p _ _ _).holds) e l
  | lensHome r axis => exact ends.take (forPort_keeps fun p _ => Hub.lensHome_totalsHold p axis) e l
  | lensMove r axis target => exact ends.take (forPort_keeps fun p _ => Hub.lensMove_totalsHold p axis target) e l
  | lensStop r axis => exact ends.take (forPort_keeps fun p _ => Hub.lensStop_totalsHold p axis) e l
  | focusTableLoad r stop zoom points =>
    exact ends.take (forPort_keeps fun p _ => (Hub.focusTableLoad_totalsKept p _ _ _).holds) e l
  | lensFocusDistance r d => exact ends.take (forPort_keeps fun p _ => Hub.lensFocusDistance_totalsHold p d) e l
  | encoderStep a b => exact ends.event e (Hub.TotalsKept.holds (.of_items (by simp [Hub.totalItems])) l)
  | triggerTimeout p => exact ends.when e l fun _ => (Hub.triggerTimeout_totalsKept p).holds l
  | triggerLineRise n | triggerLineFall n => exact ends.when e l fun _ => l
  | filterTimeEnd n => exact ends.when e l fun _ => (Hub.fireLine_totalsKept n).holds l
  | encoderSet r value => exact ends.take (forHub_keeps fun _ l => l) e l
  | triggerLineSet r line filter => exact ends.take (forHub_keeps fun _ => (Hub.triggerLineSet_totalsKept _ _).holds) e l
  | triggerSet r source pitch phase direction policy timeout =>
    exact ends.take (forPort_keeps fun p _ => (Hub.triggerSet_totalsKept p _ _ _ _ _ _).holds) e l
  | triggerSoft r mask => exact ends.take (forHub_keeps fun _ => (Hub.triggerSoft_totalsKept mask).holds) e l
  | triggerRead r | faultRead r => exact ends.take (forEither_keeps fun _ _ l => l) e l
  | cableTypeSet r type speed polarity threshold =>
    exact ends.take (forHub_keeps fun _ => (Hub.cableTypeSet_totalsKept _ _ _ _).holds) e l
  | portCableSet r type length tolerance offset =>
    exact ends.take (forPort_keeps fun p _ => (Hub.portCableSet_totalsKept p _ _ _ _).holds) e l
  | autoSweepSet r flags sweep => exact ends.take (forPort_keeps fun p _ => (Hub.autoSweepSet_totalsKept p _ _).holds) e l
  | sweepRequest r sweep first => exact ends.take (forPort_keeps fun p h => (h.sweepRequest_totalsKept p _ _).holds) e l
  | settlingEnd n => exact execSettlingEnd_totalsHold e l
  | shot n trace => exact execShot_totalsHold e l
  | repeatIntervalEnd n => exact execRepeatIntervalEnd_totalsHold e l
  | sweepCancel r => exact ends.take (forPort_keeps fun p _ => Hub.cancelSweep_totalsHold p) e l
  | faultClear r => exact ends.take (forPort_keeps fun p _ => (Hub.faultClear_totalsKept p).holds) e l
  | ringSet r start length timeout => exact ends.take (forPort_keeps fun p _ => (Hub.ringSet_totalsKept p _ _ _).holds) e l
  | frameHold r number => exact ends.take (forPort_keeps fun p _ => (Hub.frameHold_totalsKept p _).holds) e l
  | frameRelease r number => exact ends.take (forPort_keeps fun p _ => (Hub.frameRelease_totalsKept p _).holds) e l
  | viewLoad r view params => exact ends.take (forHub_keeps fun _ => (Hub.viewLoad_totalsKept _ _).holds) e l
  | viewBind r view => exact ends.take (forPort_keeps fun p _ => Hub.viewBind_totalsHold p _) e l
  | viewUnbind r => exact ends.take (forPort_keeps fun p _ => Hub.viewUnbind_totalsHold p) e l
  | pipeReset r => exact ends.take (forPort_keeps fun _ _ l => l) e l
  | coefSelect r table => exact ends.take (forHub_keeps fun _ => (Hub.coefSelect_totalsKept _).holds) e l
  | coefWrite r values => exact ends.take (forHub_keeps fun _ => (Hub.coefWrite_totalsKept _).holds) e l
  | frameResend r number view => exact ends.take (forPort_keeps fun p _ => (Hub.frameResend_totalsKept s.dram p _ _).holds) e l
  | egressSet r settings => exact ends.take (forEither_keeps fun p _ => (Hub.egressSet_totalsKept settings p).holds) e l

/-- Settles O8: every command keeps the laws, and a microsecond of hub time changes nothing that they read. -/
theorem totalsFitTheirLimits : Obligations.TotalsFitTheirLimits := by
  intro s t budget admission e
  have l : s.hub.TotalsHold := ⟨budget, admission⟩
  unfold step at e
  split at e
  case h_1 => cases e; exact l
  case h_2 i rest _ => exact exec_totalsHold i { s with pending := rest } t e l

end Sys2Proof.Machine

/-! # A departure from ON among others of one event (R20, R50) -/

namespace Sys2Proof.Machine

/-! ## What an event that concerns other ports leaves of a port -/

/-- What a slot may have become between two hubs of an event in which the port p does not drop. -/
inductive Hub.SlotAside (h h' : Hub) (p : Port) (i : SlotNo) : Prop where
  | same (e : vget h'.mgmt.slots i = vget h.mgmt.slots i)
  | freed (reply : Packet) (was : vget h.mgmt.slots i = .answered reply) (now : vget h'.mgmt.slots i = .free)
      (sent : h.trunk.up = true → reply ∈ h'.trunk.replies.drop h.trunk.replies.length)
  | other (q : Port) (tag : BitVec 16) (kind : PassKind) (attr : BitVec 8) (deadline : HubTime) (e : q ≠ p)
      (was : vget h.mgmt.slots i = .waiting tag q kind attr deadline) (now : (vget h'.mgmt.slots i).waitsOn p = false)

/-- From h to h', an event has left the port p aside: its items stay, and so do the replies that its slots wait for. -/
structure Hub.Aside (h h' : Hub) (p : Port) : Prop where
  units : h'.time = h.time ∧ h'.encoder = h.encoder
  pw : h'.pw p = h.pw p
  lk : h'.lk p = h.lk p
  ln : h'.ln p = h.ln p
  tg : h'.tg p = h.tg p
  fr : h'.fr p = h.fr p
  flags : h.FlagsGrow h'
  up : h'.trunk.up = h.trunk.up
  grows : h.trunk.replies <+: h'.trunk.replies
  slot : ∀ i, h.SlotAside h' p i

section
variable {h h' k : Hub} {p q : Port} {d : Option Port}

/-- A slot that does not wait on the port does not come to wait on it. -/
theorem Hub.SlotAside.waitsOn {i : SlotNo} (s : h.SlotAside h' p i) (w : (vget h.mgmt.slots i).waitsOn p = false) :
    (vget h'.mgmt.slots i).waitsOn p = false := by
  cases s with
  | same e => rw [e]; exact w
  | freed reply was now => rw [now]; rfl
  | other q tag kind attr deadline e was now => exact now

theorem Hub.SlotsPass.aside (pass : h.SlotsPass h' d) (other : d ≠ some p) (i : SlotNo) : h.SlotAside h' p i := by
  cases pass.slot i with
  | same e => exact .same e
  | freed reply was now sent => exact .freed reply was now sent
  | answered q tag kind attr deadline drop was =>
    have e : q ≠ p := fun e => other (e ▸ drop)
    exact .other q tag kind attr deadline e was (pass.waitsOn (by simpa [was, Slot.waitsOn] using e))

theorem Hub.Aside.refl (h : Hub) (p : Port) : h.Aside h p :=
  ⟨⟨rfl, rfl⟩, rfl, rfl, rfl, rfl, rfl, .refl h, rfl, List.prefix_refl _, fun _ => .same rfl⟩

theorem Hub.Aside.trans (a : h.Aside k p) (b : k.Aside h' p) : h.Aside h' p where
  units := ⟨b.units.1.trans a.units.1, b.units.2.trans a.units.2⟩
  pw := b.pw.trans a.pw
  lk := b.lk.trans a.lk
  ln := b.ln.trans a.ln
  tg := b.tg.trans a.tg
  fr := b.fr.trans a.fr
  flags := a.flags.trans b.flags
  up := b.up.trans a.up
  grows := a.grows.trans b.grows
  slot i := by
    cases a.slot i with
    | same e =>
      cases b.slot i with
      | same e' => exact .same (e'.trans e)
      | freed reply was now sent =>
        exact .freed reply (e.symm.trans was) now fun up => mem_drop_of_mem_drop_later a.grows (sent (a.up.trans up))
      | other q tag kind attr deadline ne was now => exact .other q tag kind attr deadline ne (e.symm.trans was) now
    | freed reply was now sent =>
      cases b.slot i with
      | same e => exact .freed reply was (e.trans now) fun up => mem_drop_of_mem_drop b.grows (sent up)
      | freed reply' was' => rw [now] at was'; cases was'
      | other q tag kind attr deadline ne was' => rw [now] at was'; cases was'
    | other q tag kind attr deadline ne was now =>
      exact .other q tag kind attr deadline ne was ((b.slot i).waitsOn now)

/-! ## A departure before and after such an event -/

/-- Slots that a drop ends after the event have waited unchanged through it. -/
theorem Hub.SlotsDropped.after_aside (dropped : k.SlotsDropped h' p) (aside : h.Aside k p) : h.SlotsDropped h' p := by
  obtain ⟨ended, answered⟩ := dropped
  refine ⟨ended, fun i tag kind attr deadline was => ?_⟩
  cases aside.slot i with
  | same e => exact (answered i tag kind attr deadline (e.trans was)).earlier aside.up aside.grows
  | freed reply was' => rw [was] at was'; cases was'
  | other q tag' kind' attr' deadline' ne was' =>
    rw [was] at was'
    cases was'
    exact absurd rfl ne

/-- A reply that a drop has given a slot stays given through the event. -/
theorem Hub.SlotAnswered.before_aside {i : SlotNo} {reply : Packet} (answered : h.SlotAnswered k i reply)
    (up : k.trunk.up = h.trunk.up) (grows : h.trunk.replies <+: k.trunk.replies) (aside : k.Aside h' p) :
    h.SlotAnswered h' i reply := by
  obtain ⟨whenUp, whenDown⟩ := answered
  have freeStays (free : vget k.mgmt.slots i = .free) : vget h'.mgmt.slots i = .free := by
    cases aside.slot i with
    | same e => exact e.trans free
    | freed r was => rw [free] at was; cases was
    | other q tag kind attr deadline ne was => rw [free] at was; cases was
  refine ⟨fun hu => ?_, fun hd => freeStays (whenDown hd)⟩
  rcases whenUp hu with ⟨free, sent⟩ | kept
  · exact .inl ⟨freeStays free, mem_drop_of_mem_drop aside.grows sent⟩
  · cases aside.slot i with
    | same e => exact .inr (e.trans kept)
    | freed r was now sent =>
      rw [kept] at was
      cases was
      exact .inl ⟨now, mem_drop_of_mem_drop_later grows (sent (up.trans hu))⟩
    | other q tag kind attr deadline ne was => rw [kept] at was; cases was

theorem Hub.SlotsDropped.before_aside (dropped : h.SlotsDropped k p) (up : k.trunk.up = h.trunk.up)
    (grows : h.trunk.replies <+: k.trunk.replies) (aside : k.Aside h' p) : h.SlotsDropped h' p := by
  obtain ⟨ended, answered⟩ := dropped
  exact ⟨fun i => (aside.slot i).waitsOn (ended i),
    fun i tag kind attr deadline was => (answered i tag kind attr deadline was).before_aside up grows aside⟩

/-- A departure after an event that has left the port aside is one from before it. -/
theorem Hub.LeftOn.after_aside (left : k.LeftOn h' p) (aside : h.Aside k p) : h.LeftOn h' p := by
  have ax (x : AxisId) : k.ax p x = h.ax p x := by simp only [Hub.ax, aside.ln]
  have seen (cause : DropCause) : k.dropSeen p cause = h.dropSeen p cause := by
    simp only [Hub.dropSeen, aside.lk, aside.fr, aside.units.1, aside.units.2]
  unfold Hub.LeftOn Hub.LinkDropped at left ⊢
  simp only [aside.lk, aside.ln, ax, aside.tg, aside.fr, seen] at left
  obtain ⟨state, axes, fault, lost, dropped, kept⟩ := left
  refine ⟨state, axes, fault, lost, fun up => ?_, kept⟩
  obtain ⟨history, drops, queue, sendCount, ackWait, pendingTrigger, testCount, context, fLinked, fallen, released, trigger,
    trigLost, frame, frameDrop, slots⟩ := dropped up
  exact ⟨history, drops, queue, sendCount, ackWait, pendingTrigger, testCount, context, fLinked, fallen, released, trigger,
    trigLost, frame, frameDrop, slots.after_aside aside⟩

/-- A departure with all its consequences has them after an event that leaves the port aside. -/
theorem Hub.LeftOn.before_aside (left : h.LeftOn k p) (trunk : k.trunk.up = h.trunk.up)
    (grows : h.trunk.replies <+: k.trunk.replies) (aside : k.Aside h' p) : h.LeftOn h' p := by
  have ax (x : AxisId) : h'.ax p x = k.ax p x := by simp only [Hub.ax, aside.ln]
  have flag {f : BitVec 16} := aside.flags.1 p f
  unfold Hub.LeftOn Hub.LinkDropped at left ⊢
  simp only [aside.pw, aside.lk, ax, aside.tg, aside.fr]
  obtain ⟨state, axes, fault, lost, dropped, kept⟩ := left
  refine ⟨state, axes, fun m => flag (fault m), fun up => ⟨(lost up).1, flag (lost up).2⟩, fun up => ?_, kept⟩
  obtain ⟨history, drops, queue, sendCount, ackWait, pendingTrigger, testCount, context, fLinked, fallen, released, trigger,
    trigLost, frame, frameDrop, slots⟩ := dropped up
  exact ⟨history, drops, queue, sendCount, ackWait, pendingTrigger, testCount, context, flag fLinked, fallen,
    fun m => ⟨flag (released m).1, (released m).2⟩, trigger, fun f hand => flag (trigLost f hand), frame,
    fun filling => flag (frameDrop filling), slots.before_aside trunk grows aside⟩

/-! ## A port turned off, seen from the others -/

theorem Hub.lensPowerLost_slotsPass : h.SlotsPass (h.lensPowerLost p) d := by
  cases motion : (h.ln p).anyMotion with
  | true =>
    rw [Hub.lensPowerLost_of_motion motion]
    refine Hub.SlotsPass.trans ?_ Hub.reportIdle_slotsPass
    exact Hub.flag_slotsPass_of_same ⟨rfl, rfl, rfl⟩
  | false =>
    rw [Hub.lensPowerLost_of_still motion]
    exact .of_same ⟨rfl, rfl, rfl⟩

/-- A departure from ON ends the port's slots alone (R171). -/
theorem Hub.leftOn_slotsPass_own : h.SlotsPass (h.leftOn p) (some p) := by
  refine Hub.SlotsPass.trans ?_ Hub.lensPowerLost_slotsPass
  unfold Hub.linkPowerLost
  split
  · exact (h.drop_slotsPass p _ _).1
  · exact (h.drop_slotsPass p _ _).1
  · exact Hub.flag_slotsPass_of_same ⟨rfl, rfl, rfl⟩
  · exact .refl h _

theorem Hub.turnOff_slotsPass (cause : OffCause) (part : BitVec 16) : h.SlotsPass (h.turnOff p cause part) (some p) := by
  by_cases on : (h.pw p).state = .on
  · rw [Hub.turnOff_of_on on]
    exact (Hub.cutPower_slotsPass _).trans Hub.leftOn_slotsPass_own
  · rw [Hub.turnOff_of_not_on on]
    exact Hub.cutPower_slotsPass _

/-- A port turned off leaves every other aside. -/
theorem Hub.turnOff_aside (cause : OffCause) (part : BitVec 16) (e : q ≠ p) : h.Aside (h.turnOff p cause part) q := by
  have pass : h.SlotsPass (h.turnOff p cause part) (some p) := Hub.turnOff_slotsPass cause part
  refine ⟨by simp, ?_, ?_, ?_, ?_, ?_, Hub.turnOff_grow (.refl h), pass.up, pass.grows, pass.aside fun same => ?_⟩
  · simp [Hub.pw, e]
  · simp [Hub.lk, e]
  · simp [Hub.ln, e]
  · simp [Hub.tg, e]
  · simp [Hub.fr, e]
  · exact e (Option.some.inj same).symm

end

end Sys2Proof.Machine

/-! # Sheds to fit a budget (R40, R41) -/

namespace Sys2Proof.Machine

/-- The sheds of a budget, one after the other: each takes the first port of R41 while the granted total is above the budget. -/
inductive Hub.Sheds : Hub → List Port → Hub → Prop where
  | nil (h : Hub) : Hub.Sheds h [] h
  | cons {h h' : Hub} {p : Port} {ps : List Port} (exceeds : h.cell.budget < h.grantedTotal) (first : h.ShedFirst p)
      (rest : Hub.Sheds (h.turnOff p .shed fShed) ps h') : Hub.Sheds h (p :: ps) h'

theorem Hub.shedToFit_sheds : ∀ (n : Nat) (h : Hub), h.Sheds (Hub.shedToFit n h).2 (Hub.shedToFit n h).1
  | 0, h => .nil h
  | n + 1, h => by
    unfold Hub.shedToFit
    split
    case isTrue exceeds =>
      split
      case h_1 => exact .nil h
      case h_2 p chosen =>
        exact .cons exceeds (Hub.shedFirst_of_shedCandidate chosen) (Hub.shedToFit_sheds n (h.turnOff p .shed fShed))
    case isFalse => exact .nil h

/-! ## What one shed leaves of the others -/

section
variable {h h' : Hub} {p q : Port} {shed : List Port}

theorem Hub.turnOff_pw_ne (cause : OffCause) (part : BitVec 16) (e : q ≠ p) : (h.turnOff p cause part).pw q = h.pw q := by
  simp [Hub.pw, e]

theorem Hub.turnOff_priority (cause : OffCause) (part : BitVec 16) (q : Port) :
    ((h.turnOff p cause part).pw q).priority = (h.pw q).priority := by
  by_cases e : q = p
  · rw [e, Hub.turnOff_pw]
  · rw [Hub.turnOff_pw_ne cause part e]

theorem Hub.turnOff_shedBefore {a b : Port} (cause : OffCause) (part : BitVec 16) :
    (h.turnOff p cause part).ShedBefore a b ↔ h.ShedBefore a b := by
  simp only [Hub.ShedBefore, Hub.turnOff_priority]

/-- Powered after a shed: another port than the one shed, and powered before. -/
theorem Hub.powered_of_turnOff {cause : OffCause} {part : BitVec 16} (on : ((h.turnOff p cause part).pw q).powered = true) :
    q ≠ p ∧ (h.pw q).powered = true := by
  have e : q ≠ p := by
    rintro rfl
    rw [Hub.turnOff_pw] at on
    cases on
  exact ⟨e, by rwa [Hub.turnOff_pw_ne cause part e] at on⟩

/-- A port turned off gives back what it drew (R38, R42). -/
theorem Hub.turnOff_grantedTotal (cause : OffCause) (part : BitVec 16) :
    (h.turnOff p cause part).grantedTotal + (h.pw p).drawn = h.grantedTotal := by
  have drawn (q : Port) : ((h.turnOff p cause part).pw q).drawn = if q = p then 0 else (h.pw q).drawn := by
    by_cases e : q = p
    · rw [if_pos e, e, Hub.turnOff_pw]
      exact PortPower.drawn_of_not_powered rfl rfl
    · rw [if_neg e, Hub.turnOff_pw_ne cause part e]
  simp only [Hub.grantedTotal, drawn]
  exact sum_ports_update (fun q => (h.pw q).drawn) p 0

/-! ## The sheds of one budget -/

theorem Hub.Sheds.cell (s : h.Sheds shed h') : h'.cell = h.cell := by
  induction s with
  | nil => rfl
  | cons _ _ _ ih => rw [ih, (Hub.turnOff_frame _ _ _ _).2.2.1]

theorem Hub.Sheds.powered (s : h.Sheds shed h') : ∀ q ∈ shed, (h.pw q).powered = true := by
  induction s with
  | nil => exact fun q m => nomatch m
  | cons exceeds first rest ih => exact List.forall_mem_cons.mpr ⟨first.1, fun q m => (Hub.powered_of_turnOff (ih q m)).2⟩

/-- A port that is shed is not shed again. -/
theorem Hub.Sheds.not_mem_of_turnOff {part : BitVec 16} {cause : OffCause} (s : (h.turnOff p cause part).Sheds shed h') : p ∉ shed :=
  fun m => (Hub.powered_of_turnOff (s.powered p m)).1 rfl

/-- The sheds leave every port aside that they do not choose. -/
theorem Hub.Sheds.aside (s : h.Sheds shed h') : q ∉ shed → h.Aside h' q := by
  induction s with
  | nil h => exact fun _ => .refl h q
  | cons exceeds first rest ih =>
    intro kept
    have ne := List.ne_of_not_mem_cons kept
    exact (Hub.turnOff_aside .shed fShed ne).trans (ih (List.not_mem_of_not_mem_cons kept))

theorem Hub.Sheds.nil_of_fits (s : h.Sheds shed h') (fits : h.grantedTotal ≤ h.cell.budget) : shed = [] ∧ h' = h := by
  cases s with
  | nil => exact ⟨rfl, rfl⟩
  | cons exceeds => exact absurd fits (Nat.not_le_of_lt exceeds)

theorem Hub.Sheds.grow (s : h.Sheds shed h') : h.FlagsGrow h' := by
  induction s with
  | nil h => exact .refl h
  | cons exceeds first rest ih => exact (Hub.turnOff_grow (.refl _)).trans ih

theorem Hub.turnOff_partFlags (cause : OffCause) (part : BitVec 16) :
    (h.turnOff p cause part).mgmt.partFlags &&& part = part := by
  have cut : (h.cutPower p cause part).mgmt.partFlags &&& part = part := by simp [Hub.cutPower, and_or_self]
  by_cases on : (h.pw p).state = .on
  · rw [Hub.turnOff_of_on on]
    exact (Hub.leftOn_grow (.refl _)).2 _ cut
  · rw [Hub.turnOff_of_not_on on]
    exact cut

theorem Hub.Sheds.has_fShed (s : h.Sheds shed h') (any : shed ≠ []) : h'.mgmt.partFlags &&& fShed = fShed := by
  cases s with
  | nil => exact absurd rfl any
  | cons exceeds first rest => exact rest.grow.2 _ (Hub.turnOff_partFlags .shed fShed)

/-- What a shed does to a port that was powered (R41, R50). -/
def Hub.ShedAt (h h' : Hub) (p : Port) : Prop :=
  h'.pw p = { h.pw p with state := .off, cause := .shed, allowanceHeld := false, postponed := false } ∧
    vget h'.mgmt.portFlags p &&& fPower = fPower ∧
    ((h.pw p).state = .on → (h.lk p).history.length ≤ 16 → h.LeftOn h' p) ∧
    ((h.pw p).state ≠ .on → h'.lk p = h.lk p ∧ h'.ln p = h.ln p ∧ h'.fr p = h.fr p)

/-- A shed's port keeps what the shed did to it through the sheds of others. -/
theorem Hub.Aside.turnOff_shedAt (aside : (h.turnOff p .shed fShed).Aside h' p) : h.ShedAt h' p := by
  have pass : h.SlotsPass (h.turnOff p .shed fShed) (some p) := Hub.turnOff_slotsPass .shed fShed
  refine ⟨by rw [aside.pw, Hub.turnOff_pw], aside.flags.1 p _ Hub.turnOff_fPower, fun on bounded => ?_, fun off => ?_⟩
  · exact (Hub.turnOff_leftOn on bounded).before_aside pass.up pass.grows aside
  · rw [aside.lk, aside.ln, aside.fr, Hub.turnOff_of_not_on off]
    simp [Hub.lk, Hub.ln, Hub.fr, Hub.cutPower]

/-- A port shed after others was left aside by their sheds. -/
theorem Hub.ShedAt.after_aside {k : Hub} (shed : k.ShedAt h' p) (aside : h.Aside k p) : h.ShedAt h' p := by
  obtain ⟨power, flag, left, kept⟩ := shed
  rw [aside.pw] at power left kept
  rw [aside.lk, aside.ln, aside.fr] at kept
  rw [aside.lk] at left
  exact ⟨power, flag, fun on bounded => (left on bounded).after_aside aside, kept⟩

theorem Hub.Sheds.shedAt (s : h.Sheds shed h') : ∀ q ∈ shed, h.ShedAt h' q := by
  induction s with
  | nil => exact fun q m => nomatch m
  | cons exceeds first rest ih =>
    refine List.forall_mem_cons.mpr ⟨(rest.aside rest.not_mem_of_turnOff).turnOff_shedAt, fun q m => ?_⟩
    exact (ih q m).after_aside (Hub.turnOff_aside .shed fShed (Hub.powered_of_turnOff (rest.powered q m)).1)

/-- The sheds follow the order of R41. -/
theorem Hub.Sheds.ordered (s : h.Sheds shed h') : shed.Pairwise h.ShedBefore := by
  induction s with
  | nil => exact .nil
  | cons exceeds first rest ih =>
    refine List.pairwise_cons.mpr ⟨fun q m => ?_, ih.imp (Hub.turnOff_shedBefore _ _).mp⟩
    obtain ⟨ne, on⟩ := Hub.powered_of_turnOff (rest.powered q m)
    exact first.2 q on ne

/-- Every port that is shed goes before every powered one that is not. -/
theorem Hub.Sheds.before_kept (s : h.Sheds shed h') :
    ∀ a ∈ shed, ∀ b, b ∉ shed → (h.pw b).powered = true → h.ShedBefore a b := by
  induction s with
  | nil => exact fun a m => nomatch m
  | cons exceeds first rest ih =>
    refine List.forall_mem_cons.mpr ⟨fun b kept on => ?_, fun a m b kept on => ?_⟩
    · exact first.2 b on (List.ne_of_not_mem_cons kept)
    · refine (Hub.turnOff_shedBefore _ _).mp (ih a m b (List.not_mem_of_not_mem_cons kept) ?_)
      rwa [Hub.turnOff_pw_ne _ _ (List.ne_of_not_mem_cons kept)]

/-- Before the last shed the granted total was above the budget: no port was shed in vain (R40). -/
theorem Hub.Sheds.over_before_last {front : List Port} {last : Port} (s : h.Sheds shed h') (e : shed = front ++ [last]) :
    h.cell.budget < h'.grantedTotal + (h.pw last).drawn := by
  induction s generalizing front with
  | nil => simp at e
  | cons exceeds first rest ih =>
    cases front with
    | nil =>
      obtain ⟨rfl, rfl⟩ := List.cons.inj e
      cases rest
      rwa [Hub.turnOff_grantedTotal]
    | cons p front =>
      obtain ⟨rfl, rfl⟩ := List.cons.inj e
      have above := ih rfl
      have ne := (Hub.powered_of_turnOff (rest.powered last (by simp))).1
      rwa [Hub.turnOff_pw_ne _ _ ne, (Hub.turnOff_frame _ _ _ _).2.2.1] at above

end

/-- The answer of BUDGET_SET in the words of its sheds; they leave the supply items of the cell (R40). -/
theorem Hub.budgetSet_of_sheds {h h' : Hub} {shed : List Port} {budget : Nat}
    (e : Hub.shedToFit 8 (h.modCell fun c => { c with budget := Nat.min budget 200000 }) = (h', shed))
    (cell : h'.cell = { h.cell with budget := Nat.min budget 200000 }) :
    h.budgetSet budget = (h',
      { status := if 200000 < budget then .clamped else .ok
        results := u32 (Nat.min budget 200000) ++ u32 h'.grantedTotal ++ (u8 shed.length ++ shed.flatMap fun p => u8 p.val) ++
          u16 h.cell.supplySample ++ supplyCode h.cell.monitor }) := by
  simp only [Hub.budgetSet, e, cell, counted]

/-- Settles O27: the owner's sheds are the sheds of R41 from the hub with the budget taken. -/
theorem budgetSetSheds : Obligations.BudgetSetSheds := by
  intro s r pkt budget asked law
  have sheds := Hub.shedToFit_sheds 8 (s.hub.popRequest.modCell fun c => { c with budget := Nat.min budget 200000 })
  have fits := Hub.shedToFit_fits 8 (s.hub.popRequest.modCell fun c => { c with budget := Nat.min budget 200000 }) law
    (Hub.poweredCount_le _)
  rcases e : Hub.shedToFit 8 (s.hub.popRequest.modCell fun c => { c with budget := Nat.min budget 200000 }) with ⟨h', shed⟩
  rw [e] at sheds fits
  refine ⟨h', shed, State.answers_forHub rfl rfl asked (Hub.budgetSet_of_sheds e sheds.cell), sheds.cell, ?fits,
    sheds.nil_of_fits, sheds.has_fShed, fun p kept => ?kept, fun front last last_eq => ?minimal, fun p m => ?shed, sheds.ordered,
    fun a b m => sheds.before_kept a m b⟩
  case fits => rwa [sheds.cell]
  case kept =>
    have aside := sheds.aside kept
    exact ⟨aside.pw, aside.lk, aside.ln, aside.tg, aside.fr⟩
  case minimal =>
    have above := sheds.over_before_last last_eq
    have on := sheds.powered last (by simp [last_eq])
    simp only [PortPower.drawn, on, if_true, ← Nat.add_assoc] at above
    exact above
  case shed =>
    obtain ⟨power, flag, left, still⟩ := sheds.shedAt p m
    refine ⟨sheds.powered p m, ?_, ?_, ?_, ?_, flag, left, still⟩
    all_goals rw [power]
    rfl

end Sys2Proof.Machine

/-! # The supply monitor (R57, R58) -/

namespace Sys2Proof.Machine

section
variable {h : Hub} {p : Port} {mv : Nat}

theorem Hub.modCell_congr {f g : CellPower → CellPower} (e : f h.cell = g h.cell) : h.modCell f = h.modCell g := by
  simp only [Hub.modCell, e]

/-! ## The three states -/

/-- A sample that is not below 20,000 mV brings NORMAL from every state. -/
theorem Hub.supplySample_of_high (high : 20000 ≤ mv) :
    h.supplySample mv = h.modCell fun c => { c with supplySample := mv, monitor := .normal } := by
  have low : decide (mv < 20000) = false := by simpa using high
  cases state : h.cell.monitor with
  | normal =>
    simp only [Hub.supplySample, Hub.modCell_cell, low, state, Bool.false_eq_true, if_false]
    exact Hub.modCell_congr (by simp [state])
  | low | sag =>
    simp only [Hub.supplySample, Hub.modCell_cell, low, state]
    rfl

theorem Hub.supplySample_of_normal (low : mv < 20000) (state : h.cell.monitor = .normal) :
    h.supplySample mv = h.modCell fun c => { c with supplySample := mv, monitor := .low, lowSince := h.time } := by
  simp only [Hub.supplySample, Hub.modCell_cell, state, low, decide_true, if_true]
  rfl

/-- Between two sheds, or before the first, a low sample is taken alone. -/
theorem Hub.supplySample_of_wait (low : mv < 20000)
    (wait : h.cell.monitor = .low ∧ elapsed h.time h.cell.lowSince < 2000 ∨
      h.cell.monitor = .sag ∧ elapsed h.time (h.cell.nextShed - 5000) < 5000) :
    h.supplySample mv = h.modCell fun c => { c with supplySample := mv } := by
  rcases wait with ⟨state, early⟩ | ⟨state, early⟩
  · have due : passed h.time h.cell.lowSince 2000 = false := by simpa [passed] using early
    simp [Hub.supplySample, state, low, due]
  · have due : reached h.time h.cell.nextShed 5000 = false := by simpa [reached, passed] using early
    simp [Hub.supplySample, state, low, due]

/-- The cell's items as a shed of the sag is due: the next one follows in 5,000 µs. -/
def CellPower.sagging (c : CellPower) (now : HubTime) (mv : Nat) : CellPower :=
  { c with supplySample := mv, monitor := .sag, nextShed := (if c.monitor = .low then now else c.nextShed) + 5000 }

theorem Hub.supplySample_of_shed (low : mv < 20000)
    (due : h.cell.monitor = .low ∧ 2000 ≤ elapsed h.time h.cell.lowSince ∨
      h.cell.monitor = .sag ∧ 5000 ≤ elapsed h.time (h.cell.nextShed - 5000)) :
    h.supplySample mv =
      (h.modCell fun c => c.sagging h.time mv).shedUndervolt (decide (h.cell.monitor = .low)) := by
  rcases due with ⟨state, late⟩ | ⟨state, late⟩
  · have due : passed h.time h.cell.lowSince 2000 = true := by simpa [passed] using late
    simp [Hub.supplySample, state, low, due, CellPower.sagging, Hub.modCell, after]
  · have due : reached h.time h.cell.nextShed 5000 = true := by simpa [reached, passed] using late
    simp [Hub.supplySample, state, low, due, CellPower.sagging, Hub.modCell, after]

/-! ## The sheds -/

/-- The entry into SAG sets UNDERVOLT, whether or not it finds a port. -/
theorem Hub.shedUndervolt_entry : (h.shedUndervolt true).mgmt.partFlags &&& fUndervolt = fUndervolt := by
  unfold Hub.shedUndervolt
  split
  · exact Hub.turnOff_partFlags .undervolt fUndervolt
  · simp [Hub.flagPart, and_or_self]

theorem Hub.shedUndervolt_of_none {entry : Bool} (off : ∀ p, (h.pw p).powered = false) :
    (h.shedUndervolt entry).power = h.power := by
  simp only [Hub.shedUndervolt, Hub.shedCandidate_of_none off]
  split <;> simp

theorem Hub.shedUndervolt_of_first {entry : Bool} (first : h.ShedFirst p) :
    h.shedUndervolt entry = h.turnOff p .undervolt fUndervolt := by
  simp only [Hub.shedUndervolt, Hub.shedCandidate_of_first first]

end

theorem State.does_supplySample {s : State} {mv : Nat} {h' : Hub} (e : s.hub.supplySample mv = h') :
    s.Does (.supplySample mv) h' := by
  subst e
  rfl

/-- Settles O34: each state of the monitor has its equation, and a shed is a port turned off. -/
theorem supplyMonitorSheds : Obligations.SupplyMonitorSheds := by
  intro s mv
  refine ⟨fun high => State.does_supplySample (Hub.supplySample_of_high high), fun low =>
    ⟨fun state => State.does_supplySample (Hub.supplySample_of_normal low state),
      fun state early => State.does_supplySample (Hub.supplySample_of_wait low (.inl ⟨state, early⟩)),
      fun state early => State.does_supplySample (Hub.supplySample_of_wait low (.inr ⟨state, early⟩)), fun due => ?_⟩⟩
  refine ⟨_, State.does_supplySample (Hub.supplySample_of_shed low due), ?_, fun entry => ?_, fun off => ?_,
    fun p on before => ?_⟩
  · rw [(Hub.shedUndervolt_frame _ _).2.2.1]; rfl
  · rw [decide_eq_true entry]
    exact Hub.shedUndervolt_entry
  · exact Hub.shedUndervolt_of_none (h := s.hub.modCell fun c => c.sagging s.hub.time mv) off
  · have first : (s.hub.modCell fun c => c.sagging s.hub.time mv).ShedFirst p := ⟨on, before⟩
    rw [Hub.shedUndervolt_of_first first]
    obtain ⟨state, cause, released, -, flag, left, -, other, -⟩ :=
      Hub.turnOff_turnedOff (h := s.hub.modCell fun c => c.sagging s.hub.time mv) (p := p) (cause := .undervolt) (part := fUndervolt)
    refine ⟨state, cause, released, Hub.turnOff_partFlags .undervolt fUndervolt, flag, left, fun q e => ?_⟩
    obtain ⟨power, link, lens, -, frames⟩ := other q e
    exact ⟨power, link, lens, frames⟩

end Sys2Proof.Machine

/-! # Currents, trips and their consequences (R46 to R50) -/

namespace Sys2Proof.Machine

/-! ## A current that a row reports (R47) -/

section
variable {s : State} {i : Instr} {p : Port} {current : Nat} {own : Hub → Bool} {act : Hub → Hub}

theorem Hub.shorted_iff {h : Hub} : h.shorted p current = true ↔ (h.pw p).state = .on ∧ 2 * (h.pw p).limit < current := by
  simp [Hub.shorted]

theorem Hub.not_shorted_of_le {h : Hub} (le : current ≤ 2 * (h.pw p).limit) : h.shorted p current = false := by
  simp only [Hub.shorted, decide_eq_false (Nat.not_lt_of_le le), Bool.and_false]

theorem State.does_of_shorted (means : exec i s = s.senseCurrent p current own act) (short : s.hub.shorted p current = true) :
    s.Does i (s.hub.trip p .hardShort) := by
  have does := State.does_of_when means (by rw [short]; rfl)
  rwa [if_pos short] at does

theorem State.does_of_sensed (means : exec i s = s.senseCurrent p current own act) (calm : s.hub.shorted p current = false)
    (due : own s.hub = true) : s.Does i (act s.hub) := by
  have does := State.does_of_when means (by rw [calm, due]; rfl)
  rwa [calm, if_neg Bool.false_ne_true] at does

theorem State.next_of_sensed (means : exec i s = s.senseCurrent p current own act) (calm : s.hub.shorted p current = false)
    (fails : own s.hub = false) : exec i s = .next s :=
  State.next_of_not_when means (by rw [calm, fails]; rfl)

end

/-- Settles O32: no current here is a hard short, so that each row is its own condition's matter. -/
theorem overcurrentExcursions : Obligations.OvercurrentExcursions := by
  intro s p current on bounded
  have calm := Hub.not_shorted_of_le bounded
  have rise : exec (.overcurrentRise p current) s = execOvercurrentRise p current s := rfl
  have fall : exec (.overcurrentFall p current) s = execOvercurrentFall p current s := rfl
  have trip : exec (.trip p current) s = execTrip p current s := rfl
  have hardShort : exec (.hardShort p current) s = execHardShort p current s := rfl
  refine ⟨fun above fresh => State.does_of_sensed rise calm ?_, fun above begun => State.next_of_sensed rise calm ?_,
    fun below => State.next_of_sensed rise calm ?_, fun below => State.does_of_sensed fall calm ?_,
    fun above => State.next_of_sensed fall calm ?_, fun early => State.next_of_sensed trip calm ?_,
    State.next_of_sensed hardShort calm rfl⟩
  · simp [on, above, fresh]
  · simpa [on, above] using Option.isSome_iff_ne_none.mpr begun
  · simp [Nat.not_lt_of_le below]
  · simp [on, below]
  · simp [Nat.not_le_of_lt above]
  · rcases early with below | none | ⟨t, since, few⟩
    · simp [Nat.not_lt_of_le below]
    · simp [Hub.excursionDue, none]
    · simp [Hub.excursionDue, since, passed, Nat.not_le_of_lt few]

/-! ## The history and the choice of LOCKED (R48) -/

theorem PortPower.tripsAfter_eq {q : PortPower} {now : HubTime} (bounded : q.trips.length ≤ 3) :
    q.tripsAfter now = q.trips.drop (q.trips.length - 2) ++ [now] := by
  unfold PortPower.tripsAfter appendBounded
  by_cases full : 3 ≤ q.trips.length
  · rw [if_pos full, show q.trips.length + 1 - 3 = q.trips.length - 2 by omega]
  · rw [if_neg full, show q.trips.length - 2 = 0 by omega, List.drop_zero]

/-- A trip locks by a hard short, or as the third of its history where the first of them is less than 10 s old. -/
theorem tripLocks_iff {cause : OffCause} {trips : List HubTime} {now : HubTime} (bounded : trips.length ≤ 3) :
    tripLocks cause (trips.drop (trips.length - 2) ++ [now]) = true ↔ cause = .hardShort ∨
      2 ≤ trips.length ∧ elapsed now ((trips.drop (trips.length - 2)).headD 0) < 10000000 := by
  match trips, bounded with
  | [], _ | [_], _ | [_, _], _ | [_, _, _], _ => simp [tripLocks]

/-! ## The trip (R48, R50) -/

/-- The power items after a trip (R48). -/
def PortPower.tripped (q : PortPower) (now : HubTime) (cause : OffCause) : PortPower :=
  if tripLocks cause (q.tripsAfter now) then
    { q with state := .locked, cause := cause, trips := q.tripsAfter now, allowanceHeld := false }
  else
    { q with
      state := .cooldown, cause := cause, trips := q.tripsAfter now, allowanceHeld := false
      cooldownEnd := after now 500000, postponed := false }

/-- The flags of a trip (R48). -/
def tripFlags (locks : Bool) : BitVec 16 := fTrip ||| fPower ||| (if locks then fLock else 0)

/-- The hub of a trip before a departure from ON is told: the port's power items and the flags. -/
def Hub.tripStart (h : Hub) (p : Port) (cause : OffCause) : Hub :=
  (h.modPower p fun q => q.tripped h.time cause).flag p (tripFlags (tripLocks cause ((h.pw p).tripsAfter h.time)))

/-- The hub of a trip before the sweep that it may bring. -/
def Hub.tripDeparts (h : Hub) (p : Port) (cause : OffCause) : Hub :=
  if (h.pw p).state = .on then (h.tripStart p cause).leftOn p else h.tripStart p cause

section
variable {h : Hub} {p q : Port} {cause : OffCause}

theorem PowerKept.eq_of_released {a b : PortPower} (k : PowerKept a b) (released : a.allowanceHeld = false) : b = a := by
  rcases k with rfl | rfl
  · rfl
  · rw [← released]

theorem PortPower.tripped_items {q : PortPower} {now : HubTime} :
    (q.tripped now cause).trips = q.tripsAfter now ∧ (q.tripped now cause).cause = cause ∧
      (q.tripped now cause).allowanceHeld = false ∧ (q.tripped now cause).powered = false ∧
      (q.tripped now cause).state = if tripLocks cause (q.tripsAfter now) then .locked else .cooldown := by
  unfold PortPower.tripped
  split
  · exact ⟨rfl, rfl, rfl, rfl, rfl⟩
  · exact ⟨rfl, rfl, rfl, rfl, rfl⟩

theorem PortPower.tripped_of_cooldown {q : PortPower} {now : HubTime} (cools : tripLocks cause (q.tripsAfter now) = false) :
    (q.tripped now cause).cooldownEnd = now + 500000 ∧ (q.tripped now cause).postponed = false := by
  rw [PortPower.tripped, cools, if_neg Bool.false_ne_true]
  exact ⟨rfl, rfl⟩

theorem Hub.tripStart_pw : (h.tripStart p cause).pw p = (h.pw p).tripped h.time cause := by
  simp [Hub.tripStart, Hub.pw]

theorem Hub.tripStart_units : (h.tripStart p cause).time = h.time ∧ (h.tripStart p cause).link = h.link ∧
    (h.tripStart p cause).lens = h.lens ∧ (h.tripStart p cause).encoder = h.encoder ∧
    (h.tripStart p cause).trig = h.trig ∧ (h.tripStart p cause).frames = h.frames := by
  simp [Hub.tripStart]

theorem Hub.tripStart_slotsPass (d : Option Port) : h.SlotsPass (h.tripStart p cause) d :=
  Hub.flag_slotsPass_of_same ⟨rfl, rfl, rfl⟩

/-- A departure from ON keeps power items without an allowance. -/
theorem Hub.tripDeparts_pw : (h.tripDeparts p cause).pw p = (h.pw p).tripped h.time cause := by
  unfold Hub.tripDeparts
  split
  · have released : ((h.tripStart p cause).pw p).allowanceHeld = false := by
      rw [Hub.tripStart_pw]
      exact PortPower.tripped_items.2.2.1
    rw [(Hub.leftOn_kept (h.tripStart p cause) p).eq_of_released released, Hub.tripStart_pw]
  · exact Hub.tripStart_pw

theorem Hub.tripStart_flags {locks : Bool} (e : tripLocks cause ((h.pw p).tripsAfter h.time) = locks) :
    vget (h.tripStart p cause).mgmt.portFlags p &&& tripFlags locks = tripFlags locks := by
  rw [Hub.tripStart, e]
  exact Hub.flag_has _ p _

theorem Hub.tripDeparts_flags {locks : Bool} (e : tripLocks cause ((h.pw p).tripsAfter h.time) = locks) :
    vget (h.tripDeparts p cause).mgmt.portFlags p &&& tripFlags locks = tripFlags locks := by
  have start := Hub.tripStart_flags e
  unfold Hub.tripDeparts
  split
  · exact (Hub.leftOn_grow (.refl _)).1 p _ start
  · exact start

theorem Hub.tripDeparts_of_not_on (off : (h.pw p).state ≠ .on) :
    (h.tripDeparts p cause).lk p = h.lk p ∧ (h.tripDeparts p cause).ln p = h.ln p ∧ (h.tripDeparts p cause).fr p = h.fr p := by
  obtain ⟨-, link, lens, -, -, frames⟩ := Hub.tripStart_units (h := h) (p := p) (cause := cause)
  rw [Hub.tripDeparts, if_neg off]
  simp only [Hub.lk, Hub.ln, Hub.fr, link, lens, frames, and_self]

theorem Hub.tripDeparts_slotsPass : h.SlotsPass (h.tripDeparts p cause) (some p) := by
  unfold Hub.tripDeparts
  split
  · exact (Hub.tripStart_slotsPass _).trans Hub.leftOn_slotsPass_own
  · exact Hub.tripStart_slotsPass _

/-- A trip of a port that is ON has every consequence of leaving it (R50). -/
theorem Hub.tripDeparts_leftOn (on : (h.pw p).state = .on) (bounded : (h.lk p).history.length ≤ 16) :
    h.LeftOn (h.tripDeparts p cause) p := by
  have units := Hub.tripStart_units (h := h) (p := p) (cause := cause)
  have link : (h.tripStart p cause).lk p = h.lk p := by simp only [Hub.lk, units.2.1]
  rw [Hub.tripDeparts, if_pos on]
  refine (Hub.leftOn_leftOn (by rwa [link])).of_before units fun up => ?_
  obtain ⟨slots, waits⟩ := Hub.leftOn_slotsPass (h := h.tripStart p cause) (by rwa [link])
  exact ((Hub.tripStart_slotsPass _).trans slots).slotsDropped waits

theorem Hub.tripDeparts_other (e : q ≠ p) :
    (h.tripDeparts p cause).pw q = h.pw q ∧ (h.tripDeparts p cause).lk q = h.lk q ∧ (h.tripDeparts p cause).ln q = h.ln q ∧
      (h.tripDeparts p cause).tg q = h.tg q ∧ (h.tripDeparts p cause).fr q = h.fr q := by
  unfold Hub.tripDeparts Hub.tripStart
  split <;> simp [Hub.pw, Hub.lk, Hub.ln, Hub.tg, Hub.fr, vget_vmod_ne, e]

theorem Hub.tripDeparts_cable : (h.tripDeparts p cause).cable = h.cable := by
  unfold Hub.tripDeparts Hub.tripStart
  split <;> simp

/-- A trip is the departure, then the sweep that the port asks for (R48, R50, R67). -/
theorem Hub.trip_eq : h.trip p cause = (h.tripDeparts p cause).maySweep p
    (tripSweep (h.cb p) cause (tripLocks cause ((h.pw p).tripsAfter h.time))) := by
  have cable : (h.tripDeparts p cause).cb p = h.cb p := by simp only [Hub.cb, Hub.tripDeparts_cable]
  rw [← cable]
  have start : (h.modPower p fun q =>
      if tripLocks cause ((h.pw p).tripsAfter h.time) then
        { q with state := .locked, cause := cause, trips := (h.pw p).tripsAfter h.time, allowanceHeld := false }
      else
        { q with
          state := .cooldown, cause := cause, trips := (h.pw p).tripsAfter h.time, allowanceHeld := false
          cooldownEnd := after h.time 500000, postponed := false }) = h.modPower p fun q => q.tripped h.time cause := by
    simp only [Hub.modPower]
    exact congrArg (fun v => { h with power := v }) (vmod_congr rfl)
  simp only [Hub.trip, start]
  rfl

/-! ### The sweep that follows (R67) -/

/-- An automatic request for an idle port that is not powered: it is queued. -/
theorem Hub.autoSweep_of_off (origin : SweepOrigin) (idle : (h.cb p).sweepStatus = .idle) (off : (h.pw p).powered = false) :
    h.autoSweep p origin = h.enqueueSweep p (h.cb p).auto origin := by
  simp [Hub.autoSweep, idle, Hub.powerDown, off]

theorem Hub.enqueueSweep_aside (params : SweepParams) (origin : SweepOrigin) : h.Aside (h.enqueueSweep p params origin) q := by
  refine ⟨by simp, by simp, by simp, ?_, ?_, ?_, Hub.enqueueSweep_grow (.refl h), by simp, ?_, fun i => .same ?_⟩
  · simp [Hub.ln]
  · simp [Hub.tg]
  · simp [Hub.fr]
  · simp
  · simp

/-- The sweep of a port that is not powered leaves every port's power, link, lens, trigger and frame items. -/
theorem Hub.maySweep_aside {o : Option SweepOrigin} (off : (h.pw p).powered = false) : h.Aside (h.maySweep p o) q := by
  cases o with
  | none => exact .refl h q
  | some origin =>
    by_cases idle : (h.cb p).sweepStatus = .idle
    · rw [Hub.maySweep, Hub.autoSweep_of_off origin idle off]
      exact Hub.enqueueSweep_aside _ _
    · rw [Hub.maySweep, Hub.autoSweep, if_pos idle]
      exact ⟨⟨rfl, rfl⟩, rfl, rfl, rfl, rfl, rfl, .of_eq rfl rfl, rfl, List.prefix_refl _, fun _ => .same rfl⟩

theorem Hub.maySweep_swept {o : Option SweepOrigin} (idle : (h.cb p).sweepStatus = .idle) (off : (h.pw p).powered = false) :
    ((h.maySweep p o).cb p).sweepStatus ≠ .idle ↔ o.isSome = true := by
  cases o with
  | none => simpa [Hub.maySweep] using idle
  | some origin =>
    rw [Hub.maySweep, Hub.autoSweep_of_off origin idle off]
    simpa using Hub.enqueueSweep_swept _ _

theorem tripSweep_isSome {c : PortCable} {locks : Bool} :
    (tripSweep c cause locks).isSome = true ↔ cause = .hardShort ∧ c.onHardShort = true ∨ locks = true ∧ c.onLock = true := by
  unfold tripSweep
  split
  case isTrue short => simpa using Or.inl (by simpa using short)
  case isFalse short =>
    split
    case isTrue lock => simpa using Or.inr (by simpa using lock)
    case isFalse lock => simpa using ⟨by simpa using short, by simpa using lock⟩

/-- A trip's hub leaves its departure's port items as they are. -/
theorem Hub.trip_aside : (h.tripDeparts p cause).Aside (h.trip p cause) q := by
  rw [Hub.trip_eq]
  refine Hub.maySweep_aside ?_
  rw [Hub.tripDeparts_pw]
  exact PortPower.tripped_items.2.2.2.1

end

/-! ## The three rows of a trip -/

section
variable {s : State} {p : Port} {i : Instr} {cause : OffCause} {x : Nat}

theorem State.does_rampFail (ramping : (s.hub.pw p).state = .ramping)
    (late : 10000 ≤ elapsed s.hub.time ((s.hub.pw p).phaseEnd - 10000)) (low : x * 10 < s.hub.cell.supplySample * 9) :
    s.Does (.rampFail p x) (s.hub.trip p .rampFail) := by
  refine State.does_of_when (i := .rampFail p x) rfl ?_
  have due : reached s.hub.time (s.hub.pw p).phaseEnd 10000 = true := by simpa [reached, passed] using late
  simp [Hub.phaseOver, Hub.outputReaches, ramping, due, low]

theorem State.does_trip (on : (s.hub.pw p).state = .on) (above : (s.hub.pw p).limit < x) (bounded : x ≤ 2 * (s.hub.pw p).limit)
    (since : ∃ t, (s.hub.pw p).overSince = some t ∧ 2000 ≤ elapsed s.hub.time t) :
    s.Does (.trip p x) (s.hub.trip p .trip) := by
  obtain ⟨t, since, late⟩ := since
  refine State.does_of_sensed (show exec (.trip p x) s = execTrip p x s from rfl) (Hub.not_shorted_of_le bounded) ?_
  simp [Hub.excursionDue, on, since, passed, late, above]

/-- A hard short, by whichever row it is reported (log entry 32). -/
theorem State.does_hardShort (reports : i = .hardShort p x ∨ i = .trip p x ∨ i = .overcurrentRise p x ∨ i = .overcurrentFall p x)
    (on : (s.hub.pw p).state = .on) (above : 2 * (s.hub.pw p).limit < x) : s.Does i (s.hub.trip p .hardShort) := by
  have short := Hub.shorted_iff.mpr ⟨on, above⟩
  rcases reports with rfl | rfl | rfl | rfl
  · exact State.does_of_shorted (show exec (.hardShort p x) s = execHardShort p x s from rfl) short
  · exact State.does_of_shorted (show exec (.trip p x) s = execTrip p x s from rfl) short
  · exact State.does_of_shorted (show exec (.overcurrentRise p x) s = execOvercurrentRise p x s from rfl) short
  · exact State.does_of_shorted (show exec (.overcurrentFall p x) s = execOvercurrentFall p x s from rfl) short

end

/-- Settles O33: each row leaves the trip, whose departure has the consequences and whose sweep leaves them. -/
theorem tripsCoolOrLock : Obligations.TripsCoolOrLock := by
  intro s p i cause x row bounded
  have does : s.Does i (s.hub.trip p cause) := by
    rcases row with ⟨rfl, rfl, ramping, late, low⟩ | ⟨rfl, rfl, on, above, within, since⟩ | ⟨reports, rfl, on, above⟩
    · exact State.does_rampFail ramping late low
    · exact State.does_trip on above within since
    · exact State.does_hardShort reports on above
  have aside (q : Port) : (s.hub.tripDeparts p cause).Aside (s.hub.trip p cause) q := Hub.trip_aside
  have power := (aside p).pw.trans Hub.tripDeparts_pw
  obtain ⟨trips, toCause, released, unpowered, state⟩ := PortPower.tripped_items (cause := cause) (q := s.hub.pw p) (now := s.hub.time)
  have after := PortPower.tripsAfter_eq (now := s.hub.time) bounded
  have cable : (s.hub.tripDeparts p cause).cb p = s.hub.cb p := by simp only [Hub.cb, Hub.tripDeparts_cable]
  refine ⟨_, tripLocks cause ((s.hub.pw p).tripsAfter s.hub.time), does, ?_, ?_, ?_, ?_, ?_, fun cools => ?_, ?_,
    fun on history => ?_, fun off => ?_, fun q e => ?_, fun noShort noLock => ?_, fun idle => ?_⟩
  · rw [power, trips, after]
  · rw [after]
    exact tripLocks_iff bounded
  · rw [power, state]
  · rw [power, toCause]
  · rw [power, released]
  · rw [power]
    exact PortPower.tripped_of_cooldown cools
  · exact (aside p).flags.1 p _ (Hub.tripDeparts_flags rfl)
  · have pass := Hub.tripDeparts_slotsPass (h := s.hub) (p := p) (cause := cause)
    exact (Hub.tripDeparts_leftOn on history).before_aside pass.up pass.grows (aside p)
  · rw [(aside p).lk, (aside p).ln, (aside p).fr]
    exact Hub.tripDeparts_of_not_on off
  · rw [(aside q).pw, (aside q).lk, (aside q).ln, (aside q).tg, (aside q).fr]
    exact Hub.tripDeparts_other e
  · have none : tripSweep (s.hub.cb p) cause (tripLocks cause ((s.hub.pw p).tripsAfter s.hub.time)) = none := by
      simp [tripSweep, noShort, noLock]
    rw [Hub.trip_eq, none]
    exact Hub.tripDeparts_cable
  · rw [Hub.trip_eq, ← tripSweep_isSome]
    exact Hub.maySweep_swept (by rw [cable, idle]) (by rw [Hub.tripDeparts_pw, unpowered])

end Sys2Proof.Machine

/-! # Requests for a port's power (R43, R44, R54) -/

namespace Sys2Proof.Machine

/-! ## POWER_OFF (R54) -/

section
variable {h : Hub} {p : Port}

theorem Hub.powerOff_of_off (off : (h.pw p).state = .off) : h.powerOff p = h.modPower p fun q => { q with cause := .requested } := by
  simp only [Hub.powerOff, off]

theorem Hub.powerOff_of_locked (locked : (h.pw p).state = .locked) :
    h.powerOff p = (h.modPower p fun q => { q with trips := [] }).turnOff p .requested 0 := by
  simp only [Hub.powerOff, locked]

theorem Hub.powerOff_of_runs (off : (h.pw p).state ≠ .off) (locked : (h.pw p).state ≠ .locked) :
    h.powerOff p = h.turnOff p .requested 0 := by
  unfold Hub.powerOff
  split
  case h_1 e => exact absurd e off
  case h_2 e => exact absurd e locked
  case h_3 => rfl

/-- A LOCKED port is turned off as any other; its trip history is emptied first. -/
theorem Hub.turnedOff_of_locked (locked : (h.pw p).state = .locked) :
    h.TurnedOff ((h.modPower p fun q => { q with trips := [] }).turnOff p .requested 0) p .requested := by
  have turned := Hub.turnOff_turnedOff (h := h.modPower p fun q => { q with trips := [] }) (p := p) (cause := .requested) (part := 0)
  obtain ⟨state, cause, released, postponed, flag, -, still, other, units⟩ := turned
  have still := still (by simp [locked])
  refine ⟨state, cause, released, postponed, flag, fun on => ?_, fun _ => still, fun q e => ?_, units⟩
  · rw [locked] at on
    cases on
  · have same := other q e
    rwa [Hub.modPower_pw_ne _ _ _ e] at same

/-- A port that is not OFF is turned off, its trip history emptied from LOCKED alone. -/
theorem Hub.powerOff_turnedOff (off : (h.pw p).state ≠ .off) :
    h.TurnedOff (h.powerOff p) p .requested ∧ (h.powerOff p).cable = h.cable ∧ (h.powerOff p).cables = h.cables ∧
      ((h.powerOff p).pw p).trips = if (h.pw p).state = .locked then [] else (h.pw p).trips := by
  by_cases locked : (h.pw p).state = .locked
  · rw [Hub.powerOff_of_locked locked, if_pos locked]
    refine ⟨Hub.turnedOff_of_locked locked, by simp, by simp, ?_⟩
    simp [Hub.turnOff_pw]
  · rw [Hub.powerOff_of_runs off locked, if_neg locked]
    refine ⟨Hub.turnOff_turnedOff, by simp, by simp, ?_⟩
    rw [Hub.turnOff_pw]

end

/-- Settles O30: an OFF port takes the cause alone, and any other is turned off. -/
theorem powerOffActs : Obligations.PowerOffActs := by
  intro s r pkt p asked
  have answers {h' : Hub} (e : s.hub.popRequest.powerOff p = h') :
      s.Answers (.powerOff r) pkt h' (okWith (powerCode .off ++ causeCode .requested)) :=
    State.answers_forPort rfl rfl asked (by rw [e])
  refine ⟨fun off => answers (Hub.powerOff_of_off off), fun off => ⟨_, answers rfl, ?_⟩⟩
  exact Hub.powerOff_turnedOff (h := s.hub.popRequest) off

/-! ## POWER_ON (R44) -/

section
variable {h : Hub} {p : Port}

theorem Hub.powerOnStatus_of_isolated (iso : h.effectiveIso p = true) : h.powerOnStatus p = .isolated := by
  simp [Hub.powerOnStatus, iso]

theorem Hub.powerOnStatus_of_sweeping (free : h.effectiveIso p = false) (swept : (h.cb p).sweepStatus ≠ .idle) :
    h.powerOnStatus p = .sweeping := by
  simp [Hub.powerOnStatus, free, swept]

theorem Hub.powerOnStatus_of_locked (free : h.effectiveIso p = false) (idle : (h.cb p).sweepStatus = .idle)
    (locked : (h.pw p).state = .locked) : h.powerOnStatus p = .locked := by
  simp [Hub.powerOnStatus, free, idle, locked]

theorem PortPower.not_locked_of_powered {q : PortPower} (on : q.powered = true) : q.state ≠ .locked := by
  intro locked
  simp [PortPower.powered, locked] at on

theorem Hub.powerOnStatus_of_powered (free : h.effectiveIso p = false) (idle : (h.cb p).sweepStatus = .idle)
    (on : (h.pw p).powered = true) : h.powerOnStatus p = .ok := by
  simp [Hub.powerOnStatus, free, idle, PortPower.not_locked_of_powered on, on]

theorem PortPower.rests_of_off {q : PortPower} (off : q.state = .off ∨ q.state = .cooldown) :
    q.state ≠ .locked ∧ q.powered = false := by
  rcases off with e | e <;> simp [PortPower.powered, e]

/-- The sixth check, of a port that is OFF or in COOLDOWN (R39, R44). -/
theorem Hub.powerOnStatus_of_rests (free : h.effectiveIso p = false) (idle : (h.cb p).sweepStatus = .idle)
    (off : (h.pw p).state = .off ∨ (h.pw p).state = .cooldown) :
    h.powerOnStatus p = if h.grantFits p then .ok else .noBudget := by
  obtain ⟨unlocked, unpowered⟩ := PortPower.rests_of_off off
  simp [Hub.powerOnStatus, free, idle, unlocked, unpowered]

/-- A POWER_ON that enters no state leaves the hub, and answers its status with the port as it is. -/
theorem Hub.powerOn_of_stays {status : Status} (e : h.powerOnStatus p = status)
    (stays : status ≠ .ok ∨ (h.pw p).powered = true) :
    h.powerOn p = (h,
      { status := status, results := powerCode (h.pw p).state ++ causeCode (h.pw p).cause ++ u32 h.grantedTotal }) := by
  have refused : ¬ (status = .ok ∧ ¬ (h.pw p).powered = true) := fun ⟨ok, off⟩ => stays.elim (· ok) off
  simp only [Hub.powerOn, e, if_neg refused]

theorem Hub.powerOn_of_accepted (e : h.powerOnStatus p = .ok) (off : (h.pw p).powered = false) :
    h.powerOn p = (h.enterDetecting p,
      { status := .ok
        results := powerCode ((h.enterDetecting p).pw p).state ++ causeCode ((h.enterDetecting p).pw p).cause ++
          u32 (h.enterDetecting p).grantedTotal }) := by
  simp [Hub.powerOn, e, off]

end

/-- Settles O29: each check has its status, and the answer follows from the status. -/
theorem powerOnChecksInOrder : Obligations.PowerOnChecksInOrder := by
  intro s r pkt p asked reply stays
  have stay {status : Status} (e : s.hub.popRequest.powerOnStatus p = status)
      (kept : status ≠ .ok ∨ (s.hub.pw p).powered = true) : stays status :=
    State.answers_forPort rfl rfl asked (Hub.powerOn_of_stays e kept)
  refine ⟨fun iso => stay (Hub.powerOnStatus_of_isolated iso) (.inl (by decide)), fun free =>
    ⟨fun swept => stay (Hub.powerOnStatus_of_sweeping free swept) (.inl (by decide)), fun idle =>
      ⟨fun locked => stay (Hub.powerOnStatus_of_locked free idle locked) (.inl (by decide)),
        fun on => stay (Hub.powerOnStatus_of_powered free idle on) (.inr on), fun off =>
          ⟨fun short => stay ?noBudget (.inl (by decide)), fun fits => ⟨_, rfl, ?accepted⟩⟩⟩⟩⟩
  all_goals have status := Hub.powerOnStatus_of_rests (h := s.hub.popRequest) free idle off
  case noBudget =>
    have fails : s.hub.popRequest.grantFits p = false := decide_eq_false (Nat.not_le_of_lt short)
    rw [status, fails]
    rfl
  case accepted =>
    have holds : s.hub.popRequest.grantFits p = true := decide_eq_true fits
    rw [holds] at status
    exact State.answers_forPort rfl rfl asked (Hub.powerOn_of_accepted status (PortPower.rests_of_off off).2)

/-! ## PORT_POWER_SET (R43) -/

section
variable {h : Hub} {p : Port} {grant limit priority allowance : Nat}

/-- The ranges of PORT_POWER_SET (R43). -/
def portPowerInRange (grant limit priority allowance : Nat) : Prop :=
  1000 ≤ grant ∧ grant ≤ 25000 ∧ 100 ≤ limit ∧ limit ≤ 1200 ∧ priority ≤ 7 ∧ allowance ≤ 10000

theorem portPowerInRange_iff : portPowerInRange grant limit priority allowance ↔
    (within 1000 25000 grant && within 100 1200 limit && within 0 7 priority && within 0 10000 allowance) = true := by
  simp only [portPowerInRange, Bool.and_eq_true, within_iff, Nat.zero_le, true_and, and_assoc]

theorem Hub.portPowerSet_of_not_range (misses : ¬ portPowerInRange grant limit priority allowance) :
    h.portPowerSet p grant limit priority allowance = (h, refuse .range) := by
  rw [portPowerInRange_iff, Bool.not_eq_true] at misses
  rw [Hub.portPowerSet, misses]
  rfl

theorem Hub.portPowerSet_of_powered (fits : portPowerInRange grant limit priority allowance) (on : (h.pw p).powered = true) :
    h.portPowerSet p grant limit priority allowance = (h, refuse .powered) := by
  rw [Hub.portPowerSet, portPowerInRange_iff.mp fits, on]
  rfl

theorem Hub.portPowerSet_of_rests (fits : portPowerInRange grant limit priority allowance) (off : (h.pw p).powered = false) :
    h.portPowerSet p grant limit priority allowance =
      (h.modPower p fun q => { q with grant := grant, limit := limit, priority := priority, allowance := allowance },
        okWith (u16 grant ++ u16 limit ++ u8 priority ++ u16 allowance)) := by
  rw [Hub.portPowerSet, portPowerInRange_iff.mp fits, off]
  rfl

end

/-- Settles O28: the ranges, then the power state, then the four values. -/
theorem portPowerSetReplacesFour : Obligations.PortPowerSetReplacesFour := by
  intro s r pkt p g l pr a asked
  refine ⟨fun misses => State.answers_forPort rfl rfl asked (Hub.portPowerSet_of_not_range misses), fun fits =>
    ⟨fun on => State.answers_forPort rfl rfl asked (Hub.portPowerSet_of_powered fits ?_),
      fun off => State.answers_forPort rfl rfl asked (Hub.portPowerSet_of_rests fits ?_)⟩⟩
  · rcases on with e | e | e <;> simp [PortPower.powered, e]
  · rcases off with e | e | e <;> simp [PortPower.powered, e]

end Sys2Proof.Machine

/-! # The phases of camera power (R45, R46, R51, R52) -/

namespace Sys2Proof.Machine

section
variable {h : Hub} {p : Port} {load : Nat}

/-! ## The end of DETECTING (R45) -/

/-- The cause that a load out of range gives (R45). -/
def detectCause (load : Nat) : OffCause := if load < 10000 then .detectShort else .detectOpen

theorem Hub.detected_of_range (low : 10000 ≤ load) (high : load ≤ 50000000) :
    h.detected p load = (h.modPower p fun q => { q with state := .ramping, phaseEnd := h.time + 10000 }).flag p fPower := by
  simp only [Hub.detected, if_neg (Nat.not_lt_of_le low), if_neg (Nat.not_lt_of_le high)]
  rfl

/-- A load out of range turns the port off, and then brings the sweep that its settings ask for (R45, R67). -/
theorem Hub.detected_of_fault (fault : load < 10000 ∨ 50000000 < load) :
    h.detected p load =
      if (h.cb p).onDetectFail then (h.turnOff p (detectCause load) 0).autoSweep p .autoDetect
      else h.turnOff p (detectCause load) 0 := by
  have cable {cause : OffCause} : (h.turnOff p cause 0).cb p = h.cb p := by simp [Hub.cb]
  by_cases short : load < 10000
  · simp only [Hub.detected, detectCause, if_pos short, cable]
  · have high := fault.resolve_left short
    simp only [Hub.detected, detectCause, if_neg short, if_pos high, cable]

/-- A port turned off leaves the settings of its cable and its trip history (R50). -/
theorem Hub.turnOff_kept (cause : OffCause) :
    h.TurnedOff (h.turnOff p cause 0) p cause ∧ (h.turnOff p cause 0).cable = h.cable ∧
      ((h.turnOff p cause 0).pw p).trips = (h.pw p).trips :=
  ⟨Hub.turnOff_turnedOff, by simp, by rw [Hub.turnOff_pw]⟩

theorem Hub.detected_turnedOff (fault : load < 10000 ∨ 50000000 < load) (asks : (h.cb p).onDetectFail = false) :
    h.TurnedOff (h.detected p load) p (detectCause load) ∧ (h.detected p load).cable = h.cable ∧
      ((h.detected p load).pw p).trips = (h.pw p).trips := by
  rw [Hub.detected_of_fault fault, asks, if_neg Bool.false_ne_true]
  exact Hub.turnOff_kept _

/-- Where the port's settings ask for it, the idle port is queued for a sweep after it is turned off. -/
theorem Hub.detected_swept (fault : load < 10000 ∨ 50000000 < load) (asks : (h.cb p).onDetectFail = true)
    (idle : (h.cb p).sweepStatus = .idle) :
    ((h.detected p load).pw p).state = .off ∧ ((h.detected p load).pw p).cause = detectCause load ∧
      ((h.detected p load).cb p).sweepStatus ≠ .idle ∧
      ∀ q, q ≠ p → (h.detected p load).pw q = h.pw q ∧ (h.detected p load).lk q = h.lk q := by
  have idle' : ((h.turnOff p (detectCause load) 0).cb p).sweepStatus = .idle := by simpa [Hub.cb] using idle
  have off : ((h.turnOff p (detectCause load) 0).pw p).powered = false := by rw [Hub.turnOff_pw]; rfl
  rw [Hub.detected_of_fault fault, if_pos asks, Hub.autoSweep_of_off .autoDetect idle' off]
  refine ⟨?_, ?_, Hub.enqueueSweep_swept _ _, fun q e => ?_⟩
  · rw [Hub.enqueueSweep_pw, Hub.turnOff_pw]
  · rw [Hub.enqueueSweep_pw, Hub.turnOff_pw]
  · have aside := Hub.turnOff_aside (h := h) (detectCause load) 0 e
    rw [Hub.enqueueSweep_pw, Hub.enqueueSweep_lk]
    exact ⟨aside.pw, aside.lk⟩

/-! ## The output of a soft start (R46) and the end of a COOLDOWN (R51, R52) -/

/-- A port whose output is reached is ON, and its link, DOWN until then, begins to train (R17). -/
theorem Hub.rampReached_of_down (down : (h.lk p).state = .down) :
    h.rampReached p =
      ((((h.modPower p fun q => { q with state := .on, overSince := none }).flag p fPower).modLink p fun l =>
        { l with state := .training, attempt := 1, attemptStart := h.time, channel := .training trainingBytes }).flag p fLink) := by
  have link : (((h.modPower p fun q => { q with state := .on, overSince := none }).flag p fPower).lk p).state = .down := by
    simpa [Hub.lk] using down
  have time : ((h.modPower p fun q => { q with state := .on, overSince := none }).flag p fPower).time = h.time := by simp
  rw [Hub.rampReached, Hub.beginTraining, if_pos link, time]
  rfl

theorem Hub.cooldownOver_of_swept (swept : (h.cb p).sweepStatus ≠ .idle) :
    h.cooldownOver p = h.modPower p fun q => { q with postponed := true } := by
  rw [Hub.cooldownOver, if_pos swept]

theorem Hub.cooldownOver_of_fits (idle : (h.cb p).sweepStatus = .idle) (free : h.effectiveIso p = false)
    (fits : h.grantedTotal + (h.pw p).grant ≤ h.cell.budget) : h.cooldownOver p = h.enterDetecting p := by
  have fits : h.grantFits p = true := decide_eq_true fits
  simp only [Hub.cooldownOver, idle, ne_eq, not_true_eq_false, if_false, Hub.retry, free, Bool.false_eq_true, fits, if_true]

theorem Hub.cooldownOver_of_short (idle : (h.cb p).sweepStatus = .idle) (free : h.effectiveIso p = false)
    (short : h.cell.budget < h.grantedTotal + (h.pw p).grant) : h.cooldownOver p = h.turnOff p .noBudget 0 := by
  have fails : h.grantFits p = false := decide_eq_false (Nat.not_le_of_lt short)
  simp only [Hub.cooldownOver, idle, ne_eq, not_true_eq_false, if_false, Hub.retry, free, Bool.false_eq_true, fails]

end

/-! ## The rows -/

section
variable {s : State} {p : Port} {load output : Nat}

theorem State.does_detectionEnd (detecting : (s.hub.pw p).state = .detecting)
    (late : 20000 ≤ elapsed s.hub.time ((s.hub.pw p).phaseEnd - 20000)) :
    s.Does (.detectionEnd p load) (s.hub.detected p load) := by
  refine State.does_of_when (i := .detectionEnd p load) (f := fun h => h.detected p load) rfl ?_
  have due : reached s.hub.time (s.hub.pw p).phaseEnd 20000 = true := by simpa [reached, passed] using late
  simp [Hub.phaseOver, detecting, due]

theorem State.does_rampOutputReached (ramping : (s.hub.pw p).state = .ramping) (reaches : s.hub.cell.supplySample * 9 ≤ output * 10) :
    s.Does (.rampOutputReached p output) (s.hub.rampReached p) := by
  refine State.does_of_when (i := .rampOutputReached p output) (f := fun h => h.rampReached p) rfl ?_
  simp [Hub.outputReaches, ramping, reaches]

theorem State.does_cooldownEnd (cooling : (s.hub.pw p).state = .cooldown) (waits : (s.hub.pw p).postponed = false)
    (late : 500000 ≤ elapsed s.hub.time ((s.hub.pw p).cooldownEnd - 500000)) :
    s.Does (.cooldownEnd p) (s.hub.cooldownOver p) := by
  refine State.does_of_when (i := .cooldownEnd p) (f := fun h => h.cooldownOver p) rfl ?_
  have due : reached s.hub.time (s.hub.pw p).cooldownEnd 500000 = true := by simpa [reached, passed] using late
  simp [Hub.cooldownDue, cooling, waits, due]

end

/-- Settles O31: each row acts in its own state once its time has come, and the owner's equations say what it leaves. -/
theorem powerPhasesEnd : Obligations.PowerPhasesEnd := by
  intro s p load output
  refine ⟨fun detecting late => ?detected, fun ramping reaches down => ?ramped, fun cooling waits late => ?cooled⟩
  case detected =>
    have does : s.Does (.detectionEnd p load) (s.hub.detected p load) := State.does_detectionEnd detecting late
    refine ⟨fun low high => Hub.detected_of_range low high ▸ does, fun asks => ⟨fun short => ?_, fun high => ?_⟩,
      fun asks idle fault => ⟨_, does, Hub.detected_swept fault asks idle⟩⟩
    · have cause : detectCause load = .detectShort := if_pos short
      exact ⟨_, does, cause ▸ Hub.detected_turnedOff (.inl short) asks⟩
    · have cause : detectCause load = .detectOpen := if_neg (by omega)
      exact ⟨_, does, cause ▸ Hub.detected_turnedOff (.inr high) asks⟩
  case ramped =>
    rw [← Hub.rampReached_of_down down]
    exact State.does_rampOutputReached ramping reaches
  case cooled =>
    have does := State.does_cooldownEnd cooling waits late
    refine ⟨fun swept => Hub.cooldownOver_of_swept swept ▸ does, fun idle free => ⟨fun fits => ?_, fun short => ?_⟩⟩
    · rw [Hub.cooldownOver_of_fits idle free fits] at does
      exact does
    · rw [Hub.cooldownOver_of_short idle free short] at does
      exact ⟨_, does, Hub.turnOff_kept .noBudget⟩

end Sys2Proof.Machine

/-! # The reset state -/

namespace Sys2Proof.Machine

section
variable (h : Hub)

theorem Hub.coldReset_triggersBalance : h.coldReset.TriggersBalance := fun p => by
  simp [PortTrigger.Balanced, Hand.outstandingOne, Hand.deferredOne]

theorem Hub.coldReset_sweepsHold : h.coldReset.SweepsHold := by
  simp [Hub.SweepsHold]

theorem Hub.coldReset_lensesInTravel : h.coldReset.LensesInTravel := fun p x => by
  simp [Axis.InTravel]

theorem Hub.coldReset_queuesBounded : h.coldReset.QueuesBounded := by
  simp [Hub.QueuesBounded, Hub.KeptReplies, occupancy]

theorem Hub.coldReset_framesHold : h.coldReset.FramesHold := by
  simp [Hub.FramesHold, PortFrames.Placed, ringsOverlap, PortFrames.heldCount]

theorem Hub.coldReset_workHolds : h.coldReset.WorkHolds := fun p => by
  simp

end

/-- Settles O15: the reset state's hub is as a cold reset leaves it, and a cold reset meets each law. -/
theorem resetMeetsEveryLaw : Obligations.ResetMeetsEveryLaw := by
  refine ⟨rfl, ?_⟩
  rw [State.reset_eq_coldReset]
  obtain ⟨faults, isolation⟩ := State.reset.hub.coldReset_laws
  obtain ⟨budget, admission⟩ := State.reset.hub.coldReset_totalsHold
  exact ⟨Hub.coldReset_triggersBalance _, budget, isolation, faults, Hub.coldReset_linksHold _, Hub.coldReset_sweepsHold _,
    Hub.coldReset_lensesInTravel _, Hub.coldReset_queuesBounded _, Hub.coldReset_framesHold _, Hub.coldReset_workHolds _, admission⟩

end Sys2Proof.Machine

/-! # The sweep queue and the engines (R65 to R68): what each operation leaves -/

namespace Sys2Proof.Machine

section
variable {h : Hub} {p : Port} {e : EngineNo}

@[simp] theorem Hub.setEngine_engine_same (x : Option SweepContext) : (h.setEngine e x).engine e = x := vget_vset_same _ _ _

theorem Hub.setEngine_engine_ne (x : Option SweepContext) {n : EngineNo} (other : n ≠ e) :
    (h.setEngine e x).engine n = h.engine n := vget_vset_ne _ _ other

theorem Hub.setEngine_engine (x : Option SweepContext) (n : EngineNo) :
    (h.setEngine e x).engine n = if n = e then x else h.engine n := vget_vset _ _ _ _

@[simp] theorem Hub.setEngine_queue (x : Option SweepContext) : (h.setEngine e x).cables.queue = h.cables.queue := rfl
@[simp] theorem Hub.setEngine_faults (x : Option SweepContext) : (h.setEngine e x).cables.faults = h.cables.faults := rfl
@[simp] theorem Hub.setEngine_nextRecord (x : Option SweepContext) : (h.setEngine e x).cables.nextRecord = h.cables.nextRecord := rfl
@[simp] theorem Hub.setEngine_cb (x : Option SweepContext) : (h.setEngine e x).cb p = h.cb p := rfl
@[simp] theorem Hub.modCable_engine (f : PortCable → PortCable) : (h.modCable p f).engine e = h.engine e := rfl

/-- An engine that is not IDLE takes nothing. -/
theorem Hub.engineTakes_of_busy (busy : h.engine e ≠ none) : h.engineTakes e = h := by
  unfold Hub.engineTakes
  split
  case h_1 idle _ => exact absurd idle busy
  case h_2 => rfl

/-- An engine takes nothing from an empty queue. -/
theorem Hub.engineTakes_of_nil (empty : h.cables.queue = []) : h.engineTakes e = h := by
  unfold Hub.engineTakes
  split
  case h_1 head => rw [empty] at head; cases head
  case h_2 => rfl

/-- An IDLE engine takes the head of the queue (R68). -/
theorem Hub.engineTakes_of_head {q : SweepEntry} {rest : List SweepEntry} (idle : h.engine e = none)
    (head : h.cables.queue = q :: rest) :
    h.engineTakes e = ((h.modCables fun c => { c with queue := rest }).setEngine e (some (h.sweepContext q))).modCable q.port
      fun c => { c with sweepStatus := .running } := by
  simp only [Hub.engineTakes, idle, head]

/-- An engine takes nothing, or it was IDLE and takes the head of the queue. -/
theorem Hub.engineTakes_cases (h : Hub) (e : EngineNo) : h.engineTakes e = h ∨
    ∃ q rest, h.engine e = none ∧ h.cables.queue = q :: rest ∧
      h.engineTakes e = ((h.modCables fun c => { c with queue := rest }).setEngine e (some (h.sweepContext q))).modCable q.port
        fun c => { c with sweepStatus := .running } := by
  cases engine : h.engine e with
  | some c => exact .inl (Hub.engineTakes_of_busy (by simp [engine]))
  | none =>
    cases queue : h.cables.queue with
    | nil => exact .inl (Hub.engineTakes_of_nil queue)
    | cons q rest => exact .inr ⟨q, rest, rfl, rfl, Hub.engineTakes_of_head engine queue⟩

/-- The queue keeps its order, its head gone where an engine took it. -/
theorem Hub.engineTakes_queue (h : Hub) (e : EngineNo) : (h.engineTakes e).cables.queue <:+ h.cables.queue := by
  rcases h.engineTakes_cases e with same | ⟨q, rest, -, head, took⟩
  · rw [same]
  · rw [took, head]
    exact List.suffix_cons q rest

@[simp] theorem Hub.engineTakes_faults (h : Hub) (e : EngineNo) :
    (h.engineTakes e).cables.faults = h.cables.faults ∧ (h.engineTakes e).cables.nextRecord = h.cables.nextRecord := by
  rcases h.engineTakes_cases e with same | ⟨q, rest, -, -, took⟩
  · rw [same]; exact ⟨rfl, rfl⟩
  · rw [took]; exact ⟨rfl, rfl⟩

/-- A port that is not in the queue keeps its cable items. -/
theorem Hub.engineTakes_cb (apart : p ∉ h.cables.queue.map (·.port)) : (h.engineTakes e).cb p = h.cb p := by
  rcases h.engineTakes_cases e with same | ⟨q, rest, -, head, took⟩
  · rw [same]
  · have other : p ≠ q.port := fun same => apart (by simp [head, same])
    rw [took, Hub.modCable_cb_ne _ _ _ other]
    rfl

@[simp] theorem Hub.offerEngines_faults (h : Hub) :
    h.offerEngines.cables.faults = h.cables.faults ∧ h.offerEngines.cables.nextRecord = h.cables.nextRecord := by
  simp [Hub.offerEngines]

theorem Hub.offerEngines_cb (apart : p ∉ h.cables.queue.map (·.port)) : h.offerEngines.cb p = h.cb p := by
  have later : p ∉ (h.engineTakes 0).cables.queue.map (·.port) := fun m =>
    apart (((h.engineTakes_queue 0).map (·.port)).subset m)
  rw [Hub.offerEngines, Hub.engineTakes_cb later, Hub.engineTakes_cb apart]

theorem Hub.offerEngines_of_nil (empty : h.cables.queue = []) : h.offerEngines = h := by
  rw [Hub.offerEngines, Hub.engineTakes_of_nil empty, Hub.engineTakes_of_nil empty]

theorem Hub.offerEngines_of_busy (busy : ∀ n, h.engine n ≠ none) : h.offerEngines = h := by
  rw [Hub.offerEngines, Hub.engineTakes_of_busy (busy 0), Hub.engineTakes_of_busy (busy 1)]

/-- An engine has one of two numbers. -/
theorem EngineNo.eq_zero_or_one (n : EngineNo) : n = 0 ∨ n = 1 := by revert n; decide

end

end Sys2Proof.Machine

/-! # Sweeps keep their places (R65, R68): the law of the queue and the engines, the law at one port, and what keeps both -/

namespace Sys2Proof.Machine

/-! ## The laws, and the relation that keeps them -/

/-- The port that an engine sweeps. -/
def Hub.sweeps (h : Hub) (e : EngineNo) : Option Port := (h.engine e).map (·.port)

/-- The queue, the engines and the sweep statuses agree (R65): every port stands once in the queue, or in one engine, and its
status says which. -/
structure Hub.PlacesAgree (h : Hub) : Prop where
  once : (h.cables.queue.map (·.port)).Nodup
  queued : ∀ p, (h.cb p).sweepStatus = .queued ↔ p ∈ h.cables.queue.map (·.port)
  running : ∀ p, (h.cb p).sweepStatus = .running ↔ ∃ e, h.sweeps e = some p
  apart : ∀ e n p, h.sweeps e = some p → h.sweeps n = some p → e = n

/-- The law at one port: a link that is not DOWN has its port ON, and a port that is swept or waits for its sweep is not
powered (R20, R68). -/
structure Hub.SweepsAlone (h : Hub) (p : Port) : Prop where
  link : (h.lk p).state ≠ .down → (h.pw p).state = .on
  swept : (h.cb p).sweepStatus ≠ .idle → (h.pw p).powered = false

theorem Hub.sweeps_eq_some {h : Hub} {e : EngineNo} {p : Port} : h.sweeps e = some p ↔ ∃ c, h.engine e = some c ∧ c.port = p := by
  simp [Hub.sweeps]

theorem Hub.sweepsHold_iff (h : Hub) : h.SweepsHold ↔ h.PlacesAgree ∧ ∀ p, h.SweepsAlone p := by
  constructor
  · rintro ⟨once, queued, running, apart, link, swept⟩
    refine ⟨⟨once, queued, fun p => ?_, fun e n p first second => ?_⟩, fun p => ⟨link p, swept p⟩⟩
    · simp only [running, Hub.sweeps_eq_some]
    · obtain ⟨c, hc, rfl⟩ := Hub.sweeps_eq_some.mp first
      obtain ⟨d, hd, same⟩ := Hub.sweeps_eq_some.mp second
      rcases EngineNo.eq_zero_or_one e with rfl | rfl <;> rcases EngineNo.eq_zero_or_one n with rfl | rfl
      · rfl
      · exact absurd same.symm (apart c d hc hd)
      · exact absurd same (apart d c hd hc)
      · rfl
  · rintro ⟨⟨once, queued, running, apart⟩, alone⟩
    refine ⟨once, queued, fun p => ?_, fun c d hc hd same => ?_, fun p => (alone p).link, fun p => (alone p).swept⟩
    · simp only [running, Hub.sweeps_eq_some]
    · exact absurd (apart 0 1 c.port (Hub.sweeps_eq_some.mpr ⟨c, hc, rfl⟩) (Hub.sweeps_eq_some.mpr ⟨d, hd, same.symm⟩)) (by decide)

/-- From h to h', no sweep has changed its place, and every port keeps its law. -/
structure Hub.SweepsKept (h h' : Hub) : Prop where
  queue : h'.cables.queue = h.cables.queue
  sweeps : ∀ e, h'.sweeps e = h.sweeps e
  status : ∀ p, (h'.cb p).sweepStatus = (h.cb p).sweepStatus
  alone : ∀ p, h.SweepsAlone p → h'.SweepsAlone p

theorem Hub.SweepsKept.trans {a b c : Hub} (h : a.SweepsKept b) (k : b.SweepsKept c) : a.SweepsKept c where
  queue := k.queue.trans h.queue
  sweeps e := (k.sweeps e).trans (h.sweeps e)
  status p := (k.status p).trans (h.status p)
  alone p l := k.alone p (h.alone p l)

theorem Hub.SweepsKept.holds {h h' : Hub} (k : h.SweepsKept h') (l : h.SweepsHold) : h'.SweepsHold := by
  obtain ⟨⟨once, queued, running, apart⟩, alone⟩ := h.sweepsHold_iff.mp l
  refine h'.sweepsHold_iff.mpr ⟨⟨?_, ?_, ?_, ?_⟩, fun p => k.alone p (alone p)⟩
  · rwa [k.queue]
  · simpa only [k.queue, k.status] using queued
  · simpa only [k.sweeps, k.status] using running
  · simpa only [k.sweeps] using apart

/-- The Cable Test Unit has not changed, and of the ports' power and link items one port's alone. -/
theorem Hub.SweepsKept.of_port {h h' : Hub} {p : Port} (units : h'.cable = h.cable ∧ h'.cables = h.cables)
    (other : ∀ q, q ≠ p → h'.pw q = h.pw q ∧ h'.lk q = h.lk q) (own : h.SweepsAlone p → h'.SweepsAlone p) : h.SweepsKept h' := by
  obtain ⟨cable, cables⟩ := units
  have status (q : Port) : h'.cb q = h.cb q := by simp only [Hub.cb, cable]
  refine ⟨by rw [cables], fun e => by simp only [Hub.sweeps, Hub.engine, cables], fun q => by rw [status], fun q l => ?_⟩
  by_cases e : q = p
  · subst e; exact own l
  · obtain ⟨power, link⟩ := other q e
    exact ⟨by rw [power, link]; exact l.link, by rw [power, status]; exact l.swept⟩

/-- The units that the laws read. -/
def Hub.sweepItems (h : Hub) : Vector PortPower 8 × Vector LinkCtl 8 × Vector PortCable 8 × CableUnit :=
  (h.power, h.link, h.cable, h.cables)

theorem Hub.SweepsKept.of_items {h h' : Hub} (e : h'.sweepItems = h.sweepItems) : h.SweepsKept h' := by
  simp only [Hub.sweepItems, Prod.mk.injEq] at e
  obtain ⟨power, link, cable, cables⟩ := e
  have port (q : Port) : h'.pw q = h.pw q ∧ h'.lk q = h.lk q := by simp only [Hub.pw, Hub.lk, power, link, and_self]
  exact .of_port (p := 0) ⟨cable, cables⟩ (fun q _ => port q)
    fun l => ⟨by rw [(port 0).1, (port 0).2]; exact l.link, by rw [(port 0).1, Hub.cb, cable]; exact l.swept⟩

theorem Hub.SweepsKept.refl (h : Hub) : h.SweepsKept h := .of_items rfl

/-- Power states and the Cable Test Unit are as they were, and no link has left DOWN. -/
theorem Hub.SweepsKept.of_states {h h' : Hub} (units : h'.cable = h.cable ∧ h'.cables = h.cables)
    (power : ∀ q, (h'.pw q).state = (h.pw q).state) (down : ∀ q, (h.lk q).state = .down → (h'.lk q).state = .down) :
    h.SweepsKept h' := by
  obtain ⟨cable, cables⟩ := units
  refine ⟨by rw [cables], fun e => by simp only [Hub.sweeps, Hub.engine, cables], fun q => by simp only [Hub.cb, cable],
    fun q l => ⟨fun up => ?_, fun swept => ?_⟩⟩
  · rw [power]
    exact l.link fun e => up (down q e)
  · have swept : (h.cb q).sweepStatus ≠ .idle := by simpa only [Hub.cb, cable] using swept
    simpa only [PortPower.powered, power] using l.swept swept

/-- What keeps isolation's units and the law of links keeps sweeps in their places. -/
theorem Hub.SweepsKept.of_iso {h h' : Hub} (items : h'.isoItems = h.isoItems) (k : h.LinksKept h') : h.SweepsKept h' := by
  simp only [Hub.isoItems, Prod.mk.injEq] at items
  obtain ⟨-, power, cable, cables⟩ := items
  exact .of_states ⟨cable, cables⟩ (fun q => by simp only [Hub.pw, power]) fun q => (k.port q).down

/-- The same where the port's allowance may have been released. -/
theorem Hub.SweepsKept.of_powerKept {h h' : Hub} {p : Port} (units : h'.cable = h.cable ∧ h'.cables = h.cables)
    (other : ∀ q, q ≠ p → vget h'.power q = vget h.power q) (own : PowerKept (h.pw p) (h'.pw p)) (k : h.LinksKept h') :
    h.SweepsKept h' := by
  refine .of_states units (fun q => ?_) fun q => (k.port q).down
  by_cases e : q = p
  · subst e; exact own.state
  · simp only [Hub.pw, other q e]

/-! ## The updates of one unit -/

section
variable {h : Hub} {p : Port}

theorem Hub.SweepsKept.modPower {f : PortPower → PortPower}
    (own : h.SweepsAlone p → ((h.lk p).state ≠ .down → (f (h.pw p)).state = .on) ∧
      ((h.cb p).sweepStatus ≠ .idle → (f (h.pw p)).powered = false)) : h.SweepsKept (h.modPower p f) :=
  .of_port (p := p) ⟨rfl, rfl⟩ (fun q e => by simp [Hub.modPower_pw_ne, e])
    fun l => ⟨by simpa using (own l).1, by simpa using (own l).2⟩

/-- Power items other than the state change. -/
theorem Hub.SweepsKept.modPower_of_state {f : PortPower → PortPower} (same : (f (h.pw p)).state = (h.pw p).state) :
    h.SweepsKept (h.modPower p f) :=
  .modPower fun l => ⟨by rw [same]; exact l.link, by simpa only [PortPower.powered, same] using l.swept⟩

theorem Hub.SweepsKept.modLink {f : LinkCtl → LinkCtl}
    (own : ((h.lk p).state ≠ .down → (h.pw p).state = .on) → (f (h.lk p)).state ≠ .down → (h.pw p).state = .on) :
    h.SweepsKept (h.modLink p f) :=
  .of_port (p := p) ⟨rfl, rfl⟩ (fun q e => by simp [Hub.modLink_lk_ne, e])
    fun l => ⟨by simpa using own l.link, l.swept⟩

/-- Link items other than the state change. -/
theorem Hub.SweepsKept.modLink_of_state {f : LinkCtl → LinkCtl} (same : (f (h.lk p)).state = (h.lk p).state) :
    h.SweepsKept (h.modLink p f) := .modLink fun l => by rwa [same]

/-- Cable items other than the sweep status change. -/
theorem Hub.SweepsKept.modCable {f : PortCable → PortCable} (same : (f (h.cb p)).sweepStatus = (h.cb p).sweepStatus) :
    h.SweepsKept (h.modCable p f) := by
  have status (q : Port) : ((h.modCable p f).cb q).sweepStatus = (h.cb q).sweepStatus := by
    rw [Hub.modCable_cb]
    split
    case isTrue e => rw [same, e]
    case isFalse => rfl
  exact ⟨rfl, fun _ => rfl, status, fun q l => ⟨l.link, by rw [status]; exact l.swept⟩⟩

/-- Items of the Cable Test Unit other than the queue and the engines change. -/
theorem Hub.SweepsKept.modCables {f : CableUnit → CableUnit} (queue : (f h.cables).queue = h.cables.queue)
    (engines : (f h.cables).engines = h.cables.engines) : h.SweepsKept (h.modCables f) :=
  ⟨queue, fun e => by simp [Hub.sweeps, Hub.engine, engines], fun _ => rfl, fun _ l => ⟨l.link, l.swept⟩⟩

/-- An engine goes on with the sweep of its port. -/
theorem Hub.SweepsKept.setEngine {e : EngineNo} {c c' : SweepContext} (runs : h.engine e = some c) (same : c'.port = c.port) :
    h.SweepsKept (h.setEngine e (some c')) := by
  refine ⟨rfl, fun n => ?_, fun _ => rfl, fun _ l => ⟨l.link, l.swept⟩⟩
  by_cases other : n = e
  · subst other; simp [Hub.sweeps, runs, same]
  · simp only [Hub.sweeps, Hub.setEngine_engine_ne _ other]

end

theorem Hub.raise_sweepsKept (h : Hub) (p : Port) (port part : BitVec 16) : h.SweepsKept (h.raise p port part) :=
  .of_items (by simp [Hub.sweepItems])

theorem Hub.flag_sweepsKept (h : Hub) (p : Port) (f : BitVec 16) : h.SweepsKept (h.flag p f) := h.raise_sweepsKept p f 0

/-! ## Reports, completions and message boundaries -/

section
variable {h : Hub} {p : Port}

theorem Hub.reportIdle_sweepsKept (h : Hub) (p : Port) : h.SweepsKept (h.reportIdle p) :=
  .of_powerKept (by simp) (fun q e => by simp [e]) (h.reportIdle_kept p) (h.reportIdle_linksKept p)

theorem Hub.completeCommand_sweepsKept (h : Hub) (p : Port) (c : Command) (how : Completion) :
    h.SweepsKept (h.completeCommand p c how) :=
  .of_powerKept (by simp) (fun q e => by simp [e]) (h.completeCommand_kept p c how) (h.completeCommand_linksKept p c how)

theorem Hub.linkError_sweepsKept (h : Hub) (p : Port) : h.SweepsKept (h.linkError p) :=
  .of_iso (by simp [Hub.isoItems]) (h.linkError_linksKept p)

theorem Hub.modLink_pump_sweepsKept (h : Hub) (p : Port) : h.SweepsKept (h.modLink p LinkCtl.pump) :=
  .modLink_of_state (LinkCtl.pump_state _)

theorem Hub.ackTaken_sweepsKept (h : Hub) (p : Port) (sequence : Bool) : h.SweepsKept (h.ackTaken p sequence) := by
  unfold Hub.ackTaken
  dsimp only
  split
  · split
    · exact (Hub.SweepsKept.trans (.modLink_of_state rfl) (Hub.completeCommand_sweepsKept _ p _ _)).trans
        (Hub.modLink_pump_sweepsKept _ p)
    · exact .modLink_of_state rfl
  · exact .modLink_of_state rfl

theorem Hub.waitOver_sweepsKept (h : Hub) (p : Port) : h.SweepsKept (h.waitOver p) := by
  unfold Hub.waitOver
  dsimp only
  split
  · exact .refl h
  · split
    · exact .modLink_of_state (LinkCtl.sendHead_state _ true)
    · exact ((Hub.SweepsKept.trans (.modLink_of_state rfl) (Hub.completeCommand_sweepsKept _ p _ _)).trans
        (Hub.linkError_sweepsKept _ p)).trans (Hub.modLink_pump_sweepsKept _ p)

theorem Hub.boundary_sweepsKept (h : Hub) (p : Port) : h.SweepsKept (h.boundary p) := by
  unfold Hub.boundary
  dsimp only
  split
  · exact .refl h
  · split
    · exact h.waitOver_sweepsKept p
    · split
      · exact (h.modLink_pump_sweepsKept p).trans (Hub.waitOver_sweepsKept _ p)
      · exact h.modLink_pump_sweepsKept p

theorem Hub.messageSent_sweepsKept (h : Hub) (p : Port) : h.SweepsKept (h.messageSent p) := by
  unfold Hub.messageSent
  split
  · exact Hub.SweepsKept.trans (.modLink_of_state rfl) (Hub.boundary_sweepsKept _ p)
  · exact Hub.SweepsKept.trans (.modLink_of_state rfl) (Hub.boundary_sweepsKept _ p)
  · exact .refl h

theorem Hub.waitEnds_sweepsKept (h : Hub) (p : Port) : h.SweepsKept (h.waitEnds p) :=
  Hub.SweepsKept.trans (.modLink_of_state rfl) (Hub.boundary_sweepsKept _ p)

/-! ## Lens reports and commands -/

/-- A change of the lens with its flag and the report. -/
theorem Hub.ended_sweepsKept {h h' : Hub} (p : Port) (f : BitVec 16) (e : h'.sweepItems = h.sweepItems) :
    h.SweepsKept ((h'.flag p f).reportIdle p) :=
  ((Hub.SweepsKept.of_items e).trans (Hub.flag_sweepsKept _ p f)).trans (Hub.reportIdle_sweepsKept _ p)

theorem Hub.lensReport_sweepsKept (h : Hub) (p : Port) (axis position kind : Nat) :
    h.SweepsKept (h.lensReport p axis position kind) := by
  have ignored (late : Bool) : h.SweepsKept (h.ignoreReport p late) := .of_items rfl
  unfold Hub.lensReport
  dsimp only
  split
  · exact ignored false
  · split
    · exact ignored false
    · split
      · exact ignored false
      · split
        · exact ignored true
        · split
          · exact ignored false
          · split
            · exact ignored false
            · exact Hub.ended_sweepsKept p _ rfl

theorem Hub.axisTimeout_sweepsKept (h : Hub) (p : Port) (x : AxisId) : h.SweepsKept (h.axisTimeout p x) :=
  Hub.ended_sweepsKept p _ rfl

theorem Hub.modAxis_sweepsKept (h : Hub) (p : Port) (x : AxisId) (f : Axis → Axis) : h.SweepsKept (h.modAxis p x f) := .of_items rfl

theorem Hub.queueCommand_sweepsKept (h : Hub) (p : Port) (isAttr : Bool) (mk : BitVec 8 → Command) :
    h.SweepsKept (h.queueCommand p isAttr mk) := .modLink_of_state (LinkCtl.pump_state _)

theorem Hub.lensCommand_sweepsKept (h : Hub) (p : Port) (c : Command) : h.SweepsKept (h.lensCommand p c).1 := by
  have held : h.SweepsKept (h.holdAllowance p) := .modPower_of_state rfl
  unfold Hub.lensCommand
  split
  · split
    · exact h.queueCommand_sweepsKept p false fun _ => c
    · exact .refl h
  · split
    · split
      · exact held.trans (Hub.queueCommand_sweepsKept _ p false fun _ => c)
      · exact held.trans (Hub.reportIdle_sweepsKept _ p)
    · exact .refl h

theorem Hub.homeAxis_sweepsKept (h : Hub) (p : Port) (x : AxisId) : h.SweepsKept (h.homeAxis p x).1 := by
  have sent := h.lensCommand_sweepsKept p (.lensHome x)
  unfold Hub.homeAxis
  dsimp only
  split
  · exact .refl h
  · split
    · exact .refl h
    · split
      · exact .refl h
      · split
        · exact sent
        · exact sent.trans (Hub.modAxis_sweepsKept _ p x _)

theorem Hub.lensHome_sweepsKept (h : Hub) (p : Port) (axis : Nat) : h.SweepsKept (h.lensHome p axis).1 := by
  unfold Hub.lensHome
  split
  · exact .refl h
  · exact h.homeAxis_sweepsKept p _

theorem Hub.sendMove_sweepsKept (h : Hub) (p : Port) (x : AxisId) (target : Nat) (status : Status) (f : Axis → Axis) :
    h.SweepsKept (h.sendMove p x target status f).1 := by
  have sent := h.lensCommand_sweepsKept p (.lensMove x target)
  unfold Hub.sendMove
  dsimp only
  split
  · exact sent
  · exact sent.trans (Hub.modAxis_sweepsKept _ p x f)

theorem Hub.moveAxis_sweepsKept (h : Hub) (p : Port) (x : AxisId) (wanted : Nat) : h.SweepsKept (h.moveAxis p x wanted).1 := by
  unfold Hub.moveAxis
  dsimp only
  split
  · exact .refl h
  · split
    · exact .refl h
    · split
      case h_1 | h_2 | h_3 => exact .refl h
      case h_4 | h_5 =>
        split
        · exact .refl h
        · exact h.sendMove_sweepsKept p x _ _ _

theorem Hub.lensMove_sweepsKept (h : Hub) (p : Port) (axis target : Nat) : h.SweepsKept (h.lensMove p axis target).1 := by
  unfold Hub.lensMove
  split
  · exact .refl h
  · exact h.moveAxis_sweepsKept p _ target

theorem Hub.stopAxis_sweepsKept (h : Hub) (p : Port) (x : AxisId) : h.SweepsKept (h.stopAxis p x).1 := by
  have sent := h.lensCommand_sweepsKept p (.lensStop x)
  unfold Hub.stopAxis
  dsimp only
  split
  · exact .refl h
  · split
    · exact .refl h
    · split
      · exact sent
      · exact sent.trans (Hub.modAxis_sweepsKept _ p x _)

theorem Hub.lensStop_sweepsKept (h : Hub) (p : Port) (axis : Nat) : h.SweepsKept (h.lensStop p axis).1 := by
  unfold Hub.lensStop
  split
  · exact .refl h
  · exact h.stopAxis_sweepsKept p _

theorem Hub.lensFocusDistance_sweepsKept (h : Hub) (p : Port) (d : Nat) : h.SweepsKept (h.lensFocusDistance p d).1 := by
  unfold Hub.lensFocusDistance
  dsimp only
  split
  · exact .refl h
  · split
    · exact .refl h
    · split
      · exact .refl h
      · split
        · exact .refl h
        · split
          · exact .refl h
          · exact h.moveAxis_sweepsKept p .focus _

/-! ## Triggers, slots and the trunk -/

/-- A trigger fired may put a message on its port's channel; the link's state stays. -/
theorem Hub.fire_lk_state (h : Hub) (p q : Port) : ((h.fire p).1.lk q).state = (h.lk q).state := by
  by_cases e : q = p
  · subst e
    unfold Hub.fire Hub.sendTrigger
    dsimp only
    (repeat' split) <;> simp [Hub.lk, LinkCtl.offerTrigger_state]
  · simp [Hub.lk, e]

theorem Hub.fire_sweepsKept (h : Hub) (p : Port) : h.SweepsKept (h.fire p).1 :=
  .of_states (by simp) (fun q => by simp [Hub.pw]) fun q down => by rw [Hub.fire_lk_state, down]

theorem foldl_sweepsKept {α : Type} {f : Hub → α → Hub} (one : ∀ (x : α) (h : Hub), h.SweepsKept (f h x)) :
    ∀ (xs : List α) (h : Hub), h.SweepsKept (xs.foldl f h)
  | [], h => .refl h
  | x :: xs, h => (one x h).trans (foldl_sweepsKept one xs _)

theorem Hub.fireAll_sweepsKept : ∀ (ps : List Port) (h : Hub), h.SweepsKept (h.fireAll ps).1
  | [], h => .refl h
  | p :: ps, h => (h.fire_sweepsKept p).trans (Hub.fireAll_sweepsKept ps _)

theorem Hub.triggerSoft_sweepsKept (h : Hub) (mask : Nat) : h.SweepsKept (h.triggerSoft mask).1 := by
  unfold Hub.triggerSoft
  dsimp only
  split
  · exact .refl h
  · exact Hub.fireAll_sweepsKept _ h

theorem Hub.offerStep_sweepsKept (h : Hub) (forward : Bool) (p : Port) : h.SweepsKept (h.offerStep forward p) := by
  have marked {f : PortTrigger → PortTrigger} : h.SweepsKept (h.modTrig p f) := .of_items rfl
  unfold Hub.offerStep
  dsimp only
  split
  · exact marked.trans (Hub.fire_sweepsKept _ p)
  · exact .refl h

theorem Hub.encoderStep_sweepsKept (h : Hub) (a b : Bool) : h.SweepsKept (h.encoderStep a b) := by
  have turned (e : Encoder) : h.SweepsKept { h with encoder := e } := .of_items rfl
  unfold Hub.encoderStep
  dsimp only
  split
  · exact turned _
  · split
    · exact turned _
    · exact (turned _).trans (foldl_sweepsKept (fun p h => h.offerStep_sweepsKept _ p) allPorts _)

theorem Hub.fireLine_sweepsKept (h : Hub) (n : LineNo) : h.SweepsKept (h.fireLine n) := by
  refine foldl_sweepsKept (fun p h => ?_) allPorts h
  split
  · exact h.fire_sweepsKept p
  · exact .refl h

theorem Hub.passThrough_sweepsKept (h : Hub) (p : Port) (tag : BitVec 16) (kind : PassKind) (count : Nat)
    (mk : SlotNo → BitVec 8 → Command) : h.SweepsKept (h.passThrough p tag kind count mk).1 := by
  unfold Hub.passThrough
  split
  · exact .refl h
  · split
    · exact .refl h
    · split
      · exact .refl h
      · exact (h.queueCommand_sweepsKept p true _).trans (.of_items rfl)

theorem Hub.trunkReturns_sweepsKept (h : Hub) (m : Memory) : h.SweepsKept (h.trunkReturns m) := by
  unfold Hub.trunkReturns
  refine Hub.SweepsKept.trans ?_ (foldl_sweepsKept (fun p _ => .of_items (by simp [Hub.sweepItems])) allPorts _)
  exact .of_items (by simp [Hub.sweepItems])

theorem Hub.trunkLost_sweepsHold (h : Hub) (m : Memory) (l : h.SweepsHold) : (h.trunkLost m).SweepsHold := by
  have lost (h : Hub) (p : Port) : h.SweepsKept (h.pipeTrunkLost m p) :=
    .of_iso (h.pipeTrunkLost_isoItems m p) (Hub.pipeTrunkLost_linksKept m p)
  have closed : h.SweepsKept (allPorts.foldl Hub.closesLost h) :=
    foldl_sweepsKept (fun _ _ => .of_items (by simp [Hub.sweepItems])) allPorts h
  have offered : h.SweepsKept ((allPorts.foldl Hub.closesLost h).modTrunk Trunk.lose).offerDue :=
    closed.trans (.of_items (by simp [Hub.sweepItems]))
  unfold Hub.trunkLost
  dsimp only
  split
  · exact Hub.coldReset_sweepsHold _
  · exact (offered.trans (foldl_sweepsKept (fun p h => lost h p) allPorts _)).holds l

theorem Hub.sendEnd_sweepsHold (h : Hub) (m : Memory) (l : h.SweepsHold) : (h.sendEnd m).SweepsHold := by
  unfold Hub.sendEnd
  split
  · exact l
  · dsimp only
    split
    · exact Hub.coldReset_sweepsHold _
    · split
      · exact l
      · split
        · exact l
        · refine Hub.SweepsKept.holds ?_ l
          exact .of_items (by simp [Hub.sweepItems])

end

end Sys2Proof.Machine

/-! # The operations that change power, or move sweeps -/

namespace Sys2Proof.Machine

/-! ## Drops and departures from ON -/

section
variable {h : Hub} {p : Port}

/-- A port that is not powered with its link DOWN meets the law, swept or not. -/
theorem Hub.SweepsAlone.of_off (down : (h.lk p).state = .down) (off : (h.pw p).powered = false) : h.SweepsAlone p :=
  ⟨fun up => absurd down up, fun _ => off⟩

/-- A powered port is not swept (R68). -/
theorem Hub.SweepsAlone.idle (l : h.SweepsAlone p) (on : (h.pw p).powered = true) : (h.cb p).sweepStatus = .idle := by
  by_contra swept
  rw [l.swept swept] at on
  cases on

/-- A port that is not ON has its link DOWN (R20). -/
theorem Hub.SweepsAlone.down (l : h.SweepsAlone p) (off : (h.pw p).state ≠ .on) : (h.lk p).state = .down := by
  by_contra up
  exact off (l.link up)

theorem PortPower.on_of_powered_state {q : PortPower} (on : q.state = .on) : q.powered = true := by simp [PortPower.powered, on]

/-- After a departure from ON the link is DOWN (R20). -/
theorem Hub.leftOn_down (h : Hub) (p : Port) : ((h.leftOn p).lk p).state = .down := by
  cases up : (h.lk p).established with
  | true =>
    rw [Hub.leftOn_of_established up, Hub.modLens_lk, h.drop_lk p _ _ fun l => (LinkCtl.powerLost_enters l).1]
    rfl
  | false =>
    obtain ⟨k, left, -, -, -, off, down, -⟩ := Hub.leftOn_of_unestablished up
    rw [left, Hub.lk, k.lensPowerLost_link p off]
    exact down

/-- A port whose power is cut, with the flags of the event; from ON, it then leaves it (R50). -/
theorem Hub.departs_sweepsKept {f : PortPower → PortPower} (port part : BitVec 16) (cut : (f (h.pw p)).powered = false) :
    h.SweepsKept (if (h.pw p).state = .on then ((h.modPower p f).raise p port part).leftOn p
      else (h.modPower p f).raise p port part) := by
  have power : ((h.modPower p f).raise p port part).pw p = f (h.pw p) := by simp [Hub.pw]
  split
  · refine .of_port (p := p) (by simp) (fun q e => by simp [Hub.pw, Hub.lk, vget_vmod_ne, e]) fun _ => .of_off (Hub.leftOn_down _ p) ?_
    have kept := Hub.leftOn_kept ((h.modPower p f).raise p port part) p
    rw [power] at kept
    simpa only [PortPower.powered, kept.state] using cut
  case isFalse off =>
    refine .of_port (p := p) (by simp) (fun q e => by simp [Hub.pw, Hub.lk, vget_vmod_ne, e]) fun l => .of_off ?_ ?_
    · simpa [Hub.lk] using l.down off
    · rw [power]; exact cut

/-- A drop of a port that is ON: it stays ON, so that it is not swept. -/
theorem Hub.drop_sweepsKept (cause : DropCause) (enter : LinkCtl → LinkCtl) (on : (h.pw p).state = .on) :
    h.SweepsKept (h.drop p cause enter) := by
  have stays := (h.drop_kept p cause enter).state
  refine .of_port (p := p) (by simp) (fun q e => by simp [Hub.pw, Hub.lk, e]) fun l => ⟨fun _ => stays.trans on, fun swept => ?_⟩
  have idle := l.idle (PortPower.on_of_powered_state on)
  exact absurd idle (by simpa [Hub.cb] using swept)

/-! ## Camera power -/

theorem Hub.turnOff_sweepsKept (h : Hub) (p : Port) (cause : OffCause) (part : BitVec 16) : h.SweepsKept (h.turnOff p cause part) := by
  unfold Hub.turnOff
  exact Hub.departs_sweepsKept _ _ rfl

/-- A port that is neither ON nor swept may enter DETECTING. -/
theorem Hub.enterDetecting_sweepsKept (off : (h.pw p).state ≠ .on) (idle : (h.cb p).sweepStatus = .idle) :
    h.SweepsKept (h.enterDetecting p) :=
  Hub.SweepsKept.trans (.modPower fun l => ⟨fun up => absurd (l.link up) off, fun swept => absurd idle swept⟩)
    (Hub.flag_sweepsKept _ p _)

theorem Hub.isolationRise_sweepsKept (h : Hub) (p : Port) : h.SweepsKept (h.isolationRise p) := by
  unfold Hub.isolationRise
  split
  case h_5 | h_6 => exact .refl h
  all_goals exact h.turnOff_sweepsKept p _ _

theorem Hub.retry_sweepsKept (off : (h.pw p).state ≠ .on) (idle : (h.cb p).sweepStatus = .idle) : h.SweepsKept (h.retry p) := by
  unfold Hub.retry
  split
  · exact h.turnOff_sweepsKept p _ _
  · split
    · exact Hub.enterDetecting_sweepsKept off idle
    · exact h.turnOff_sweepsKept p _ _

theorem Hub.cooldownOver_sweepsKept (off : (h.pw p).state ≠ .on) : h.SweepsKept (h.cooldownOver p) := by
  unfold Hub.cooldownOver
  split
  · exact .modPower_of_state rfl
  case isFalse idle => exact Hub.retry_sweepsKept off (by simpa using idle)

theorem Hub.sweepReported_sweepsKept (idle : (h.cb p).sweepStatus = .idle) : h.SweepsKept (h.sweepReported p) := by
  unfold Hub.sweepReported
  split
  case isTrue cooling =>
    simp only [Bool.and_eq_true, decide_eq_true_eq] at cooling
    exact Hub.SweepsKept.trans (.modPower_of_state rfl) (Hub.retry_sweepsKept (by simp [cooling.1]) idle)
  case isFalse => exact .refl h

theorem Hub.powerDown_sweepsKept (h : Hub) (p : Port) : h.SweepsKept (h.powerDown p) := by
  unfold Hub.powerDown
  split
  · exact h.turnOff_sweepsKept p _ _
  · exact .refl h

/-- After a power-down request the port is not powered (R55). -/
theorem Hub.powerDown_off (h : Hub) (p : Port) : ((h.powerDown p).pw p).powered = false := by
  unfold Hub.powerDown
  split
  · rw [Hub.turnOff_pw]; rfl
  case isFalse off => simpa using off

theorem Hub.powerOff_sweepsKept (h : Hub) (p : Port) : h.SweepsKept (h.powerOff p) := by
  unfold Hub.powerOff
  split
  · exact .modPower_of_state rfl
  · exact Hub.SweepsKept.trans (.modPower_of_state rfl) (Hub.turnOff_sweepsKept _ p _ _)
  · exact h.turnOff_sweepsKept p _ _

/-- POWER_ON is refused while a sweep is QUEUED or RUNNING (R44). -/
theorem Hub.idle_of_powerOnStatus (ok : h.powerOnStatus p = .ok) : (h.cb p).sweepStatus = .idle := by
  by_contra swept
  cases iso : h.effectiveIso p with
  | true => rw [Hub.powerOnStatus_of_isolated iso] at ok; cases ok
  | false => rw [Hub.powerOnStatus_of_sweeping iso swept] at ok; cases ok

theorem Hub.powerOn_sweepsKept (h : Hub) (p : Port) : h.SweepsKept (h.powerOn p).1 := by
  unfold Hub.powerOn
  dsimp only
  split
  case isTrue ok =>
    obtain ⟨status, off⟩ := ok
    exact Hub.enterDetecting_sweepsKept (fun on => off (PortPower.on_of_powered_state on)) (Hub.idle_of_powerOnStatus status)
  case isFalse => exact .refl h

theorem Hub.shedToFit_sweepsKept : ∀ (n : Nat) (h : Hub), h.SweepsKept (Hub.shedToFit n h).1
  | 0, h => .refl h
  | n + 1, h => by
    unfold Hub.shedToFit
    split
    · split
      · exact .refl h
      · exact (h.turnOff_sweepsKept _ _ _).trans (Hub.shedToFit_sweepsKept n _)
    · exact .refl h

theorem Hub.modCell_sweepsKept (h : Hub) (f : CellPower → CellPower) : h.SweepsKept (h.modCell f) := .of_items rfl

theorem Hub.budgetSet_sweepsKept (h : Hub) (budget : Nat) : h.SweepsKept (h.budgetSet budget).1 :=
  (h.modCell_sweepsKept _).trans (Hub.shedToFit_sweepsKept _ _)

theorem Hub.shedUndervolt_sweepsKept (h : Hub) (entry : Bool) : h.SweepsKept (h.shedUndervolt entry) := by
  unfold Hub.shedUndervolt
  split
  · exact h.turnOff_sweepsKept _ _ _
  · split
    · exact h.raise_sweepsKept 0 0 _
    · exact .refl h

theorem Hub.supplySample_sweepsKept (h : Hub) (mv : Nat) : h.SweepsKept (h.supplySample mv) := by
  have sampled := h.modCell_sweepsKept fun c => { c with supplySample := mv }
  unfold Hub.supplySample
  dsimp only
  refine sampled.trans ?_
  generalize (h.modCell fun c => { c with supplySample := mv }) = k
  split
  case h_1 =>
    split
    · exact k.modCell_sweepsKept _
    · exact .refl k
  case h_2 | h_3 =>
    split
    · exact k.modCell_sweepsKept _
    · split
      · exact (k.modCell_sweepsKept _).trans (Hub.shedUndervolt_sweepsKept _ _)
      · exact .refl k

theorem Hub.portPowerSet_sweepsKept (h : Hub) (p : Port) (grant limit priority allowance : Nat) :
    h.SweepsKept (h.portPowerSet p grant limit priority allowance).1 := by
  unfold Hub.portPowerSet
  split
  · exact .refl h
  · split
    · exact .refl h
    · exact .modPower_of_state rfl

theorem Hub.setRequestedIso_sweepsKept (h : Hub) (p : Port) (on : Bool) : h.SweepsKept (h.setRequestedIso p on) := by
  have set : h.SweepsKept { h with requestedIso := vset h.requestedIso p on } := .of_items rfl
  unfold Hub.setRequestedIso
  dsimp only
  split
  · exact set.trans (Hub.isolationRise_sweepsKept _ p)
  · exact set

theorem Hub.isolate_sweepsKept (h : Hub) (p : Port) (action : Nat) : h.SweepsKept (h.isolate p action).1 := by
  unfold Hub.isolate
  split
  · exact h.setRequestedIso_sweepsKept p true
  · exact h.setRequestedIso_sweepsKept p false
  · exact .refl h

end

/-! ## Places taken and left -/

section
variable {h : Hub} {p : Port}

/-- An engine that takes the head of the queue moves one port from QUEUED to RUNNING. -/
theorem Hub.engineTakes_sweepsHold (e : EngineNo) (l : h.SweepsHold) : (h.engineTakes e).SweepsHold := by
  rcases h.engineTakes_cases e with same | ⟨q, rest, free, head, took⟩
  · rwa [same]
  rw [took]
  obtain ⟨⟨once, queued, running, apart⟩, alone⟩ := h.sweepsHold_iff.mp l
  rw [head, List.map_cons, List.nodup_cons] at once
  obtain ⟨fresh, once⟩ := once
  have waits : (h.cb q.port).sweepStatus = .queued := (queued _).mpr (by simp [head])
  have unswept (n : EngineNo) : h.sweeps n ≠ some q.port := fun s => by
    rw [(running _).mpr ⟨n, s⟩] at waits
    cases waits
  generalize taken : ((h.modCables fun c => { c with queue := rest }).setEngine e (some (h.sweepContext q))).modCable q.port
    (fun c => { c with sweepStatus := .running }) = k
  have status (r : Port) : (k.cb r).sweepStatus = if r = q.port then .running else (h.cb r).sweepStatus := by
    subst taken
    rw [Hub.modCable_cb]
    split <;> rfl
  have sweeps (n : EngineNo) : k.sweeps n = if n = e then some q.port else h.sweeps n := by
    subst taken
    simp only [Hub.sweeps, Hub.modCable_engine, Hub.setEngine_engine]
    split <;> rfl
  have queue : k.cables.queue = rest := by subst taken; rfl
  refine k.sweepsHold_iff.mpr ⟨⟨by rwa [queue], fun r => ?_, fun r => ?_, fun n m r => ?_⟩, fun r => ?_⟩
  · rw [status, queue]
    split
    case isTrue same => simpa [same] using fresh
    case isFalse other => rw [queued, head]; simp [other]
  · simp only [status, sweeps]
    split
    case isTrue same => exact ⟨fun _ => ⟨e, by simp [same]⟩, fun _ => rfl⟩
    case isFalse other =>
      rw [running]
      refine exists_congr fun n => ?_
      split
      case isTrue here => simp [here, Hub.sweeps, free, Ne.symm other]
      case isFalse => rfl
  · simp only [sweeps]
    split <;> split
    case isTrue.isTrue a b => exact fun _ _ => a.trans b.symm
    case isTrue.isFalse => rintro ⟨⟩ s; exact absurd s (unswept m)
    case isFalse.isTrue => rintro s ⟨⟩; exact absurd s (unswept n)
    case isFalse.isFalse => exact apart n m r
  · obtain ⟨link, swept⟩ := alone r
    have power : k.pw r = h.pw r := by subst taken; rfl
    refine ⟨by subst taken; exact link, fun busy => ?_⟩
    rw [power]
    rw [status] at busy
    split at busy
    case isTrue same => exact same ▸ (alone q.port).swept (by rw [waits]; decide)
    case isFalse => exact swept busy

theorem Hub.offerEngines_sweepsHold (l : h.SweepsHold) : h.offerEngines.SweepsHold :=
  Hub.engineTakes_sweepsHold 1 (Hub.engineTakes_sweepsHold 0 l)

/-- A port that is neither swept nor powered may join the queue. -/
theorem Hub.enqueueSweep_sweepsHold (params : SweepParams) (origin : SweepOrigin) (idle : (h.cb p).sweepStatus = .idle)
    (off : (h.pw p).powered = false) (l : h.SweepsHold) : (h.enqueueSweep p params origin).SweepsHold := by
  refine Hub.offerEngines_sweepsHold ?_
  obtain ⟨⟨once, queued, running, apart⟩, alone⟩ := h.sweepsHold_iff.mp l
  have fresh : p ∉ h.cables.queue.map (·.port) := fun m => by
    rw [(queued p).mpr m] at idle
    cases idle
  have unswept : ¬ ∃ e, h.sweeps e = some p := fun s => by
    rw [(running p).mpr s] at idle
    cases idle
  refine (Hub.sweepsHold_iff _).mpr ⟨⟨?_, fun r => ?_, fun r => ?_, apart⟩, fun r => ⟨(alone r).link, fun busy => ?_⟩⟩
  · simp only [Hub.modCable_cables, Hub.modCables_cables, List.map_append, List.map_cons, List.map_nil]
    exact List.nodup_append.mpr ⟨once, List.nodup_singleton p, fun r m _ s e => fresh (by rwa [e, List.mem_singleton.mp s] at m)⟩
  · rw [Hub.modCable_cb]
    split
    case isTrue same => simp [same]
    case isFalse other => simp only [Hub.modCables_cb, queued]; simp [other]
  · rw [Hub.modCable_cb]
    split
    case isTrue same => exact ⟨fun s => SweepStatus.noConfusion s, fun s => absurd (same ▸ s) unswept⟩
    case isFalse => exact running r
  · by_cases same : r = p
    · subst same; exact off
    · rw [Hub.modCable_cb_ne _ _ _ same] at busy
      exact (alone r).swept busy

theorem Hub.autoSweep_sweepsHold (p : Port) (o : SweepOrigin) (l : h.SweepsHold) : (h.autoSweep p o).SweepsHold := by
  unfold Hub.autoSweep
  split
  · exact Hub.SweepsKept.holds (.modCable rfl) l
  case isFalse idle =>
    have kept := h.powerDown_sweepsKept p
    exact Hub.enqueueSweep_sweepsHold _ _ (by rw [kept.status]; simpa using idle) (h.powerDown_off p) (kept.holds l)

theorem Hub.maySweep_sweepsHold (p : Port) (o : Option SweepOrigin) (l : h.SweepsHold) : (h.maySweep p o).SweepsHold := by
  unfold Hub.maySweep
  split
  · exact Hub.autoSweep_sweepsHold p _ l
  · exact l

theorem Hub.sweepRequest_sweepsHold (p : Port) (sweep : SweepParamsRaw) (first : Nat) (l : h.SweepsHold) :
    (h.sweepRequest p sweep first).1.SweepsHold := by
  unfold Hub.sweepRequest
  split
  · split
    · exact l
    case isFalse idle =>
      split
      · exact l
      · have kept := h.powerDown_sweepsKept p
        exact Hub.enqueueSweep_sweepsHold _ _ (by rw [kept.status]; simpa using idle) (h.powerDown_off p) (kept.holds l)
  · exact l

/-- A port that leaves its place, in the queue or in an engine, and is IDLE. -/
theorem Hub.SweepsHold.leaves {k : Hub} (l : h.SweepsHold) (ports : ∀ r, k.pw r = h.pw r ∧ k.lk r = h.lk r)
    (status : ∀ r, (k.cb r).sweepStatus = if r = p then .idle else (h.cb r).sweepStatus)
    (queue : k.cables.queue = h.cables.queue.filter fun q => q.port ≠ p)
    (sweeps : ∀ n, k.sweeps n = if h.sweeps n = some p then none else h.sweeps n) : k.SweepsHold := by
  obtain ⟨⟨once, queued, running, apart⟩, alone⟩ := h.sweepsHold_iff.mp l
  have stays {n : EngineNo} {r : Port} : k.sweeps n = some r ↔ r ≠ p ∧ h.sweeps n = some r := by
    rw [sweeps]
    split
    case isTrue gone => rw [gone]; simp [eq_comm]
    case isFalse other => exact ⟨fun s => ⟨fun same => other (same ▸ s), s⟩, fun s => s.2⟩
  refine k.sweepsHold_iff.mpr ⟨⟨?_, fun r => ?_, fun r => ?_, fun n m r s t => ?_⟩, fun r => ?_⟩
  · rw [queue]
    exact once.sublist (List.filter_sublist.map _)
  · rw [status, queue]
    split
    case isTrue same => simp [same]
    case isFalse other =>
      rw [queued, List.mem_map, List.mem_map]
      refine exists_congr fun q => ⟨fun ⟨m, e⟩ => ⟨List.mem_filter.mpr ⟨m, by simp [e, other]⟩, e⟩, fun ⟨m, e⟩ => ⟨List.mem_of_mem_filter m, e⟩⟩
  · simp only [status, stays]
    split
    case isTrue same => simp [same]
    case isFalse other => simp [other, running]
  · exact apart n m r (stays.mp s).2 (stays.mp t).2
  · obtain ⟨link, swept⟩ := alone r
    refine ⟨by rw [(ports r).1, (ports r).2]; exact link, fun busy => ?_⟩
    rw [(ports r).1]
    rw [status] at busy
    split at busy
    · exact absurd rfl busy
    · exact swept busy

/-- A queued port leaves the queue, and is IDLE. -/
theorem Hub.leaveQueue_sweepsHold (waits : (h.cb p).sweepStatus = .queued) (l : h.SweepsHold) :
    ((h.modCables fun u => { u with queue := u.queue.filter fun q => q.port ≠ p }).modCable p fun c =>
      { c with sweepStatus := .idle }).SweepsHold := by
  refine l.leaves (p := p) (fun _ => ⟨rfl, rfl⟩) (fun r => ?_) rfl fun n => ?_
  · rw [Hub.modCable_cb]
    split <;> rfl
  · have unswept : h.sweeps n ≠ some p := fun s => by
      rw [((h.sweepsHold_iff.mp l).1.running p).mpr ⟨n, s⟩] at waits
      cases waits
    rw [if_neg unswept]
    rfl

/-- An engine becomes IDLE, and its port too. -/
theorem Hub.leaveEngine_sweepsHold {e : EngineNo} (runs : h.sweeps e = some p) (l : h.SweepsHold) :
    ((h.setEngine e none).modCable p fun c => { c with sweepStatus := .idle }).SweepsHold := by
  obtain ⟨⟨-, queued, running, apart⟩, -⟩ := h.sweepsHold_iff.mp l
  refine l.leaves (p := p) (fun _ => ⟨rfl, rfl⟩) (fun r => ?_) ?_ fun n => ?_
  · rw [Hub.modCable_cb]
    split <;> rfl
  · refine (List.filter_eq_self.mpr fun q m => ?_).symm
    have waits := (queued q.port).mpr (List.mem_map_of_mem m)
    refine decide_eq_true fun same => ?_
    rw [same, (running p).mpr ⟨e, runs⟩] at waits
    cases waits
  · by_cases here : n = e
    · subst here; simp [Hub.sweeps, ← runs]
    · have other : h.sweeps n ≠ some p := fun s => here (apart n e p s runs)
      rw [if_neg other]
      simp only [Hub.sweeps, Hub.modCable_engine, Hub.setEngine_engine_ne _ here]

end

end Sys2Proof.Machine

/-! # The ends of sweeps, protection and training -/

namespace Sys2Proof.Machine

/-! ## The ends of sweeps (R75, R79) -/

section
variable {h : Hub} {p : Port}

theorem SweepContext.addEcho_port (c : SweepContext) (x : Option (Polarity × Nat)) : (c.addEcho x).port = c.port := by
  unfold SweepContext.addEcho
  split <;> rfl

theorem SweepContext.closeRepeat_port (c : SweepContext) : c.closeRepeat.port = c.port := by
  unfold SweepContext.closeRepeat
  dsimp only
  split <;> rfl

/-- A port that is IDLE may have its SWEEP flag and its report (R79). -/
theorem Hub.reported_sweepsKept {h' : Hub} (idle : (h.cb p).sweepStatus = .idle) (k : h.SweepsKept h') :
    h.SweepsKept (h'.sweepReported p) := k.trans (Hub.sweepReported_sweepsKept (by rw [k.status, idle]))

theorem Hub.stopSweep_sweepsHold {e : EngineNo} (runs : h.sweeps e = some p) (l : h.SweepsHold) : (h.stopSweep e p).SweepsHold :=
  Hub.offerEngines_sweepsHold ((Hub.reported_sweepsKept (by simp) (Hub.flag_sweepsKept _ p fSweep)).holds
    (Hub.leaveEngine_sweepsHold runs l))

theorem Hub.cancelEngine_sweepsHold (e : EngineNo) (l : h.SweepsHold) : (h.cancelEngine p e).SweepsHold := by
  unfold Hub.cancelEngine
  split
  case h_1 c runs =>
    split
    case isTrue own =>
      split
      · exact Hub.SweepsKept.holds (.setEngine runs rfl) l
      · exact Hub.stopSweep_sweepsHold (Hub.sweeps_eq_some.mpr ⟨c, runs, own⟩) l
    case isFalse => exact l
  case h_2 => exact l

theorem Hub.cancelSweep_sweepsHold (p : Port) (l : h.SweepsHold) : (h.cancelSweep p).SweepsHold := by
  cases status : (h.cb p).sweepStatus with
  | idle => simpa only [Hub.cancelSweep, status] using l
  | queued =>
    simp only [Hub.cancelSweep, status]
    exact (Hub.reported_sweepsKept (by simp) (Hub.flag_sweepsKept _ p fSweep)).holds (Hub.leaveQueue_sweepsHold status l)
  | running =>
    rw [Hub.cancelSweep_of_running status]
    exact Hub.cancelEngine_sweepsHold 1 (Hub.cancelEngine_sweepsHold 0 l)

theorem CableUnit.writeFault_places (u : CableUnit) (c : SweepContext) (pair : Pair) (r : PairResult) (x : BreakSpan)
    (now : HubTime) : (u.writeFault c pair r x now).queue = u.queue ∧ (u.writeFault c pair r x now).engines = u.engines := by
  unfold CableUnit.writeFault
  split <;> exact ⟨rfl, rfl⟩

theorem Hub.setFlags_sweepsKept (h : Hub) (p : Port) (port part : BitVec 16) : h.SweepsKept (h.setFlags p port part) := .of_items rfl

/-- A pair's result moves no sweep; a rise of isolation may turn the port off (R5, R9). -/
theorem Hub.recordPair_sweepsKept (h : Hub) (c : SweepContext) (pair : Pair) : h.SweepsKept (h.recordPair c pair) := by
  unfold Hub.recordPair
  dsimp only
  split
  · exact .refl h
  case h_2 x _ =>
    obtain ⟨queue, engines⟩ := h.cables.writeFault_places c pair (c.result pair) x h.time
    have isolated : h.SweepsKept ((h.modCables fun u => u.writeFault c pair (c.result pair) x h.time).modCable c.port fun y =>
        { y with faultIsolation := true }) := Hub.SweepsKept.trans (.modCables queue engines) (.modCable rfl)
    have written := isolated.trans (Hub.setFlags_sweepsKept _ c.port fFault 0)
    split
    · exact written.trans (Hub.isolationRise_sweepsKept _ _)
    · exact written

theorem Hub.completeSweep_sweepsHold {e : EngineNo} {c : SweepContext} (runs : h.sweeps e = some c.port) (l : h.SweepsHold) :
    (h.completeSweep e c).SweepsHold := by
  have recorded (h : Hub) (pair : Pair) : h.SweepsKept (if tests c.params.pair pair then h.recordPair c pair else h) := by
    split
    · exact h.recordPair_sweepsKept c pair
    · exact .refl h
  have k := (recorded h .data).trans (recorded _ .power)
  unfold Hub.completeSweep
  dsimp only
  revert k
  generalize (if tests c.params.pair .power then _ else _ : Hub) = h'
  intro k
  have summed : h.SweepsKept (h'.modCable c.port fun x => { x with summary := some (c.summarise e h'.time) }) :=
    k.trans (.modCable rfl)
  refine Hub.offerEngines_sweepsHold ((Hub.reported_sweepsKept (by simp) (.of_items (by simp [Hub.sweepItems]))).holds
    (Hub.leaveEngine_sweepsHold ((summed.sweeps e).trans runs) (summed.holds l)))

theorem Hub.repeatEnd_sweepsHold {e : EngineNo} {c c' : SweepContext} (endTime : HubTime) (runs : h.engine e = some c')
    (same : c.port = c'.port) (l : h.SweepsHold) : (h.repeatEnd e c endTime).SweepsHold := by
  have port : c.closeRepeat.port = c'.port := c.closeRepeat_port.trans same
  unfold Hub.repeatEnd
  dsimp only
  split
  · exact Hub.SweepsKept.holds (.setEngine runs port) l
  · split
    · exact Hub.SweepsKept.holds (.setEngine runs port) l
    · exact Hub.completeSweep_sweepsHold (Hub.sweeps_eq_some.mpr ⟨c', runs, port.symm⟩) l

theorem Hub.shotEnd_sweepsHold {e : EngineNo} {c : SweepContext} (trace : List (Nat × Int)) (runs : h.engine e = some c)
    (l : h.SweepsHold) : (h.shotEnd e c trace).SweepsHold := by
  have port := c.addEcho_port (c.echo trace)
  unfold Hub.shotEnd
  dsimp only
  split
  · exact Hub.stopSweep_sweepsHold (Hub.sweeps_eq_some.mpr ⟨c, runs, rfl⟩) l
  · split
    · exact Hub.SweepsKept.holds (.setEngine runs port) l
    · exact Hub.repeatEnd_sweepsHold _ runs port l

/-! ## Protection and training -/

theorem Hub.trip_sweepsHold (p : Port) (cause : OffCause) (l : h.SweepsHold) : (h.trip p cause).SweepsHold := by
  unfold Hub.trip
  dsimp only
  refine Hub.maySweep_sweepsHold p _ ((Hub.departs_sweepsKept _ _ ?_).holds l)
  split <;> rfl

theorem Hub.detected_sweepsHold {load : Nat} (detecting : (h.pw p).state = .detecting) (l : h.SweepsHold) :
    (h.detected p load).SweepsHold := by
  have fails (cause : OffCause) : (if ((h.turnOff p cause 0).cb p).onDetectFail then (h.turnOff p cause 0).autoSweep p .autoDetect
      else h.turnOff p cause 0).SweepsHold := by
    have off := (h.turnOff_sweepsKept p cause 0).holds l
    split
    · exact Hub.autoSweep_sweepsHold p _ off
    · exact off
  unfold Hub.detected
  dsimp only
  split
  · exact fails _
  · split
    · exact fails _
    · refine Hub.SweepsKept.holds (Hub.SweepsKept.trans (.modPower fun a => ⟨fun up => ?_, fun swept => ?_⟩) (Hub.flag_sweepsKept _ p _)) l
      · rw [a.link up] at detecting; cases detecting
      · exact absurd (a.idle (by simp [PortPower.powered, detecting])) swept

/-- A port whose output is reached becomes ON, and trains from DOWN (R17, R46). -/
theorem Hub.rampReached_sweepsKept (ramping : (h.pw p).state = .ramping) : h.SweepsKept (h.rampReached p) := by
  refine Hub.SweepsKept.trans (b := (h.modPower p fun q => { q with state := .on, overSince := none }).flag p fPower) ?_ ?_
  · refine Hub.SweepsKept.trans (.modPower fun a => ⟨fun _ => rfl, fun swept => ?_⟩) (Hub.flag_sweepsKept _ p _)
    exact absurd (a.idle (by simp [PortPower.powered, ramping])) swept
  · have on : (((h.modPower p fun q => { q with state := .on, overSince := none }).flag p fPower).pw p).state = .on := by
      simp [Hub.pw]
    unfold Hub.rampReached Hub.beginTraining
    split
    · exact Hub.SweepsKept.trans (.modLink fun _ _ => on) (Hub.flag_sweepsKept _ p _)
    · exact .refl _

theorem Hub.attemptEnd_sweepsHold (p : Port) (l : h.SweepsHold) : (h.attemptEnd p).SweepsHold := by
  have failed : ((h.modLink p fun l => { l with state := .down, note := .trainFail, channel := .idle }).flag p fLink).SweepsHold :=
    Hub.SweepsKept.holds (Hub.SweepsKept.trans (.modLink fun _ up => absurd rfl up) (Hub.flag_sweepsKept _ p _)) l
  unfold Hub.attemptEnd
  dsimp only
  split
  · exact Hub.SweepsKept.holds (.modLink_of_state rfl) l
  · split
    · exact Hub.autoSweep_sweepsHold p _ failed
    · exact failed

theorem Hub.lossOfLock_sweepsHold (up : (h.lk p).established = true) (l : h.SweepsHold) : (h.lossOfLock p).SweepsHold := by
  have on := ((h.sweepsHold_iff.mp l).2 p).link (LinkCtl.not_down_of_established up)
  have dropped := (Hub.drop_sweepsKept .lossOfLock (LinkCtl.train h.time) on).holds l
  unfold Hub.lossOfLock
  dsimp only
  split
  · exact Hub.autoSweep_sweepsHold p _ dropped
  · exact dropped

/-! ## Cable settings -/

theorem Hub.cableTypeSet_sweepsKept (h : Hub) (type speed polarity threshold : Nat) :
    h.SweepsKept (h.cableTypeSet type speed polarity threshold).1 := by
  unfold Hub.cableTypeSet
  split
  · split
    · dsimp only
      exact .modCables rfl rfl
    · exact .refl h
  · exact .refl h

theorem Hub.portCableSet_sweepsKept (h : Hub) (p : Port) (type length tolerance offset : Nat) :
    h.SweepsKept (h.portCableSet p type length tolerance offset).1 := by
  unfold Hub.portCableSet
  split
  · exact .refl h
  · split
    · exact .modCable rfl
    · exact .refl h

theorem Hub.autoSweepSet_sweepsKept (h : Hub) (p : Port) (flags : Nat) (sweep : SweepParamsRaw) :
    h.SweepsKept (h.autoSweepSet p flags sweep).1 := by
  unfold Hub.autoSweepSet
  split
  · exact .refl h
  · split
    · exact .refl h
    · exact .modCable rfl

theorem Hub.faultClear_sweepsKept (h : Hub) (p : Port) : h.SweepsKept (h.faultClear p).1 := by
  unfold Hub.faultClear
  split
  · exact .refl h
  · have cleared : h.SweepsKept (h.modCables fun u =>
        { u with
          faults := u.faults.map fun f => if f.opensPort p then { f with isOpen := false, updated := h.time } else f }) :=
      .modCables rfl rfl
    exact cleared.trans (.modCable rfl)

end

end Sys2Proof.Machine

/-! # Every command keeps sweeps in their places -/

namespace Sys2Proof.Machine

theorem Hub.sweepsHold_ends : Hub.EndsKeep Hub.SweepsHold where
  settle m l := Hub.SweepsKept.holds (.of_items (by simp [Hub.sweepItems])) l
  reset := Hub.coldReset_sweepsHold
  pop l := l
  due l := l
  trunk _ l := l

section
variable {s t : State}

/-! ## Frame packets -/

theorem execFrameStart_sweepsHold {p : Port} {number width height id : Nat} (e : execFrameStart p number width height id s = .next t)
    (l : s.hub.SweepsHold) : t.hub.SweepsHold := by
  unfold execFrameStart at e
  split at e
  · exact Hub.sweepsHold_ends.settled e
      ((Hub.SweepsKept.of_iso (s.frameStart_isoItems p _ _ _ _) (s.frameStart_linksKept p _ _ _ _)).holds l)
  · cases e; exact l

theorem execLine_sweepsHold {p : Port} {number : Nat} {pixels : List Nat} (e : execLine p number pixels s = .next t)
    (l : s.hub.SweepsHold) : t.hub.SweepsHold := by
  unfold execLine at e
  split at e
  · exact Hub.sweepsHold_ends.settled e ((Hub.SweepsKept.of_iso (s.line_isoItems p _ _) (s.line_linksKept p _ _)).holds l)
  · cases e; exact l

theorem execFrameEnd_sweepsHold {p : Port} {linesSent status : Nat} (e : execFrameEnd p linesSent status s = .next t)
    (l : s.hub.SweepsHold) : t.hub.SweepsHold := by
  unfold execFrameEnd at e
  split at e
  · exact Hub.sweepsHold_ends.settled e ((Hub.SweepsKept.of_iso (s.frameEnd_isoItems p _ _) (s.frameEnd_linksKept p _ _)).holds l)
  · cases e; exact l

theorem execFillDeadline_sweepsHold {p : Port} (e : execFillDeadline p s = .next t) (l : s.hub.SweepsHold) : t.hub.SweepsHold := by
  unfold execFillDeadline at e
  split at e
  · exact Hub.sweepsHold_ends.settled e
      ((Hub.SweepsKept.of_iso (s.completeFrame_isoItems p _ _ _ _) (s.completeFrame_linksKept p _ _ _ _)).holds l)
  · cases e; exact l

/-! ## Events of the engines and of the current -/

/-- An engine whose phase is over runs the context that the event acts on. -/
theorem Hub.engine_of_phaseOver {h : Hub} {e : EngineNo} {phase : EnginePhase} {duration : SweepContext → Nat} {c : SweepContext}
    (due : h.enginePhaseOver e phase duration = some c) : h.engine e = some c := by
  unfold Hub.enginePhaseOver at due
  split at due
  case h_1 c' runs =>
    split at due
    · rw [runs, ← due]
    · cases due
  case h_2 => cases due

theorem execSettlingEnd_sweepsHold {n : EngineNo} (e : execSettlingEnd n s = .next t) (l : s.hub.SweepsHold) : t.hub.SweepsHold := by
  unfold execSettlingEnd at e
  split at e
  case h_1 c due => exact Hub.sweepsHold_ends.event e (Hub.SweepsKept.holds (.setEngine (Hub.engine_of_phaseOver due) rfl) l)
  case h_2 => cases e; exact l

theorem execShot_sweepsHold {n : EngineNo} {trace : List (Nat × Int)} (e : execShot n trace s = .next t) (l : s.hub.SweepsHold) :
    t.hub.SweepsHold := by
  unfold execShot at e
  split at e
  case h_1 c due => exact Hub.sweepsHold_ends.event e (Hub.shotEnd_sweepsHold trace (Hub.engine_of_phaseOver due) l)
  case h_2 => cases e; exact l

theorem execRepeatIntervalEnd_sweepsHold {n : EngineNo} (e : execRepeatIntervalEnd n s = .next t) (l : s.hub.SweepsHold) :
    t.hub.SweepsHold := by
  unfold execRepeatIntervalEnd at e
  split at e
  case h_1 c due => exact Hub.sweepsHold_ends.event e (Hub.SweepsKept.holds (.setEngine (Hub.engine_of_phaseOver due) rfl) l)
  case h_2 => cases e; exact l

/-- A current that a row reports trips its port or has that row's own effect (R47). -/
theorem State.senseCurrent_sweepsHold {p : Port} {current : Nat} {own : Hub → Bool} {act : Hub → Hub}
    (e : s.senseCurrent p current own act = .next t) (l : s.hub.SweepsHold) (acts : (act s.hub).SweepsHold) : t.hub.SweepsHold := by
  refine Hub.sweepsHold_ends.when e l fun _ => ?_
  split
  · exact Hub.trip_sweepsHold p _ l
  · exact acts

end

section
variable {s t : State} {p : Port} {current : Nat}

theorem execOvercurrentRise_sweepsHold (e : execOvercurrentRise p current s = .next t) (l : s.hub.SweepsHold) : t.hub.SweepsHold :=
  State.senseCurrent_sweepsHold e l (Hub.SweepsKept.holds (.modPower_of_state rfl) l)

theorem execOvercurrentFall_sweepsHold (e : execOvercurrentFall p current s = .next t) (l : s.hub.SweepsHold) : t.hub.SweepsHold :=
  State.senseCurrent_sweepsHold e l (Hub.SweepsKept.holds (.modPower_of_state rfl) l)

theorem execTrip_sweepsHold (e : execTrip p current s = .next t) (l : s.hub.SweepsHold) : t.hub.SweepsHold :=
  State.senseCurrent_sweepsHold e l (Hub.trip_sweepsHold p .trip l)

theorem execHardShort_sweepsHold (e : execHardShort p current s = .next t) (l : s.hub.SweepsHold) : t.hub.SweepsHold :=
  State.senseCurrent_sweepsHold e l l

end

/-- Every command keeps sweeps in their places: a port joins the queue where it is IDLE, powered down first; it leaves IDLE by an
engine's end or a cancellation alone; and power rises on ports that are IDLE alone. -/
theorem exec_sweepsHold (i : Instr) (s t : State) (e : exec i s = .next t) (l : s.hub.SweepsHold) : t.hub.SweepsHold := by
  have ends := Hub.sweepsHold_ends
  have aside {h h' : Hub} (items : h'.isoItems = h.isoItems) (k : h.LinksKept h') (l : h.SweepsHold) : h'.SweepsHold :=
    (Hub.SweepsKept.of_iso items k).holds l
  cases i with
  | coldReset => exact ends.event e (Hub.coldReset_sweepsHold _)
  | trunkUp => exact ends.when e l fun _ => (s.hub.trunkReturns_sweepsKept s.dram).holds l
  | trunkLoss => exact ends.when e l fun _ => s.hub.trunkLost_sweepsHold s.dram l
  | requestPacketReceived pkt => exact ends.when e l fun _ => aside (s.hub.arrive_isoItems pkt) (Hub.arrive_linksKept pkt) l
  | badRequest => exact ends.badRequest (fun l => l) e l
  | packetSendEnd => exact ends.when e l fun _ => s.hub.sendEnd_sweepsHold s.dram l
  | imageQueueTakesPacket p =>
    exact ends.when e l fun _ => Hub.SweepsKept.holds (.of_items (by simp [Hub.sweepItems])) l
  | answeredSlotReplyOffer =>
    exact ends.when e l fun _ => Hub.SweepsKept.holds (.of_items (by simp [Hub.sweepItems])) l
  | identify r | timeRead r => exact ends.take (forHub_keeps fun _ l => l) e l
  | partReset r => exact ends.take (forHub_keeps fun _ l => l) e l
  | readEvents r => exact ends.take (forEither_keeps fun p h => aside (h.readEvents_isoItems p) (h.readEvents_linksKept p)) e l
  | noticeSet r kinds => exact ends.take (forHub_keeps fun h => aside (h.noticeSet_isoItems kinds) (h.noticeSet_linksKept kinds)) e l
  | isolate r action => exact ends.take (forPort_keeps fun p h => (h.isolate_sweepsKept p action).holds) e l
  | portRead r | dropHistoryRead r | lensRead r | frameList r => exact ends.take (forPort_keeps fun _ _ l => l) e l
  | linkSet r degrade drop =>
    exact ends.take (forPort_keeps fun p h => aside (h.linkSet_isoItems p _ _) (Hub.linkSet_linksKept p _ _)) e l
  | linkTest r count => exact ends.take (forPort_keeps fun p h => aside (h.linkTest_isoItems p _) (Hub.linkTest_linksKept p _)) e l
  | attrRead r address count | attrWrite r address words =>
    exact ends.takeLater (passFor_keeps fun p h => (h.passThrough_sweepsKept p _ _ _ _).holds) e l
  | passThroughTimeout slot =>
    exact ends.when e l fun _ => Hub.SweepsKept.holds (.of_items (by simp [Hub.sweepItems])) l
  | budgetSet r budget => exact ends.take (forHub_keeps fun h => (h.budgetSet_sweepsKept budget).holds) e l
  | portPowerSet r grant limit priority allowance =>
    exact ends.take (forPort_keeps fun p h => (h.portPowerSet_sweepsKept p _ _ _ _).holds) e l
  | powerOn r => exact ends.take (forPort_keeps fun p h => (h.powerOn_sweepsKept p).holds) e l
  | powerOff r => exact ends.take (forPort_keeps fun p h => (h.powerOff_sweepsKept p).holds) e l
  | detectionEnd p load =>
    refine ends.when e l fun due => Hub.detected_sweepsHold ?_ l
    simp only [Hub.phaseOver, Bool.and_eq_true, decide_eq_true_eq] at due
    exact due.1
  | rampOutputReached p output =>
    refine ends.when e l fun due => (Hub.rampReached_sweepsKept ?_).holds l
    simp only [Bool.and_eq_true, decide_eq_true_eq] at due
    exact due.1
  | rampFail p output => exact ends.when e l fun _ => Hub.trip_sweepsHold p _ l
  | overcurrentRise p current => exact execOvercurrentRise_sweepsHold e l
  | overcurrentFall p current => exact execOvercurrentFall_sweepsHold e l
  | trip p current => exact execTrip_sweepsHold e l
  | hardShort p current => exact execHardShort_sweepsHold e l
  | cooldownEnd p =>
    refine ends.when e l fun due => (Hub.cooldownOver_sweepsKept ?_).holds l
    simp only [Hub.cooldownDue, Bool.and_eq_true, decide_eq_true_eq] at due
    simp [due.1.1]
  | supplySample mv => exact ends.event e ((s.hub.supplySample_sweepsKept mv).holds l)
  | trainingAttemptEnd p => exact ends.when e l fun _ => Hub.attemptEnd_sweepsHold p l
  | lockReply p =>
    exact ends.when e l fun training => aside (by simp [Hub.isoItems]) (Hub.lockReply_linksKept (by simpa using training)) l
  | lossOfLock p => exact ends.when e l fun up => Hub.lossOfLock_sweepsHold up l
  | errorWindowEnd p => exact ends.when e l fun _ => aside (by simp [Hub.isoItems]) (s.hub.windowEnd_linksKept p) l
  | badUpstreamPacket p bytes => exact ends.when e l fun _ => aside (s.hub.badPacket_isoItems p) (Hub.badPacket_linksKept p) l
  | frameStart p number width height id => exact execFrameStart_sweepsHold e l
  | line p number pixels => exact execLine_sweepsHold e l
  | frameEnd p linesSent status => exact execFrameEnd_sweepsHold e l
  | fillDeadline p => exact execFillDeadline_sweepsHold e l
  | ack p sequence => exact ends.when e l fun _ => (s.hub.ackTaken_sweepsKept p _).holds l
  | ackWaitEnd p => exact ends.when e l fun _ => (s.hub.waitEnds_sweepsKept p).holds l
  | downstreamMessageSent p => exact ends.when e l fun _ => (s.hub.messageSent_sweepsKept p).holds l
  | attrReply p attr status words =>
    exact ends.when e l fun _ => Hub.SweepsKept.holds (.of_items (by simp [Hub.sweepItems])) l
  | lensReport p axis position kind => exact ends.when e l fun _ => (s.hub.lensReport_sweepsKept p _ _ _).holds l
  | lensDeadline p axis => exact ends.when e l fun _ => (s.hub.axisTimeout_sweepsKept p axis).holds l
  | lensProfileLoad r focus zoom iris =>
    exact ends.take (forPort_keeps fun p h => aside (h.lensProfileLoad_isoItems p _ _ _) (Hub.lensProfileLoad_linksKept p _ _ _)) e l
  | lensHome r axis => exact ends.take (forPort_keeps fun p h => (h.lensHome_sweepsKept p axis).holds) e l
  | lensMove r axis target => exact ends.take (forPort_keeps fun p h => (h.lensMove_sweepsKept p axis target).holds) e l
  | lensStop r axis => exact ends.take (forPort_keeps fun p h => (h.lensStop_sweepsKept p axis).holds) e l
  | focusTableLoad r stop zoom points =>
    exact ends.take (forPort_keeps fun p h => aside (h.focusTableLoad_isoItems p _ _ _) (Hub.focusTableLoad_linksKept p _ _ _)) e l
  | lensFocusDistance r d => exact ends.take (forPort_keeps fun p h => (h.lensFocusDistance_sweepsKept p d).holds) e l
  | encoderStep a b => exact ends.event e ((s.hub.encoderStep_sweepsKept a b).holds l)
  | triggerTimeout p => exact ends.when e l fun _ => aside (s.hub.triggerTimeout_isoItems p) (Hub.triggerTimeout_linksKept p) l
  | triggerLineRise n | triggerLineFall n => exact ends.when e l fun _ => l
  | filterTimeEnd n => exact ends.when e l fun _ => Hub.SweepsKept.holds (Hub.SweepsKept.trans (.of_items rfl) (Hub.fireLine_sweepsKept _ n)) l
  | encoderSet r value =>
    exact ends.take (forHub_keeps fun h => aside (h.encoderSet_isoItems value) (Hub.encoderSet_linksKept value)) e l
  | triggerLineSet r line filter =>
    exact ends.take (forHub_keeps fun h => aside (h.triggerLineSet_isoItems _ _) (Hub.triggerLineSet_linksKept _ _)) e l
  | triggerSet r source pitch phase direction policy timeout =>
    exact ends.take (forPort_keeps fun p h => aside (h.triggerSet_isoItems p _ _ _ _ _ _) (Hub.triggerSet_linksKept p _ _ _ _ _ _)) e l
  | triggerSoft r mask => exact ends.take (forHub_keeps fun h => (h.triggerSoft_sweepsKept mask).holds) e l
  | triggerRead r | faultRead r => exact ends.take (forEither_keeps fun _ _ l => l) e l
  | cableTypeSet r type speed polarity threshold =>
    exact ends.take (forHub_keeps fun h => (h.cableTypeSet_sweepsKept _ _ _ _).holds) e l
  | portCableSet r type length tolerance offset =>
    exact ends.take (forPort_keeps fun p h => (h.portCableSet_sweepsKept p _ _ _ _).holds) e l
  | autoSweepSet r flags sweep => exact ends.take (forPort_keeps fun p h => (h.autoSweepSet_sweepsKept p _ _).holds) e l
  | sweepRequest r sweep first => exact ends.take (forPort_keeps fun p _ => Hub.sweepRequest_sweepsHold p _ _) e l
  | settlingEnd n => exact execSettlingEnd_sweepsHold e l
  | shot n trace => exact execShot_sweepsHold e l
  | repeatIntervalEnd n => exact execRepeatIntervalEnd_sweepsHold e l
  | sweepCancel r => exact ends.take (forPort_keeps fun p _ => Hub.cancelSweep_sweepsHold p) e l
  | faultClear r => exact ends.take (forPort_keeps fun p h => (h.faultClear_sweepsKept p).holds) e l
  | ringSet r start length timeout =>
    exact ends.take (forPort_keeps fun p h => aside (h.ringSet_isoItems p _ _ _) (Hub.ringSet_linksKept p _ _ _)) e l
  | frameHold r number => exact ends.take (forPort_keeps fun p h => aside (h.frameHold_isoItems p _) (Hub.frameHold_linksKept p _)) e l
  | frameRelease r number =>
    exact ends.take (forPort_keeps fun p h => aside (h.frameRelease_isoItems p _) (Hub.frameRelease_linksKept p _)) e l
  | viewLoad r view params => exact ends.take (forHub_keeps fun h => aside (h.viewLoad_isoItems _ _) (Hub.viewLoad_linksKept _ _)) e l
  | viewBind r view => exact ends.take (forPort_keeps fun p h => aside (h.viewBind_isoItems p _) (Hub.viewBind_linksKept p _)) e l
  | viewUnbind r | pipeReset r => exact ends.take (forPort_keeps fun _ _ l => l) e l
  | coefSelect r table => exact ends.take (forHub_keeps fun h => aside (h.coefSelect_isoItems _) (Hub.coefSelect_linksKept _)) e l
  | coefWrite r values => exact ends.take (forHub_keeps fun h => aside (h.coefWrite_isoItems _) (Hub.coefWrite_linksKept _)) e l
  | frameResend r number view =>
    exact ends.take (forPort_keeps fun p h => aside (h.frameResend_isoItems s.dram p _ _) (Hub.frameResend_linksKept s.dram p _ _)) e l
  | egressSet r settings =>
    exact ends.take (forEither_keeps fun p h => aside (h.egressSet_isoItems settings p) (Hub.egressSet_linksKept settings p)) e l

/-- Settles O11: every command keeps the laws, and a microsecond of hub time changes neither sweeps, power nor links. -/
theorem sweepsKeepTheirPlaces : Obligations.SweepsKeepTheirPlaces := by
  intro s t l e
  unfold step at e
  split at e
  case h_1 => cases e; exact l
  case h_2 i rest _ => exact exec_sweepsHold i { s with pending := rest } t e l

end Sys2Proof.Machine

/-! # The cable settings and the clearing of the fault list (R62, R63, R64, R80) -/

namespace Sys2Proof.Machine

theorem asFin_of_lt {n k : Nat} (lt : k < n) : asFin n k = some ⟨k, lt⟩ := dif_pos lt

theorem asFin_of_not_lt {n k : Nat} (ge : ¬ k < n) : asFin n k = none := dif_neg ge

/-- An end polarity reads where it is 0, 1 or 2 (Table 4-1), and is sent as it was read. -/
theorem readEndPolarity_of_le {n : Nat} (le : n ≤ 2) :
    readEndPolarity n = some (if n = 0 then some .pos else if n = 1 then some .neg else none) := by
  interval_cases n <;> rfl

theorem endPolarityCode_of_le {n : Nat} (le : n ≤ 2) :
    endPolarityCode (if n = 0 then some .pos else if n = 1 then some .neg else none) = u8 n := by
  interval_cases n <;> rfl

theorem readEndPolarity_of_not_le {n : Nat} (big : ¬ n ≤ 2) : readEndPolarity n = none :=
  List.getElem?_eq_none (by simp; omega)

/-- A choice of pairs reads where it is 0, 1 or 2 (Table 4-3), and is sent as it was read. -/
theorem readPairSel_of_le {n : Nat} (le : n ≤ 2) :
    readPairSel n = some (if n = 0 then .data else if n = 1 then .power else .both) := by
  interval_cases n <;> rfl

theorem pairSelCode_of_le {n : Nat} (le : n ≤ 2) :
    pairSelCode (if n = 0 then .data else if n = 1 then .power else .both) = u8 n := by
  interval_cases n <;> rfl

theorem readPairSel_of_not_le {n : Nat} (big : ¬ n ≤ 2) : readPairSel n = none :=
  List.getElem?_eq_none (by simp; omega)

/-- The six sweep parameters are in their ranges (Table 4-3). -/
def SweepFits (q : SweepParamsRaw) : Prop :=
  q.pair ≤ 2 ∧ q.k ≤ 6 ∧ 1 ≤ q.repeats ∧ q.repeats ≤ 16 ∧ 10 ≤ q.interval ∧ q.interval ≤ 1000 ∧ q.width ≤ 15 ∧ q.scale ≤ 3

/-- The sweep parameters that fitting values give. -/
def sweepParamsRead (q : SweepParamsRaw) : SweepParams :=
  { pair := if q.pair = 0 then .data else if q.pair = 1 then .power else .both
    k := q.k, repeats := q.repeats, interval := q.interval, width := q.width, scale := q.scale }

theorem readSweepParams_of_fits {q : SweepParamsRaw} (fits : SweepFits q) : readSweepParams q = some (sweepParamsRead q) := by
  obtain ⟨pair, k, r1, r2, i1, i2, width, scale⟩ := fits
  simp [readSweepParams, readPairSel_of_le pair, within, k, r1, r2, i1, i2, width, scale, sweepParamsRead]

theorem readSweepParams_of_not_fits {q : SweepParamsRaw} (misses : ¬ SweepFits q) : readSweepParams q = none := by
  by_cases pair : q.pair ≤ 2
  · have others : ¬ (within 0 6 q.k && within 1 16 q.repeats && within 10 1000 q.interval && within 0 15 q.width &&
        within 0 3 q.scale) = true := fun ok => misses (by
      simp only [Bool.and_eq_true, within_iff] at ok
      unfold SweepFits
      omega)
    simp only [readSweepParams, readPairSel_of_le pair, if_neg others]
  · simp only [readSweepParams, readPairSel_of_not_le pair]

theorem sweepParamsBytes_read {q : SweepParamsRaw} (fits : SweepFits q) :
    sweepParamsBytes (sweepParamsRead q) = u8 q.pair ++ u8 q.k ++ u8 q.repeats ++ u16 q.interval ++ u8 q.width ++ u8 q.scale := by
  simp only [sweepParamsBytes, sweepParamsRead, pairSelCode_of_le fits.1]

section
variable {h : Hub} {p : Port} {type speed polarity threshold length tolerance offset flags : Nat} {q : SweepParamsRaw}

theorem Hub.cableTypeSet_of_range (kind : type < 4) (fits : 100 ≤ speed ∧ speed ≤ 300 ∧ polarity ≤ 2 ∧ 1 ≤ threshold ∧ threshold ≤ 255) :
    h.cableTypeSet type speed polarity threshold =
      (h.modCables fun u =>
        { u with
          types := vset u.types ⟨type, kind⟩
            { speed := speed
              polarity := if polarity = 0 then some .pos else if polarity = 1 then some .neg else none
              threshold := threshold } },
        okWith (u16 speed ++ u8 polarity ++ u8 threshold)) := by
  obtain ⟨s1, s2, pol, t1, t2⟩ := fits
  simp only [Hub.cableTypeSet, asFin_of_lt kind, readEndPolarity_of_le pol, endPolarityCode_of_le pol]
  exact if_pos (by simp [within, s1, s2, t1, t2])

theorem Hub.cableTypeSet_of_not_range
    (misses : ¬ (type < 4 ∧ 100 ≤ speed ∧ speed ≤ 300 ∧ polarity ≤ 2 ∧ 1 ≤ threshold ∧ threshold ≤ 255)) :
    h.cableTypeSet type speed polarity threshold = (h, refuse .range) := by
  by_cases kind : type < 4
  · by_cases pol : polarity ≤ 2
    · simp only [Hub.cableTypeSet, asFin_of_lt kind, readEndPolarity_of_le pol]
      exact if_neg fun ok => misses (by simp only [Bool.and_eq_true, within_iff] at ok; omega)
    · simp only [Hub.cableTypeSet, asFin_of_lt kind, readEndPolarity_of_not_le pol]
  · simp only [Hub.cableTypeSet, asFin_of_not_lt kind]

theorem Hub.portCableSet_of_range (kind : type < 4) (fits : 1 ≤ length ∧ length ≤ 100000 ∧ tolerance ≤ 5000 ∧ offset ≤ 4095) :
    h.portCableSet p type length tolerance offset =
      (h.modCable p fun c => { c with type := ⟨type, kind⟩, length := length, tolerance := tolerance, offset := offset },
        okWith (u8 type ++ u32 length ++ u16 tolerance ++ u16 offset)) := by
  obtain ⟨l1, l2, t, o⟩ := fits
  simp only [Hub.portCableSet, asFin_of_lt kind]
  exact if_pos (by simp [within, l1, l2, t, o])

theorem Hub.portCableSet_of_not_range (misses : ¬ (type < 4 ∧ 1 ≤ length ∧ length ≤ 100000 ∧ tolerance ≤ 5000 ∧ offset ≤ 4095)) :
    h.portCableSet p type length tolerance offset = (h, refuse .range) := by
  by_cases kind : type < 4
  · simp only [Hub.portCableSet, asFin_of_lt kind]
    exact if_neg fun ok => misses (by simp only [Bool.and_eq_true, within_iff] at ok; omega)
  · simp only [Hub.portCableSet, asFin_of_not_lt kind]

theorem Hub.autoSweepSet_of_range (mask : flags < 32) (fits : SweepFits q) :
    h.autoSweepSet p flags q =
      (h.modCable p fun c =>
        { c with
          onDetectFail := flags.testBit 0, onHardShort := flags.testBit 1, onLock := flags.testBit 2
          onLinkFail := flags.testBit 3, onDrops := flags.testBit 4, auto := sweepParamsRead q },
        okWith (u8 flags ++ u8 q.pair ++ u8 q.k ++ u8 q.repeats ++ u16 q.interval ++ u8 q.width ++ u8 q.scale)) := by
  simp only [Hub.autoSweepSet, readSweepParams_of_fits fits, sweepParamsBytes_read fits, List.append_assoc]
  exact if_neg (Nat.not_le_of_lt mask)

theorem Hub.autoSweepSet_of_not_range (misses : ¬ (flags < 32 ∧ SweepFits q)) : h.autoSweepSet p flags q = (h, refuse .range) := by
  by_cases fits : SweepFits q
  · simp only [Hub.autoSweepSet, readSweepParams_of_fits fits]
    exact if_pos (Nat.le_of_not_lt fun mask => misses ⟨mask, fits⟩)
  · simp only [Hub.autoSweepSet, readSweepParams_of_not_fits fits]

theorem Hub.faultClear_of_running (running : (h.cb p).sweepStatus = .running) : h.faultClear p = (h, refuse .sweeping) :=
  if_pos running

/-- The OPEN records of the port are cleared, with its fault isolation (R80). -/
theorem Hub.faultClear_of_not_running (rests : (h.cb p).sweepStatus ≠ .running) :
    h.faultClear p =
      ((h.modCables fun u =>
        { u with
          faults := u.faults.map fun f =>
            if f.isOpen = true ∧ f.port = p then { f with isOpen := false, updated := h.time } else f }).modCable p
        fun c => { c with faultIsolation := false },
      okWith (u8 (h.cables.faults.filter fun f => f.isOpen && decide (f.port = p)).length)) := by
  simp only [Hub.faultClear, if_neg rests, FaultRecord.opensPort, Bool.and_eq_true, decide_eq_true_eq]

end

/-- Settles O41: each outcome is the owner's answer on the hub whose head request is taken. -/
theorem cableSettingsReplaced : Obligations.CableSettingsReplaced := by
  intro s r pkt p type speed polarity threshold length tolerance offset flags q
  refine ⟨fun asked => ⟨fun kind fits => ?type, fun misses => ?typeRange⟩,
    fun asked => ⟨fun kind fits => ?cable, fun misses => ?cableRange⟩,
    fun asked => ⟨fun ⟨mask, fits⟩ => ?auto, fun misses => ?autoRange⟩,
    fun asked => ⟨fun running => ?sweeping, fun rests => ?clear⟩⟩
  case type => exact State.answers_forHub rfl rfl asked (Hub.cableTypeSet_of_range kind fits)
  case typeRange => exact State.answers_forHub rfl rfl asked (Hub.cableTypeSet_of_not_range misses)
  case cable => exact State.answers_forPort rfl rfl asked (Hub.portCableSet_of_range kind fits)
  case cableRange => exact State.answers_forPort rfl rfl asked (Hub.portCableSet_of_not_range misses)
  case auto => exact State.answers_forPort rfl rfl asked (Hub.autoSweepSet_of_range mask fits)
  case autoRange => exact State.answers_forPort rfl rfl asked (Hub.autoSweepSet_of_not_range misses)
  case sweeping => exact State.answers_forPort rfl rfl asked (Hub.faultClear_of_running running)
  case clear => exact State.answers_forPort rfl rfl asked (Hub.faultClear_of_not_running rests)

end Sys2Proof.Machine

/-! # The evaluation of a repeat (R71 to R73) -/

namespace Sys2Proof.Machine

/-- Half the shots, rounded up, are reached where twice the hits are the shots. -/
theorem ceilDiv_two_le {n hits : Nat} : ceilDiv n 2 ≤ hits ↔ n ≤ hits * 2 := by
  simp only [ceilDiv]
  omega

section
variable (c : SweepContext)

/-- The hits of the winning polarity: the more of the two (R71). -/
def SweepContext.hits : Nat := if c.negHits < c.posHits then c.posHits else c.negHits

/-- The summed echo times of the winning polarity (R71). -/
def SweepContext.sum : Nat := if c.negHits < c.posHits then c.posSum else c.negSum

/-- The distance that the average of the winning polarity gives (R72). -/
def SweepContext.distance : Nat := distanceMm (averageQ4 c.sum c.hits) c.offset c.speed

/-- A repeat has an echo where the winning polarity's hits are at least half the shots (R71 to R73). -/
theorem SweepContext.evaluate_eq :
    c.evaluate =
      if 2 ^ c.params.k ≤ c.hits * 2 then
        (classify c.distance c.length c.tolerance (winner c.posHits c.negHits) c.polarity,
          { polarity := winner c.posHits c.negHits, hits := c.hits, echo := some (averageQ4 c.sum c.hits, c.distance) })
      else (.none, { polarity := winner c.posHits c.negHits, hits := c.hits, echo := none }) := by
  by_cases more : c.negHits < c.posHits
  · have won : winner c.posHits c.negHits = .pos := if_pos more
    simp only [SweepContext.evaluate, SweepContext.distance, SweepContext.hits, SweepContext.sum, won, if_pos more,
      ceilDiv_two_le, SweepParams.shots]
  · have won : winner c.posHits c.negHits = .neg := if_neg more
    simp only [SweepContext.evaluate, SweepContext.distance, SweepContext.hits, SweepContext.sum, won, if_neg more,
      ceilDiv_two_le, SweepParams.shots]

/-- Before L - T the class is a break, of a kind given by the polarity (R73). -/
theorem classify_of_before {d length tolerance pos neg : Nat} {expected : Option Polarity} (before : d + tolerance < length) :
    classify d length tolerance (winner pos neg) expected = if neg < pos then .breakOpen else .breakShort := by
  by_cases more : neg < pos
  · simp only [classify, if_pos before, winner, if_pos more]
  · simp only [classify, if_pos before, winner, if_neg more]

theorem classify_of_beyond {d length tolerance : Nat} {won : Polarity} {expected : Option Polarity}
    (beyond : length + tolerance < d) : classify d length tolerance won expected = .beyond := by
  simp only [classify, if_neg (show ¬ d + tolerance < length by omega), if_pos beyond]

theorem classify_of_end {d length tolerance : Nat} {won : Polarity} {expected : Option Polarity}
    (after : length ≤ d + tolerance) (within : d ≤ length + tolerance) :
    classify d length tolerance won expected = if expected = some won then .atEnd else .endMismatch := by
  simp only [classify, if_neg (Nat.not_lt_of_le after), if_neg (Nat.not_lt_of_le within), eq_comm]

/-- Echo times of at most 1,023 ticks average to at most 16,368 sixteenths of a tick (R71). -/
theorem averageQ4_le {sum hits : Nat} (ticks : sum ≤ 1023 * hits) : averageQ4 sum hits ≤ 16368 :=
  Nat.div_le_of_le_mul (by omega)

/-- At 300 m/µs at most, such an average lies at most 383,625 mm away (R72). -/
theorem distanceMm_le {avg offset speed : Nat} (near : avg ≤ 16368) (slow : speed ≤ 300) :
    distanceMm avg offset speed ≤ 383625 := by
  unfold distanceMm
  split
  · exact Nat.zero_le _
  · have product : (avg - offset) * speed ≤ 16368 * 300 := Nat.mul_le_mul (by omega) slow
    omega

theorem SweepContext.sum_le (pos : c.posSum ≤ 1023 * c.posHits) (neg : c.negSum ≤ 1023 * c.negHits) :
    c.sum ≤ 1023 * c.hits := by
  unfold SweepContext.sum SweepContext.hits
  split
  · exact pos
  · exact neg

end

/-- Settles O45: a repeat without an echo has its class at once; one with an echo has the class of its distance. -/
theorem repeatsAreClassified : Obligations.RepeatsAreClassified := by
  intro c
  refine ⟨fun few => ?_, fun enough => ?_, fun pos neg slow a x echo => ?_⟩
  · exact c.evaluate_eq.trans (if_neg (Nat.not_le_of_lt few))
  · have echoed := c.evaluate_eq.trans (if_pos enough)
    rw [echoed]
    exact ⟨rfl, classify_of_before, classify_of_beyond, classify_of_end⟩
  · rw [c.evaluate_eq] at echo
    split at echo
    · cases echo
      have near := averageQ4_le (c.sum_le pos neg)
      exact ⟨near, distanceMm_le near slow⟩
    · cases echo

end Sys2Proof.Machine

/-! # The end of a sweep (R52, R79): what is left of its port, the engines and the postponed retry -/

namespace Sys2Proof.Machine

section
variable {h : Hub} {p : Port} {e : EngineNo}

/-! ## The postponed retry (R52) -/

theorem Hub.enterDetecting_pw :
    (h.enterDetecting p).pw p =
      { h.pw p with state := .detecting, cause := .none, phaseEnd := after h.time 20000, postponed := false } := by
  simp [Hub.enterDetecting, Hub.pw]

/-- A retry reports a power change, whichever way it ends (R51). -/
theorem Hub.retry_fPower : vget (h.retry p).mgmt.portFlags p &&& fPower = fPower := by
  unfold Hub.retry
  split
  · exact Hub.turnOff_fPower
  · split
    · exact Hub.flag_has _ p fPower
    · exact Hub.turnOff_fPower

/-- A retry under isolation turns the port off (R51, step 2). -/
theorem Hub.retry_pw_of_isolated (iso : h.effectiveIso p = true) :
    (h.retry p).pw p = { h.pw p with state := .off, cause := .isolate, allowanceHeld := false, postponed := false } := by
  rw [Hub.retry, if_pos iso, Hub.turnOff_pw]

/-- A retry whose grant fits the budget enters DETECTING (R51, step 4). -/
theorem Hub.retry_pw_of_fits (free : h.effectiveIso p = false) (fits : h.grantedTotal + (h.pw p).grant ≤ h.cell.budget) :
    (h.retry p).pw p =
      { h.pw p with state := .detecting, cause := .none, phaseEnd := after h.time 20000, postponed := false } := by
  have fits : h.grantFits p = true := decide_eq_true fits
  rw [Hub.retry, if_neg (by simp [free]), if_pos fits, Hub.enterDetecting_pw]

/-- A retry without the budget turns the port off (R51, step 3). -/
theorem Hub.retry_pw_of_short (free : h.effectiveIso p = false) (short : h.cell.budget < h.grantedTotal + (h.pw p).grant) :
    (h.retry p).pw p = { h.pw p with state := .off, cause := .noBudget, allowanceHeld := false, postponed := false } := by
  have fails : ¬ h.grantFits p = true := by simpa [Hub.grantFits] using short
  rw [Hub.retry, if_neg (by simp [free]), if_neg fails, Hub.turnOff_pw]

/-- Where no retry is postponed, the end of a sweep changes nothing at the Power Controller. -/
theorem Hub.sweepReported_of_none (none : (h.pw p).state ≠ .cooldown ∨ (h.pw p).postponed = false) : h.sweepReported p = h := by
  have off : ((h.pw p).state = .cooldown && (h.pw p).postponed) ≠ true := by
    rcases none with state | postponed
    · simp [state]
    · simp [postponed]
  rw [Hub.sweepReported, if_neg off]

theorem Hub.sweepReported_of_postponed (cooling : (h.pw p).state = .cooldown) (postponed : (h.pw p).postponed = true) :
    h.sweepReported p = (h.modPower p fun q => { q with postponed := false }).retry p := by
  rw [Hub.sweepReported, if_pos (by simp [cooling, postponed])]

/-- The end of a sweep resumes the postponed retry (R52). -/
theorem Hub.sweepReported_resumed : h.RetryResumed (h.sweepReported p) p := by
  refine ⟨fun cooling postponed => ?_, fun none => by rw [Hub.sweepReported_of_none none]⟩
  rw [Hub.sweepReported_of_postponed cooling postponed]
  have total := Nat.add_right_cancel (h.modPower_grantedTotal (p := p) fun q => { q with postponed := false })
  have power := h.modPower_pw_same p fun q => { q with postponed := false }
  have units : (h.modPower p fun q => { q with postponed := false }).effectiveIso p = h.effectiveIso p ∧
      (h.modPower p fun q => { q with postponed := false }).cell = h.cell ∧
      (h.modPower p fun q => { q with postponed := false }).time = h.time := ⟨rfl, rfl, rfl⟩
  generalize (h.modPower p fun q => { q with postponed := false }) = k at total power units ⊢
  obtain ⟨iso, cell, time⟩ := units
  refine ⟨Hub.retry_fPower, fun on => ?_, fun free fits => ?_, fun free short => ?_⟩
  · rw [Hub.retry_pw_of_isolated (iso.trans on), power]
  · rw [Hub.retry_pw_of_fits (iso.trans free) (by rwa [total, power, cell]), power, time]
    rfl
  · rw [Hub.retry_pw_of_short (iso.trans free) (by rwa [total, power, cell]), power]

/-- The resumed retry, seen from an earlier and a later hub of the event. -/
theorem Hub.RetryResumed.within {a b c d : Hub} (r : b.RetryResumed c p)
    (before : b.time = a.time ∧ b.power = a.power ∧ b.cell = a.cell ∧ b.effectiveIso p = a.effectiveIso p)
    (later : d.power = c.power ∧ d.mgmt = c.mgmt) : a.RetryResumed d p := by
  obtain ⟨time, power, cell, iso⟩ := before
  obtain ⟨power', mgmt⟩ := later
  have before (q : Port) : b.pw q = a.pw q := by simp only [Hub.pw, power]
  have total : b.grantedTotal = a.grantedTotal := by simp only [Hub.grantedTotal, before]
  have later : d.pw p = c.pw p := by simp only [Hub.pw, power']
  unfold Hub.RetryResumed at r ⊢
  rwa [before, time, total, cell, iso, ← later, ← mgmt] at r

/-! ## A sweep over, at its port and in its engine -/

/-- The cable items of the port: only the sweep status changes, to IDLE. -/
theorem Hub.sweepOver_cb : (h.sweepOver p).cb p = { h.cb p with sweepStatus := .idle } := by
  simp [Hub.sweepOver, Hub.cb, Hub.modCable]

theorem Hub.sweepOver_cb_ne {q : Port} (other : q ≠ p) : (h.sweepOver p).cb q = h.cb q := by
  simp [Hub.sweepOver, Hub.cb, Hub.modCable, vget_vmod_ne, other]

@[simp] theorem Hub.sweepOver_cables : (h.sweepOver p).cables = h.cables := by simp [Hub.sweepOver]

theorem Hub.sweepOver_fSweep : vget (h.sweepOver p).mgmt.portFlags p &&& fSweep = fSweep :=
  (Hub.sweepReported_grow (.refl _)).1 p _ (Hub.flag_has _ p fSweep)

theorem Hub.sweepOver_resumed : h.RetryResumed (h.sweepOver p) p :=
  (Hub.sweepReported_resumed (h := (h.modCable p fun c => { c with sweepStatus := .idle }).flag p fSweep)).within
    (by simp [Hub.effectiveIso, Hub.cb, Hub.modCable]) ⟨rfl, rfl⟩

/-- From h to h', a sweep has ended and recorded nothing (R79): its port is IDLE and reported, the fault list as it was, and a
postponed retry resumed. -/
structure Hub.SweepEnded (h h' : Hub) (p : Port) : Prop where
  cb : h'.cb p = { h.cb p with sweepStatus := .idle }
  faults : h'.cables.faults = h.cables.faults
  nextRecord : h'.cables.nextRecord = h.cables.nextRecord
  reported : vget h'.mgmt.portFlags p &&& fSweep = fSweep
  resumed : h.RetryResumed h' p

/-- An engine that stops ends its sweep, its port not waiting in the queue for another. -/
theorem Hub.stopSweep_ended (apart : p ∉ h.cables.queue.map (·.port)) : h.SweepEnded (h.stopSweep e p) p := by
  have queue : ((h.setEngine e none).sweepOver p).cables.queue = h.cables.queue := by simp
  refine ⟨?_, ?_, ?_, ?_, ?_⟩
  · rw [Hub.stopSweep, Hub.offerEngines_cb (by rwa [queue]), Hub.sweepOver_cb, Hub.setEngine_cb]
  · simp [Hub.stopSweep]
  · simp [Hub.stopSweep]
  · simpa [Hub.stopSweep] using Hub.sweepOver_fSweep (h := h.setEngine e none) (p := p)
  · exact (Hub.sweepOver_resumed (h := h.setEngine e none)).within ⟨rfl, rfl, rfl, rfl⟩ (by simp [Hub.stopSweep])

end

end Sys2Proof.Machine

/-! # Shots and the phases of an engine (R69, R70) -/

namespace Sys2Proof.Machine

/-! ## The first crossing of a threshold (R70) -/

/-- A sample that crosses a threshold from the voltage before it, within the ticks of the echo (R70, log entry 14). -/
def crossing (threshold fromTick : Nat) (level : Int) (tick : Nat) (v : Int) : Option Polarity :=
  if tick < fromTick ∨ 1023 < tick then none
  else if (threshold : Int) < v ∧ level ≤ threshold then some .pos
  else if v < -(threshold : Int) ∧ -(threshold : Int) ≤ level then some .neg
  else none

/-- The voltage that stands after some samples. -/
def levelAfter (level : Int) (front : List (Nat × Int)) : Int := (front.getLast?.map (·.2)).getD level

theorem levelAfter_cons (level : Int) (tick : Nat) (v : Int) (front : List (Nat × Int)) :
    levelAfter level ((tick, v) :: front) = levelAfter v front := by
  cases last : front.getLast? <;> simp [levelAfter, List.getLast?_cons, last]

section
variable {threshold fromTick : Nat}

/-- The first sample crosses, or the crossing is sought among the others. -/
theorem firstCrossing_cons (level : Int) (tick : Nat) (v : Int) (rest : List (Nat × Int)) :
    firstCrossing threshold fromTick level ((tick, v) :: rest) =
      ((crossing threshold fromTick level tick v).map fun pol => (pol, tick)).or (firstCrossing threshold fromTick v rest) := by
  by_cases out : tick < fromTick ∨ 1023 < tick
  · have within : ¬ (fromTick ≤ tick ∧ tick ≤ 1023) := by omega
    simp [firstCrossing, crossing, out, within]
  · have within : fromTick ≤ tick ∧ tick ≤ 1023 := by omega
    by_cases up : (threshold : Int) < v ∧ level ≤ threshold
    · simp [firstCrossing, crossing, out, within, up]
    · by_cases down : v < -(threshold : Int) ∧ -(threshold : Int) ≤ level
      · simp [firstCrossing, crossing, out, within, up, down]
      · simp [firstCrossing, crossing, out, within, up, down]

/-- Samples that do not cross leave the crossing to those behind them. -/
theorem firstCrossing_append {rest : List (Nat × Int)} (front : List (Nat × Int)) (level : Int)
    (quiet : ∀ a tick v b, front = a ++ (tick, v) :: b → crossing threshold fromTick (levelAfter level a) tick v = none) :
    firstCrossing threshold fromTick level (front ++ rest) = firstCrossing threshold fromTick (levelAfter level front) rest := by
  induction front generalizing level with
  | nil => rfl
  | cons x front ih =>
    obtain ⟨tick, v⟩ := x
    have first : crossing threshold fromTick level tick v = none := quiet [] tick v front rfl
    rw [List.cons_append, firstCrossing_cons, first, levelAfter_cons]
    refine ih v fun a t w b e => ?_
    rw [← levelAfter_cons level tick v]
    exact quiet ((tick, v) :: a) t w b (by rw [e]; rfl)

end

section
variable {c : SweepContext}

/-- The echo is the crossing that no other precedes. -/
theorem SweepContext.echo_of_crossing {front back : List (Nat × Int)} {tick : Nat} {v : Int} {pol : Polarity}
    (here : crossing c.threshold (c.params.pulse + 4) (levelAfter 0 front) tick v = some pol)
    (quiet : ∀ a t w b, front = a ++ (t, w) :: b → crossing c.threshold (c.params.pulse + 4) (levelAfter 0 a) t w = none) :
    c.echo (front ++ (tick, v) :: back) = some (pol, tick) := by
  rw [SweepContext.echo, firstCrossing_append front 0 quiet, firstCrossing_cons, here]
  rfl

/-- Without a crossing there is no echo. -/
theorem SweepContext.echo_of_quiet {trace : List (Nat × Int)}
    (quiet : ∀ a t w b, trace = a ++ (t, w) :: b → crossing c.threshold (c.params.pulse + 4) (levelAfter 0 a) t w = none) :
    c.echo trace = none := by
  have through := firstCrossing_append (rest := []) trace 0 quiet
  rwa [List.append_nil] at through

end

/-! ## The phases of an engine (R69) -/

section
variable {s : State} {e : EngineNo} {c : SweepContext} {phase : EnginePhase} {duration : SweepContext → Nat}

theorem Hub.enginePhaseOver_of_due (runs : s.hub.engine e = some c) (here : c.phase = phase)
    (late : duration c ≤ elapsed s.hub.time c.phaseStart) : s.hub.enginePhaseOver e phase duration = some c := by
  simp [Hub.enginePhaseOver, runs, here, passed, late]

theorem Hub.enginePhaseOver_of_early (runs : s.hub.engine e = some c) (early : elapsed s.hub.time c.phaseStart < duration c) :
    s.hub.enginePhaseOver e phase duration = none := by
  simp [Hub.enginePhaseOver, runs, passed, early]

theorem execSettlingEnd_of_due (runs : s.hub.engine e = some c) (here : c.phase = .settling)
    (late : 10000 ≤ elapsed s.hub.time c.phaseStart) :
    s.Does (.settlingEnd e) (s.hub.setEngine e (some (c.beginRepeat 1 (after c.phaseStart 10000)))) := by
  change execSettlingEnd e s = _
  rw [execSettlingEnd, Hub.enginePhaseOver_of_due runs here late]
  rfl

theorem execSettlingEnd_of_early (runs : s.hub.engine e = some c) (early : elapsed s.hub.time c.phaseStart < 10000) :
    exec (.settlingEnd e) s = .next s := by
  change execSettlingEnd e s = _
  rw [execSettlingEnd, Hub.enginePhaseOver_of_early runs early]

theorem execRepeatIntervalEnd_of_due (runs : s.hub.engine e = some c) (here : c.phase = .waiting)
    (late : c.gap ≤ elapsed s.hub.time c.phaseStart) :
    s.Does (.repeatIntervalEnd e) (s.hub.setEngine e (some (c.beginRepeat (c.repeatNo + 1) (after c.phaseStart c.gap)))) := by
  change execRepeatIntervalEnd e s = _
  rw [execRepeatIntervalEnd, Hub.enginePhaseOver_of_due runs here late]
  rfl

theorem execShot_of_due {trace : List (Nat × Int)} (runs : s.hub.engine e = some c) (here : c.phase = .shooting)
    (late : 4 ≤ elapsed s.hub.time c.phaseStart) : s.Does (.shot e trace) (s.hub.shotEnd e c trace) := by
  change execShot e trace s = _
  rw [execShot, Hub.enginePhaseOver_of_due runs here late]
  rfl

end

section
variable {h : Hub} {e : EngineNo} {c : SweepContext} {trace : List (Nat × Int)}

/-- An echo is counted among the shot outcomes, and changes nothing else. -/
theorem SweepContext.addEcho_frame (echo : Option (Polarity × Nat)) :
    (c.addEcho echo).port = c.port ∧ (c.addEcho echo).params = c.params ∧ (c.addEcho echo).pair = c.pair ∧
      (c.addEcho echo).repeatNo = c.repeatNo ∧ (c.addEcho echo).shotNo = c.shotNo ∧
      (c.addEcho echo).phaseStart = c.phaseStart ∧ c.addEcho echo = { c with
        posHits := (c.addEcho echo).posHits, negHits := (c.addEcho echo).negHits
        posSum := (c.addEcho echo).posSum, negSum := (c.addEcho echo).negSum } := by
  rcases echo with _ | ⟨_ | _, _⟩ <;> exact ⟨rfl, rfl, rfl, rfl, rfl, rfl, rfl⟩

theorem Hub.shotEnd_of_cancelling (cancelling : c.cancelling = true) : h.shotEnd e c trace = h.stopSweep e c.port := by
  rw [Hub.shotEnd, if_pos cancelling]

theorem Hub.shotEnd_of_going {d : SweepContext} (echoed : c.addEcho (c.echo trace) = d) (goes : c.cancelling = false) :
    h.shotEnd e c trace =
      if d.shotNo < d.params.shots then
        h.setEngine e (some { d with shotNo := d.shotNo + 1, phaseStart := after c.phaseStart 4 })
      else h.repeatEnd e d (after c.phaseStart 4) := by
  subst echoed
  obtain ⟨-, -, -, -, -, phaseStart, -⟩ := SweepContext.addEcho_frame (c := c) (c.echo trace)
  rw [Hub.shotEnd, if_neg (by simp [goes])]
  simp only [phaseStart]

/-- A shot before the repeat's last adds its echo, and the next one begins (R69, R70). -/
theorem Hub.shotEnd_of_more {d : SweepContext} (echoed : c.addEcho (c.echo trace) = d) (goes : c.cancelling = false)
    (more : c.shotNo < 2 ^ c.params.k) :
    h.shotEnd e c trace = h.setEngine e (some { d with shotNo := d.shotNo + 1, phaseStart := after c.phaseStart 4 }) := by
  rw [Hub.shotEnd_of_going echoed goes]
  subst echoed
  obtain ⟨-, params, -, -, shotNo, -⟩ := SweepContext.addEcho_frame (c := c) (c.echo trace)
  exact if_pos (by rwa [shotNo, params])

end

/-- Settles O44: samples that do not cross leave the crossing to those behind them; a phase that is over begins the next one; and a
cancelled sweep ends as every engine does that stops. -/
theorem enginePhasesFollow : Obligations.EnginePhasesFollow := by
  refine ⟨fun c trace => ⟨fun front tick v back pol split here quiet => ?_, fun quiet => ?_⟩, fun s e c trace runs =>
    ⟨fun here late => ?_, fun _ early => ?_, fun here late => ?_, fun here late goes more => ?_,
      fun here late cancelling apart => ?_⟩⟩
  · rw [split]
    exact SweepContext.echo_of_crossing here quiet
  · exact SweepContext.echo_of_quiet quiet
  · exact execSettlingEnd_of_due runs here late
  · exact execSettlingEnd_of_early runs early
  · exact execRepeatIntervalEnd_of_due runs here late
  · have shot (d : SweepContext) (echoed : c.addEcho (c.echo trace) = d) : s.Does (.shot e trace)
        (s.hub.setEngine e (some { d with shotNo := d.shotNo + 1, phaseStart := after c.phaseStart 4 })) := by
      rw [← Hub.shotEnd_of_more echoed goes more]
      exact execShot_of_due runs here late
    refine ⟨fun silent => ?_, fun tick pos => ?_, fun tick neg => ?_⟩
    · exact shot c (by rw [silent]; rfl)
    · exact shot { c with posHits := c.posHits + 1, posSum := c.posSum + tick } (by rw [pos]; rfl)
    · exact shot { c with negHits := c.negHits + 1, negSum := c.negSum + tick } (by rw [neg]; rfl)
  · have shot := execShot_of_due (trace := trace) runs here late
    rw [Hub.shotEnd_of_cancelling cancelling] at shot
    have ended := Hub.stopSweep_ended (e := e) apart
    exact ⟨_, shot, ended.cb, ended.faults, ended.nextRecord, ended.reported, ended.resumed⟩

end Sys2Proof.Machine

/-! # SWEEP_CANCEL (R79) -/

namespace Sys2Proof.Machine

/-! ## What the engines hold after an offer -/

section
variable {h : Hub} {p : Port} {e n : EngineNo}

theorem Hub.engineTakes_engine_ne (other : n ≠ e) : (h.engineTakes e).engine n = h.engine n := by
  rcases h.engineTakes_cases e with same | ⟨q, rest, -, -, took⟩
  · rw [same]
  · rw [took, Hub.modCable_engine, Hub.setEngine_engine_ne _ other]
    rfl

theorem Hub.engineTakes_queue_of_idle (idle : h.engine e = none) : (h.engineTakes e).cables.queue = h.cables.queue.tail := by
  cases queue : h.cables.queue with
  | nil => rw [Hub.engineTakes_of_nil queue, queue]; rfl
  | cons q rest => rw [Hub.engineTakes_of_head idle queue]; rfl

/-- An engine does not come to sweep a port that does not wait in the queue. -/
theorem Hub.engineTakes_sweeps_ne (apart : p ∉ h.cables.queue.map (·.port)) (unswept : h.sweeps n ≠ some p) :
    (h.engineTakes e).sweeps n ≠ some p := by
  rcases h.engineTakes_cases e with same | ⟨q, rest, -, head, took⟩
  · rwa [same]
  · have other : q.port ≠ p := fun same => apart (by simp [head, same])
    by_cases here : n = e
    · subst here
      simpa [took, Hub.sweeps, Hub.sweepContext] using other
    · rwa [Hub.sweeps, Hub.engineTakes_engine_ne here]

theorem Hub.offerEngines_sweeps_ne (apart : p ∉ h.cables.queue.map (·.port)) (unswept : h.sweeps n ≠ some p) :
    h.offerEngines.sweeps n ≠ some p := by
  have later : p ∉ (h.engineTakes 0).cables.queue.map (·.port) := fun m =>
    apart (((h.engineTakes_queue 0).map (·.port)).subset m)
  exact Hub.engineTakes_sweeps_ne later (Hub.engineTakes_sweeps_ne apart unswept)

/-- The one IDLE engine takes the head of the queue, if any. -/
theorem Hub.offerEngines_queue_of_one (idle : h.engine e = none) (busy : ∀ n, n ≠ e → h.engine n ≠ none) :
    h.offerEngines.cables.queue = h.cables.queue.tail := by
  rcases EngineNo.eq_zero_or_one e with rfl | rfl
  · have still : (h.engineTakes 0).engine 1 ≠ none := by
      rw [Hub.engineTakes_engine_ne (by decide)]
      exact busy 1 (by decide)
    rw [Hub.offerEngines, Hub.engineTakes_of_busy still, Hub.engineTakes_queue_of_idle idle]
  · rw [Hub.offerEngines, Hub.engineTakes_of_busy (busy 0 (by decide)), Hub.engineTakes_queue_of_idle idle]

/-! ## An engine that stops -/

@[simp] theorem Hub.sweepOver_engine : (h.sweepOver p).engine n = h.engine n := by simp [Hub.engine]

theorem Hub.stopSweep_sweeps_ne (apart : p ∉ h.cables.queue.map (·.port)) (unswept : h.sweeps n ≠ some p) :
    (h.stopSweep e p).sweeps n ≠ some p := by
  refine Hub.offerEngines_sweeps_ne (by simpa using apart) ?_
  by_cases here : n = e
  · subst here; simp [Hub.sweeps]
  · simpa only [Hub.sweeps, Hub.sweepOver_engine, Hub.setEngine_engine_ne _ here] using unswept

/-- With no entry waiting, an engine that stops is IDLE. -/
theorem Hub.stopSweep_of_nil (empty : h.cables.queue = []) :
    (h.stopSweep e p).engine e = none ∧ (h.stopSweep e p).cables.queue = [] := by
  rw [Hub.stopSweep, Hub.offerEngines_of_nil (by simpa using empty)]
  simp [empty]

/-- With no engine IDLE before, the engine that stops takes the head of the queue. -/
theorem Hub.stopSweep_queue (busy : ∀ n, h.engine n ≠ none) : (h.stopSweep e p).cables.queue = h.cables.queue.tail := by
  have idle : ((h.setEngine e none).sweepOver p).engine e = none := by simp
  rw [Hub.stopSweep, Hub.offerEngines_queue_of_one idle fun n other => ?_]
  · simp
  · rw [Hub.sweepOver_engine, Hub.setEngine_engine_ne _ other]
    exact busy n

/-! ## The cancellation at each engine -/

theorem Hub.cancelEngine_of_sweeps_ne (unswept : h.sweeps n ≠ some p) : h.cancelEngine p n = h := by
  unfold Hub.cancelEngine
  split
  case h_1 c runs => exact if_neg fun same => unswept (Hub.sweeps_eq_some.mpr ⟨c, runs, same⟩)
  case h_2 => rfl

theorem Hub.cancelEngine_of_shooting {c : SweepContext} (runs : h.engine e = some c) (same : c.port = p)
    (shooting : c.phase = .shooting) : h.cancelEngine p e = h.setEngine e (some { c with cancelling := true }) := by
  simp only [Hub.cancelEngine, runs, same, shooting, if_true]

theorem Hub.cancelEngine_of_not_shooting {c : SweepContext} (runs : h.engine e = some c) (same : c.port = p)
    (rests : c.phase ≠ .shooting) : h.cancelEngine p e = h.stopSweep e p := by
  simp only [Hub.cancelEngine, runs, same, rests, if_true, if_false]

/-- The engine that sweeps the port, alone, has its part of the cancellation, and the other one none. -/
theorem Hub.cancelSweep_of_engine {k : Hub} (running : (h.cb p).sweepStatus = .running) (here : h.cancelEngine p e = k)
    (before : ∀ n, n ≠ e → h.sweeps n ≠ some p) (later : ∀ n, n ≠ e → k.sweeps n ≠ some p) : h.cancelSweep p = k := by
  rw [Hub.cancelSweep_of_running running]
  rcases EngineNo.eq_zero_or_one e with rfl | rfl
  · rw [here, Hub.cancelEngine_of_sweeps_ne (later 1 (by decide))]
  · rw [Hub.cancelEngine_of_sweeps_ne (before 0 (by decide)), here]

theorem Hub.cancelSweep_of_shooting {c : SweepContext} (running : (h.cb p).sweepStatus = .running) (runs : h.engine e = some c)
    (same : c.port = p) (before : ∀ n, n ≠ e → h.sweeps n ≠ some p) (shooting : c.phase = .shooting) :
    h.cancelSweep p = h.setEngine e (some { c with cancelling := true }) :=
  Hub.cancelSweep_of_engine running (Hub.cancelEngine_of_shooting runs same shooting) before fun n other => by
    simpa only [Hub.sweeps, Hub.setEngine_engine_ne _ other] using before n other

theorem Hub.cancelSweep_of_not_shooting {c : SweepContext} (running : (h.cb p).sweepStatus = .running) (runs : h.engine e = some c)
    (same : c.port = p) (before : ∀ n, n ≠ e → h.sweeps n ≠ some p) (apart : p ∉ h.cables.queue.map (·.port))
    (rests : c.phase ≠ .shooting) : h.cancelSweep p = h.stopSweep e p :=
  Hub.cancelSweep_of_engine running (Hub.cancelEngine_of_not_shooting runs same rests) before fun n other =>
    Hub.stopSweep_sweeps_ne apart (before n other)

/-! ## The other statuses -/

theorem Hub.cancelSweep_of_idle (idle : (h.cb p).sweepStatus = .idle) : h.cancelSweep p = h := by
  simp only [Hub.cancelSweep, idle]

theorem Hub.cancelSweep_of_queued (queued : (h.cb p).sweepStatus = .queued) :
    h.cancelSweep p = (h.modCables fun u => { u with queue := u.queue.filter fun q => q.port ≠ p }).sweepOver p := by
  simp only [Hub.cancelSweep, queued]

end

/-- SWEEP_CANCEL is answered with the sweep status that it finds, whatever its effect. -/
theorem State.answers_sweepCancel {s : State} {r : ReqHeader} {pkt : Packet} {p : Port} {status : SweepStatus} {k : Hub}
    (asked : s.asksPort (.sweepCancel r) pkt p = true) (found : (s.hub.cb p).sweepStatus = status)
    (effect : s.hub.popRequest.cancelSweep p = k) : s.Answers (.sweepCancel r) pkt k (okWith (sweepStatusCode status)) :=
  State.answers_forPort rfl rfl asked (by rw [← effect, ← found]; rfl)

/-- Settles O43: the port leaves the queue, or the one engine that sweeps it stops, at once or with its shot. -/
theorem sweepCancelRecordsNothing : Obligations.SweepCancelRecordsNothing := by
  intro s r pkt p e c asked
  refine ⟨fun idle => ?_, fun queued => ?_, fun running runs same alone apart => ?_⟩
  · exact State.answers_sweepCancel asked idle (Hub.cancelSweep_of_idle idle)
  · refine ⟨_, State.answers_sweepCancel asked queued (Hub.cancelSweep_of_queued queued), Hub.sweepOver_cables, Hub.sweepOver_cb,
      Hub.sweepOver_fSweep, ?_, fun o other => ⟨Hub.sweepOver_cb_ne other, ?_⟩⟩
    · have resumed := Hub.sweepOver_resumed (p := p)
        (h := s.hub.popRequest.modCables fun u => { u with queue := u.queue.filter fun q => q.port ≠ p })
      exact resumed.within ⟨rfl, rfl, rfl, rfl⟩ ⟨rfl, rfl⟩
    · exact (Hub.sweepOver_other _ p other).1
  · have before (n : EngineNo) (other : n ≠ e) : s.hub.popRequest.sweeps n ≠ some p := fun swept => by
      obtain ⟨d, runs, same⟩ := Hub.sweeps_eq_some.mp swept
      exact alone n d other runs same
    refine ⟨fun shooting => ?_, fun rests => ?_⟩
    · exact State.answers_sweepCancel asked running (Hub.cancelSweep_of_shooting running runs same before shooting)
    · have ended := Hub.stopSweep_ended (h := s.hub.popRequest) (e := e) apart
      have resumed := ended.resumed.within (a := s.hub) ⟨rfl, rfl, rfl, rfl⟩ ⟨rfl, rfl⟩
      have empties := Hub.stopSweep_of_nil (h := s.hub.popRequest) (p := p) (e := e)
      have advances := Hub.stopSweep_queue (h := s.hub.popRequest) (p := p) (e := e)
      have effect := Hub.cancelSweep_of_not_shooting (h := s.hub.popRequest) running runs same before apart rests
      exact ⟨_, State.answers_sweepCancel asked running effect, ended.cb, ended.faults, ended.nextRecord, ended.reported,
        resumed, empties, advances⟩

end Sys2Proof.Machine

/-! # SWEEP_REQUEST (R66, R68) -/

namespace Sys2Proof.Machine

/-! ## The one entry of a queue, and an entry behind busy engines -/

/-- The hub of an entry that has joined the queue, before the engines are offered it. -/
def Hub.withEntry (h : Hub) (q : SweepEntry) : Hub :=
  (h.modCables fun c => { c with queue := c.queue ++ [q] }).modCable q.port fun c => { c with sweepStatus := .queued }

/-- The hub of an accepted SWEEP_REQUEST. -/
def Hub.sweepAccepted (h : Hub) (p : Port) (params : SweepParams) : Hub := (h.powerDown p).enqueueSweep p params .requested

section
variable {h : Hub} {p : Port} {e : EngineNo} {params : SweepParams} {origin : SweepOrigin}

/-- The first IDLE engine takes the one entry of the queue (R68). -/
theorem Hub.offerEngines_of_entry {q : SweepEntry} (idle : h.engine e = none) (first : e = 1 → h.engine 0 ≠ none)
    (one : h.cables.queue = [q]) :
    h.offerEngines = ((h.modCables fun c => { c with queue := [] }).setEngine e (some (h.sweepContext q))).modCable q.port
      fun c => { c with sweepStatus := .running } := by
  rcases EngineNo.eq_zero_or_one e with rfl | rfl
  · rw [Hub.offerEngines, Hub.engineTakes_of_head idle one, Hub.engineTakes_of_nil rfl]
  · rw [Hub.offerEngines, Hub.engineTakes_of_busy (first rfl), Hub.engineTakes_of_head idle one]

/-- What an engine takes over with an entry is read from the port's cable items, the cable table and the time (R68). -/
theorem Hub.sweepContext_congr {k : Hub} (q : SweepEntry) (cable : k.cb q.port = { h.cb q.port with sweepStatus := (k.cb q.port).sweepStatus })
    (types : k.cables.types = h.cables.types) (time : k.time = h.time) : k.sweepContext q = h.sweepContext q := by
  unfold Hub.sweepContext
  rw [cable, types, time]

theorem Hub.enqueueSweep_eq : h.enqueueSweep p params origin = (h.withEntry ⟨p, params, origin⟩).offerEngines := rfl

/-- The entry of a request joins an empty queue, and the first IDLE engine takes it. -/
theorem Hub.enqueueSweep_of_idle (empty : h.cables.queue = []) (idle : h.engine e = none) (first : e = 1 → h.engine 0 ≠ none) :
    ((h.enqueueSweep p params origin).cb p).sweepStatus = .running ∧
      (h.enqueueSweep p params origin).engine e = some (h.sweepContext ⟨p, params, origin⟩) ∧
      (∀ n, n ≠ e → (h.enqueueSweep p params origin).engine n = h.engine n) ∧
      (h.enqueueSweep p params origin).cables.queue = [] := by
  have queue : (h.withEntry ⟨p, params, origin⟩).cables.queue = [⟨p, params, origin⟩] := by simp [Hub.withEntry, empty]
  have context : (h.withEntry ⟨p, params, origin⟩).sweepContext ⟨p, params, origin⟩ = h.sweepContext ⟨p, params, origin⟩ :=
    Hub.sweepContext_congr _ (by simp [Hub.withEntry]) rfl rfl
  rw [Hub.enqueueSweep_eq, Hub.offerEngines_of_entry (h := h.withEntry _) idle first queue, context]
  exact ⟨by simp, by simp, fun n other => Hub.setEngine_engine_ne _ other, rfl⟩

/-- Behind busy engines the entry waits at the tail of the queue. -/
theorem Hub.enqueueSweep_of_busy (busy : ∀ n, h.engine n ≠ none) :
    ((h.enqueueSweep p params origin).cb p).sweepStatus = .queued ∧
      (h.enqueueSweep p params origin).cables.queue = h.cables.queue ++ [⟨p, params, origin⟩] ∧
      (h.enqueueSweep p params origin).cables.engines = h.cables.engines := by
  have still : (h.withEntry ⟨p, params, origin⟩).offerEngines = h.withEntry ⟨p, params, origin⟩ := Hub.offerEngines_of_busy busy
  rw [Hub.enqueueSweep_eq, still]
  exact ⟨by simp [Hub.withEntry], rfl, rfl⟩

theorem Hub.enqueueSweep_faults : (h.enqueueSweep p params origin).cables.faults = h.cables.faults := by
  simp [Hub.enqueueSweep]

/-! ## The reply: the status with its place or its engine (R66) -/

theorem Hub.engineOf_of_first {c : SweepContext} (runs : h.engine 0 = some c) (same : c.port = p) : h.engineOf p = 0 := by
  simp only [Hub.engineOf, runs, same, if_true]

theorem Hub.engineOf_of_second (other : ∀ c, h.engine 0 = some c → c.port ≠ p) : h.engineOf p = 1 := by
  unfold Hub.engineOf
  split
  case h_1 c runs => exact if_neg (other c runs)
  case h_2 => rfl

/-- An entry at the tail stands behind all the others. -/
theorem CableUnit.placeOf_of_tail {u : CableUnit} {queue : List SweepEntry} (tail : u.queue = queue ++ [⟨p, params, origin⟩])
    (apart : p ∉ queue.map (·.port)) : u.placeOf p = queue.length + 1 := by
  have others : ∀ x ∈ queue, decide (x.port ≠ p) = true := fun x m =>
    decide_eq_true fun same => apart (List.mem_map.mpr ⟨x, m, same⟩)
  rw [CableUnit.placeOf, tail, List.takeWhile_append_of_pos others]
  simp

theorem Hub.sweepPlace_of_running (running : (h.cb p).sweepStatus = .running) :
    h.sweepPlace p = sweepStatusCode .running ++ u8 (h.engineOf p).val := by
  simp only [Hub.sweepPlace, running, if_true]

theorem Hub.sweepPlace_of_queued (queued : (h.cb p).sweepStatus = .queued) :
    h.sweepPlace p = sweepStatusCode .queued ++ u8 (h.cables.placeOf p) := by
  rw [Hub.sweepPlace, queued]
  rfl

/-! ## The power-down before a sweep (R55) -/

theorem Hub.powerDown_of_powered (on : (h.pw p).powered = true) : h.powerDown p = h.turnOff p .sweep 0 := if_pos on

theorem Hub.powerDown_of_not_powered (off : (h.pw p).powered = false) : h.powerDown p = h := if_neg (by simp [off])

theorem Hub.powerDown_engine : (h.powerDown p).engine e = h.engine e := by simp [Hub.engine]

/-! ## The checks of the request (R66) -/

theorem readYesNo_of_not_lt {n : Nat} (big : 2 ≤ n) : readYesNo n = none := by
  rw [readYesNo, if_neg (by omega), if_neg (by omega)]

theorem readYesNo_of_lt {n : Nat} (small : n < 2) : readYesNo n = some (decide (n = 1)) := by
  obtain rfl | rfl : n = 0 ∨ n = 1 := by omega
  · rfl
  · rfl

end

section
variable {h : Hub} {p : Port} {q : SweepParamsRaw} {params : SweepParams} {first : Nat}

theorem Hub.sweepRequest_of_not_range (misses : readSweepParams q = none ∨ 2 ≤ first) :
    h.sweepRequest p q first = (h, refuse .range) := by
  unfold Hub.sweepRequest
  split
  case h_1 params yes fits answer =>
    rcases misses with none | big
    · rw [none] at fits; cases fits
    · rw [readYesNo_of_not_lt big] at answer; cases answer
  case h_2 => rfl

theorem Hub.sweepRequest_of_range (fits : readSweepParams q = some params) (small : first < 2) :
    h.sweepRequest p q first =
      if (h.cb p).sweepStatus ≠ .idle then (h, refuse .sweeping)
      else if (h.pw p).powered && !decide (first = 1) then (h, refuse .powered)
      else (h.sweepAccepted p params, okWith ((h.sweepAccepted p params).sweepPlace p)) := by
  simp only [Hub.sweepRequest, fits, readYesNo_of_lt small]
  rfl

theorem Hub.sweepRequest_of_swept (fits : readSweepParams q = some params) (small : first < 2)
    (swept : (h.cb p).sweepStatus ≠ .idle) : h.sweepRequest p q first = (h, refuse .sweeping) := by
  rw [Hub.sweepRequest_of_range fits small, if_pos swept]

theorem Hub.sweepRequest_of_powered (fits : readSweepParams q = some params) (zero : first = 0)
    (idle : (h.cb p).sweepStatus = .idle) (on : (h.pw p).powered = true) : h.sweepRequest p q first = (h, refuse .powered) := by
  subst zero
  rw [Hub.sweepRequest_of_range fits (by decide), if_neg (not_not.mpr idle), if_pos (by simp [on])]

theorem Hub.sweepRequest_of_accepted (fits : readSweepParams q = some params) (small : first < 2)
    (idle : (h.cb p).sweepStatus = .idle) (may : (h.pw p).powered = false ∨ first = 1) :
    h.sweepRequest p q first = (h.sweepAccepted p params, okWith ((h.sweepAccepted p params).sweepPlace p)) := by
  have passes : ¬ ((h.pw p).powered && !decide (first = 1)) = true := by
    rcases may with off | yes
    · simp [off]
    · simp [yes]
  rw [Hub.sweepRequest_of_range fits small, if_neg (not_not.mpr idle), if_neg passes]

/-! ## What an accepted request leaves -/

/-- The port of an accepted request: powered down where it was powered, and as it was where it was not. -/
theorem Hub.sweepAccepted_own :
    ((h.pw p).powered = true → (h.sweepAccepted p params).pw p =
      { h.pw p with state := .off, cause := .sweep, allowanceHeld := false, postponed := false }) ∧
    ((h.pw p).powered = false → (h.sweepAccepted p params).pw p = h.pw p ∧ (h.sweepAccepted p params).lk p = h.lk p) := by
  refine ⟨fun on => ?_, fun off => ?_⟩
  · rw [Hub.sweepAccepted, Hub.enqueueSweep_pw, Hub.powerDown_of_powered on, Hub.turnOff_pw]
  · rw [Hub.sweepAccepted, Hub.enqueueSweep_pw, Hub.enqueueSweep_lk, Hub.powerDown_of_not_powered off]
    exact ⟨rfl, rfl⟩

theorem Hub.sweepAccepted_other {o : Port} (other : o ≠ p) :
    (h.sweepAccepted p params).pw o = h.pw o ∧ (h.sweepAccepted p params).lk o = h.lk o := by
  rw [Hub.sweepAccepted, Hub.enqueueSweep_pw, Hub.enqueueSweep_lk]
  exact ⟨by simp [Hub.pw, other], by simp [Hub.lk, other]⟩

/-- A port that was ON has left it, and the entry that joins the queue leaves it so (R50). -/
theorem Hub.sweepAccepted_leftOn (on : (h.pw p).state = .on) (bounded : (h.lk p).history.length ≤ 16) :
    h.LeftOn (h.sweepAccepted p params) p := by
  have pass : h.SlotsPass (h.turnOff p .sweep 0) (some p) := Hub.turnOff_slotsPass .sweep 0
  rw [Hub.sweepAccepted, Hub.powerDown_of_powered (PortPower.on_of_powered_state on)]
  exact (Hub.turnOff_leftOn on bounded).before_aside pass.up pass.grows (Hub.enqueueSweep_aside params .requested)

theorem Hub.popRequest_aside : h.Aside h.popRequest p :=
  ⟨⟨rfl, rfl⟩, rfl, rfl, rfl, rfl, rfl, .of_eq rfl rfl, rfl, List.prefix_refl _, fun _ => .same rfl⟩

theorem Hub.sweepAccepted_faults : (h.sweepAccepted p params).cables.faults = h.cables.faults := by
  rw [Hub.sweepAccepted, Hub.enqueueSweep_faults]
  simp

/-- An accepted request that an engine takes at once. -/
theorem Hub.sweepAccepted_of_idle {e : EngineNo} (empty : h.cables.queue = []) (idle : h.engine e = none)
    (first : e = 1 → h.engine 0 ≠ none) :
    ((h.sweepAccepted p params).cb p).sweepStatus = .running ∧
      (h.sweepAccepted p params).engine e = some (h.sweepContext ⟨p, params, .requested⟩) ∧
      (∀ n, n ≠ e → (h.sweepAccepted p params).engine n = h.engine n) ∧
      (h.sweepAccepted p params).cables.queue = [] := by
  obtain ⟨running, takes, others, queue⟩ := Hub.enqueueSweep_of_idle (h := h.powerDown p) (p := p) (params := params)
    (origin := .requested) (by simpa using empty) (Hub.powerDown_engine.trans idle) (by rwa [Hub.powerDown_engine])
  have context : (h.powerDown p).sweepContext ⟨p, params, .requested⟩ = h.sweepContext ⟨p, params, .requested⟩ :=
    Hub.sweepContext_congr _ (by simp [Hub.cb]) (by simp) (by simp)
  exact ⟨running, context ▸ takes, fun n other => (others n other).trans Hub.powerDown_engine, queue⟩

theorem Hub.sweepAccepted_of_first (empty : h.cables.queue = []) (idle : h.engine 0 = none) :
    ((h.sweepAccepted p params).cb p).sweepStatus = .running ∧
      (h.sweepAccepted p params).engine 0 = some (h.sweepContext ⟨p, params, .requested⟩) ∧
      (h.sweepAccepted p params).cables.queue = [] ∧
      (h.sweepAccepted p params).sweepPlace p = sweepStatusCode .running ++ u8 0 := by
  obtain ⟨running, takes, -, queue⟩ := Hub.sweepAccepted_of_idle (p := p) (params := params) empty idle (fun no => by cases no)
  refine ⟨running, takes, queue, ?_⟩
  rw [Hub.sweepPlace_of_running running, Hub.engineOf_of_first (p := p) takes rfl]
  rfl

theorem Hub.sweepAccepted_of_second (unswept : ∀ e c, h.engine e = some c → c.port ≠ p) (empty : h.cables.queue = [])
    (busy : h.engine 0 ≠ none) (idle : h.engine 1 = none) :
    ((h.sweepAccepted p params).cb p).sweepStatus = .running ∧
      (h.sweepAccepted p params).engine 1 = some (h.sweepContext ⟨p, params, .requested⟩) ∧
      (h.sweepAccepted p params).engine 0 = h.engine 0 ∧
      (h.sweepAccepted p params).cables.queue = [] ∧
      (h.sweepAccepted p params).sweepPlace p = sweepStatusCode .running ++ u8 1 := by
  obtain ⟨running, takes, others, queue⟩ := Hub.sweepAccepted_of_idle (p := p) (params := params) empty idle fun _ => busy
  have first := others 0 (by decide)
  refine ⟨running, takes, first, queue, ?_⟩
  rw [Hub.sweepPlace_of_running running, Hub.engineOf_of_second (first ▸ unswept 0)]
  rfl

/-- An accepted request that waits behind both engines. -/
theorem Hub.sweepAccepted_of_busy (apart : p ∉ h.cables.queue.map (·.port)) (busy : ∀ n, h.engine n ≠ none) :
    ((h.sweepAccepted p params).cb p).sweepStatus = .queued ∧
      (h.sweepAccepted p params).cables.queue = h.cables.queue ++ [⟨p, params, .requested⟩] ∧
      (h.sweepAccepted p params).cables.engines = h.cables.engines ∧
      (h.sweepAccepted p params).sweepPlace p =
        sweepStatusCode .queued ++ u8 (h.cables.queue.length + 1) := by
  have cables : (h.powerDown p).cables = h.cables := by simp
  obtain ⟨queued, tail, engines⟩ := Hub.enqueueSweep_of_busy (h := h.powerDown p) (p := p) (params := params) (origin := .requested)
    fun n => by rw [Hub.powerDown_engine]; exact busy n
  rw [cables] at tail engines
  refine ⟨queued, tail, engines, ?_⟩
  rw [Hub.sweepPlace_of_queued (h := h.sweepAccepted p params) queued,
    CableUnit.placeOf_of_tail (u := (h.sweepAccepted p params).cables) tail apart]

end

/-- Settles O42: each check refuses in its turn; an accepted request powers its port down, and then takes an engine or the tail of
the queue. -/
theorem sweepRequestsQueueOrRun : Obligations.SweepRequestsQueueOrRun := by
  intro s r pkt p q first params asked
  have answers {k : Hub} {reply : Reply} (e : s.hub.popRequest.sweepRequest p q first = (k, reply)) :
      s.Answers (.sweepRequest r q first) pkt k reply := State.answers_forPort rfl rfl asked e
  refine ⟨fun misses => answers (Hub.sweepRequest_of_not_range misses), fun fits small => ⟨fun swept => ?_,
    fun idle on zero => ?_, fun idle may unswept apart => ?_⟩⟩
  · exact answers (Hub.sweepRequest_of_swept fits small swept)
  · exact answers (Hub.sweepRequest_of_powered fits zero idle on)
  · have power : s.hub.popRequest.pw = s.hub.pw := rfl
    have link : s.hub.popRequest.lk = s.hub.lk := rfl
    obtain ⟨down, still⟩ := Hub.sweepAccepted_own (h := s.hub.popRequest) (p := p) (params := params)
    have other (o : Port) := Hub.sweepAccepted_other (h := s.hub.popRequest) (p := p) (params := params) (o := o)
    rw [power] at down still
    rw [link] at still
    simp only [power, link] at other
    refine ⟨s.hub.popRequest.sweepAccepted p params, _, answers (Hub.sweepRequest_of_accepted fits small idle may), fun on => ?_,
      still, other, Hub.sweepAccepted_faults, fun empty idle => ?_, fun empty busy idle => ?_, fun busy0 busy1 => ?_⟩
    · rw [down on]
      exact ⟨rfl, rfl, rfl, rfl, fun on bounded =>
        (Hub.sweepAccepted_leftOn (h := s.hub.popRequest) on bounded).after_aside Hub.popRequest_aside⟩
    · exact Hub.sweepAccepted_of_first (h := s.hub.popRequest) empty idle
    · exact Hub.sweepAccepted_of_second (h := s.hub.popRequest) unswept empty busy idle
    · refine Hub.sweepAccepted_of_busy (h := s.hub.popRequest) apart fun n => ?_
      rcases EngineNo.eq_zero_or_one n with rfl | rfl
      · exact busy0
      · exact busy1

end Sys2Proof.Machine

/-! # The fault list and a pair's result (R5, R75 to R78) -/

namespace Sys2Proof.Machine

/-! ## The list (R77, R78) -/

theorem FaultRecord.opens_iff {f : FaultRecord} {p : Port} {pair : Pair} :
    f.opens p pair = true ↔ f.isOpen = true ∧ f.port = p ∧ f.pair = pair := by
  simp [FaultRecord.opens, and_assoc]

/-- The record that goes is the first that is CLEARED (R77). -/
theorem dropOldestCleared_append {older newer : List FaultRecord} {f : FaultRecord} (opens : ∀ g ∈ older, g.isOpen = true)
    (cleared : f.isOpen = false) : dropOldestCleared (older ++ f :: newer) = older ++ newer := by
  induction older with
  | nil => simp [dropOldestCleared, cleared]
  | cons g older ih =>
    obtain ⟨first, others⟩ := List.forall_mem_cons.mp opens
    simp [dropOldestCleared, first, ih others]

theorem mem_dropOldestCleared {l : List FaultRecord} {f : FaultRecord} (isOpen : f.isOpen = true) (m : f ∈ l) :
    f ∈ dropOldestCleared l := by
  induction l with
  | nil => cases m
  | cons g rest ih =>
    unfold dropOldestCleared
    split
    case isTrue =>
      rcases List.mem_cons.mp m with rfl | m
      · exact List.mem_cons_self
      · exact List.mem_cons_of_mem g (ih m)
    case isFalse cleared =>
      rcases List.mem_cons.mp m with rfl | m
      · exact absurd isOpen cleared
      · exact m

theorem sawOther_eq (k : BreakKind) (r : PairResult) :
    sawOther k r = if k = .openBreak then r.shortSeen else r.openSeen := by cases k <;> rfl

section
variable {u : CableUnit} {c : SweepContext} {pair : Pair} {r : PairResult} {x : BreakSpan} {now : HubTime}

theorem CableUnit.writeFault_of_open (found : (u.faults.any fun f => f.opens c.port pair) = true) :
    u.writeFault c pair r x now =
      { u with faults := u.faults.map fun f => if f.opens c.port pair then mergeFault f r x now else f } := if_pos found

theorem CableUnit.writeFault_of_none (none : ∀ f ∈ u.faults, f.opens c.port pair = false) :
    u.writeFault c pair r x now =
      { u with
        faults := (if 16 ≤ u.faults.length then dropOldestCleared u.faults else u.faults) ++
          [newFault u.nextRecord c pair r x now]
        nextRecord := u.nextRecord + 1 } :=
  if_neg (by simpa using none)

/-- Of one OPEN record and others, the one takes the result in its place (R78). -/
theorem CableUnit.writeFault_merges {older newer : List FaultRecord} {f : FaultRecord} (split : u.faults = older ++ f :: newer)
    (opens : f.opens c.port pair = true) (alone : ∀ g ∈ older ++ newer, g.opens c.port pair = false) :
    u.writeFault c pair r x now = { u with faults := older ++ mergeFault f r x now :: newer } := by
  have stay {l : List FaultRecord} (quiet : ∀ g ∈ l, g.opens c.port pair = false) :
      (l.map fun f => if f.opens c.port pair then mergeFault f r x now else f) = l :=
    (List.map_congr_left fun g m => if_neg (by simp [quiet g m])).trans (List.map_id l)
  rw [CableUnit.writeFault_of_open (by rw [split]; simp [opens]), split, List.map_append, List.map_cons, if_pos opens,
    stay fun g m => alone g (List.mem_append_left newer m), stay fun g m => alone g (List.mem_append_right older m)]

/-- The list and the next number after a BREAK result, in the words of R77 and R78. -/
theorem CableUnit.writeFault_written :
    FaultWritten u.faults (u.writeFault c pair r x now).faults u.nextRecord (u.writeFault c pair r x now).nextRecord c pair r x
      now := by
  refine ⟨fun older f newer split opens alone => ?_, fun none => ?_⟩
  · rw [CableUnit.writeFault_merges split opens alone]
    refine ⟨rfl, ?_⟩
    simp only [mergeFault, sawOther_eq]
  · rw [CableUnit.writeFault_of_none none]
    refine ⟨rfl, fun room => ?_, fun older f newer split full cleared opens => ?_⟩
    · simp only [if_neg (Nat.not_le_of_lt room)]
      rfl
    · simp only [if_pos full]
      rw [split, dropOldestCleared_append opens cleared]
      rfl

/-- A record of the port and pair is OPEN with the result's last values (R77, R78). -/
theorem CableUnit.writeFault_has :
    ∃ f ∈ (u.writeFault c pair r x now).faults, f.opens c.port pair = true ∧ f.kind = r.latest ∧ f.lastMm = x.last ∧
      f.updated = now := by
  cases found : u.faults.any fun f => f.opens c.port pair with
  | true =>
    obtain ⟨f, m, opens⟩ := List.any_eq_true.mp found
    rw [CableUnit.writeFault_of_open found]
    exact ⟨mergeFault f r x now, List.mem_map.mpr ⟨f, m, if_pos opens⟩, opens, rfl, rfl, rfl⟩
  | false =>
    rw [CableUnit.writeFault_of_none (by simpa using found)]
    exact ⟨newFault u.nextRecord c pair r x now, by simp, by simp [FaultRecord.opens, newFault], rfl, rfl, rfl⟩

/-- An OPEN record of another port or pair stays as it is. -/
theorem CableUnit.mem_writeFault {f : FaultRecord} (m : f ∈ u.faults) (isOpen : f.isOpen = true)
    (other : f.opens c.port pair = false) : f ∈ (u.writeFault c pair r x now).faults := by
  cases found : u.faults.any fun f => f.opens c.port pair with
  | true =>
    rw [CableUnit.writeFault_of_open found]
    exact List.mem_map.mpr ⟨f, m, if_neg (by simp [other])⟩
  | false =>
    rw [CableUnit.writeFault_of_none (by simpa using found)]
    refine List.mem_append_left _ ?_
    split
    · exact mem_dropOldestCleared isOpen m
    · exact m

end

/-! ## Power turned off, from a port that is not ON (R9) -/

/-- The units that follow a departure from ON (R50). -/
def Hub.portUnits (h : Hub) : Vector LinkCtl 8 × Vector PortLens 8 × Vector PortTrigger 8 × Vector PortFrames 8 :=
  (h.link, h.lens, h.trig, h.frames)

section
variable {h : Hub} {p : Port} {c : SweepContext} {pair : Pair} {x : BreakSpan}

theorem PortPower.not_on_of_not_powered {q : PortPower} (off : q.powered = false) : q.state ≠ .on := fun on => by
  simp [PortPower.powered, on] at off

theorem Hub.turnOff_portUnits {cause : OffCause} {part : BitVec 16} (off : (h.pw p).state ≠ .on) :
    (h.turnOff p cause part).portUnits = h.portUnits := by
  obtain ⟨-, link, lens, -, trig, frames⟩ := Hub.cutPower_units (h := h) (p := p) (cause := cause) (part := part)
  rw [Hub.turnOff_of_not_on off]
  simp only [Hub.portUnits, link, lens, trig, frames]

theorem Hub.isolationRise_of_off (off : (h.pw p).state = .off) : h.isolationRise p = h := by
  simp only [Hub.isolationRise, off]

theorem Hub.isolationRise_of_cooldown (cooling : (h.pw p).state = .cooldown) : h.isolationRise p = h.turnOff p .isolate 0 := by
  simp only [Hub.isolationRise, cooling]

/-- A rise of isolation at a port that is not powered reaches no unit beyond its power. -/
theorem Hub.isolationRise_unpowered (off : (h.pw p).powered = false) :
    (h.isolationRise p).portUnits = h.portUnits ∧ ((h.isolationRise p).pw p).powered = false := by
  have on := PortPower.not_on_of_not_powered off
  unfold Hub.isolationRise
  split
  case h_5 | h_6 => exact ⟨rfl, off⟩
  all_goals exact ⟨Hub.turnOff_portUnits on, by rw [Hub.turnOff_pw]; rfl⟩

/-- The resumed retry of a port that is not powered reaches no unit beyond its power. -/
theorem Hub.sweepReported_portUnits (off : (h.pw p).powered = false) : (h.sweepReported p).portUnits = h.portUnits := by
  have on := PortPower.not_on_of_not_powered off
  have still : ((h.modPower p fun q => { q with postponed := false }).pw p).state ≠ .on := by simpa using on
  unfold Hub.sweepReported
  split
  · unfold Hub.retry
    split
    · exact Hub.turnOff_portUnits still
    · split
      · simp [Hub.enterDetecting, Hub.portUnits]
      · exact Hub.turnOff_portUnits still
  · rfl

/-! ## A pair's result (R75 step 1, R5) -/

/-- The hub of a pair's BREAK before a rise of isolation reaches the Power Controller. -/
def Hub.breakWritten (h : Hub) (c : SweepContext) (pair : Pair) (x : BreakSpan) : Hub :=
  ((h.modCables fun u => u.writeFault c pair (c.result pair) x h.time).modCable c.port fun y =>
    { y with faultIsolation := true }).setFlags c.port fFault 0

theorem Hub.recordPair_of_none (none : (c.result pair).span = none) : h.recordPair c pair = h := by
  simp only [Hub.recordPair, none]

theorem Hub.recordPair_of_span (seen : (c.result pair).span = some x) :
    h.recordPair c pair =
      if h.effectiveIso c.port then h.breakWritten c pair x else (h.breakWritten c pair x).isolationRise c.port := by
  simp only [Hub.recordPair, seen, Bool.not_eq_true']
  cases h.effectiveIso c.port <;> rfl

/-- From h to h', a pair's BREAK has been written, whether or not isolation has risen. -/
structure Hub.BreakRecorded (h h' : Hub) (c : SweepContext) (pair : Pair) (x : BreakSpan) : Prop where
  cables : h'.cables = h.cables.writeFault c pair (c.result pair) x h.time
  isolated : (h'.cb c.port).faultIsolation = true
  reported : vget h'.mgmt.portFlags c.port &&& fFault = fFault
  atRest : (h.pw c.port).state = .off → h'.power = h.power
  turnsOff : h.effectiveIso c.port = false → (h.pw c.port).state = .cooldown →
    (h'.pw c.port).state = .off ∧ (h'.pw c.port).cause = .isolate
  unpowered : (h.pw c.port).powered = false → h'.portUnits = h.portUnits ∧ (h'.pw c.port).powered = false

theorem Hub.recordPair_recorded (seen : (c.result pair).span = some x) : h.BreakRecorded (h.recordPair c pair) c pair x := by
  have isolated : ((h.breakWritten c pair x).cb c.port).faultIsolation = true := by simp [Hub.breakWritten, Hub.cb, Hub.modCable]
  have reported : vget (h.breakWritten c pair x).mgmt.portFlags c.port &&& fFault = fFault := by
    simp [Hub.breakWritten, and_or_self]
  rw [Hub.recordPair_of_span seen]
  split
  case isTrue iso =>
    exact ⟨rfl, isolated, reported, fun _ => rfl, fun free => absurd iso (by simp [free]), fun off => ⟨rfl, off⟩⟩
  case isFalse free =>
    have grows : (h.breakWritten c pair x).FlagsGrow ((h.breakWritten c pair x).isolationRise c.port) :=
      Hub.isolationRise_grow (.refl _)
    refine ⟨by simp [Hub.breakWritten], ?_, grows.1 _ _ reported, fun off => ?_, fun _ cooling => ?_, fun off => ?_⟩
    · rw [Hub.cb, (Hub.isolationRise_frame _ _).2.2.2.1]
      exact isolated
    · rw [Hub.isolationRise_of_off (h := h.breakWritten c pair x) off]
      rfl
    · rw [Hub.isolationRise_of_cooldown (h := h.breakWritten c pair x) cooling, Hub.turnOff_pw]
      exact ⟨rfl, rfl⟩
    · exact Hub.isolationRise_unpowered (h := h.breakWritten c pair x) off

end

end Sys2Proof.Machine

/-! # The end of a repeat and of a sweep (R69, R74, R75) -/

namespace Sys2Proof.Machine

/-! ## The results of the pairs that a sweep tests -/

/-- A pair's result at completion, where the sweep tests the pair. -/
def Hub.recordTested (h : Hub) (c : SweepContext) (pair : Pair) : Hub :=
  if tests c.params.pair pair then h.recordPair c pair else h

section
variable {h : Hub} {c : SweepContext} {pair : Pair} {x : BreakSpan}

theorem Hub.recordTested_of_quiet (quiet : tests c.params.pair pair = false ∨ (c.result pair).span = none) :
    h.recordTested c pair = h := by
  unfold Hub.recordTested
  split
  case isTrue tested => exact Hub.recordPair_of_none (quiet.resolve_left (by simp [tested]))
  case isFalse => rfl

theorem Hub.recordTested_recorded (tested : tests c.params.pair pair = true) (seen : (c.result pair).span = some x) :
    h.BreakRecorded (h.recordTested c pair) c pair x := by
  rw [Hub.recordTested, if_pos tested]
  exact Hub.recordPair_recorded seen

/-- A pair writes nothing, or its BREAK. -/
theorem Hub.recordTested_cases (h : Hub) (c : SweepContext) (pair : Pair) :
    ((tests c.params.pair pair = false ∨ (c.result pair).span = none) ∧ h.recordTested c pair = h) ∨
      ∃ x, tests c.params.pair pair = true ∧ (c.result pair).span = some x ∧ h.BreakRecorded (h.recordTested c pair) c pair x := by
  cases tested : tests c.params.pair pair with
  | false => exact .inl ⟨.inl rfl, Hub.recordTested_of_quiet (.inl tested)⟩
  | true =>
    cases seen : (c.result pair).span with
    | none => exact .inl ⟨.inr rfl, Hub.recordTested_of_quiet (.inr seen)⟩
    | some x => exact .inr ⟨x, rfl, rfl, Hub.recordTested_recorded tested seen⟩

theorem Hub.recordTested_time : (h.recordTested c pair).time = h.time := by
  unfold Hub.recordTested
  split <;> simp

theorem Hub.recordTested_grow : h.FlagsGrow (h.recordTested c pair) := by
  unfold Hub.recordTested
  split
  · exact Hub.recordPair_grow (.refl h)
  · exact .refl h

theorem Hub.recordTested_queue : (h.recordTested c pair).cables.queue = h.cables.queue := by
  rcases h.recordTested_cases c pair with ⟨-, same⟩ | ⟨x, -, -, written⟩
  · rw [same]
  · rw [written.cables]
    exact (CableUnit.writeFault_places _ c pair _ x _).1

theorem Hub.recordTested_passed :
    FaultPassed h.cables.faults (h.recordTested c pair).cables.faults h.cables.nextRecord (h.recordTested c pair).cables.nextRecord c
      pair h.time := by
  refine ⟨fun quiet => ?_, fun x tested seen => ?_⟩
  · rw [Hub.recordTested_of_quiet quiet]
    exact ⟨rfl, rfl⟩
  · rw [(Hub.recordTested_recorded tested seen).cables]
    exact CableUnit.writeFault_written

theorem Hub.recordTested_isolated (isolated : (h.cb c.port).faultIsolation = true) :
    ((h.recordTested c pair).cb c.port).faultIsolation = true := by
  rcases h.recordTested_cases c pair with ⟨-, same⟩ | ⟨x, -, -, written⟩
  · rwa [same]
  · exact written.isolated

theorem Hub.recordTested_power (off : (h.pw c.port).state = .off) : (h.recordTested c pair).power = h.power := by
  rcases h.recordTested_cases c pair with ⟨-, same⟩ | ⟨x, -, -, written⟩
  · rw [same]
  · exact written.atRest off

theorem Hub.recordTested_unpowered (off : (h.pw c.port).powered = false) :
    (h.recordTested c pair).portUnits = h.portUnits ∧ ((h.recordTested c pair).pw c.port).powered = false := by
  rcases h.recordTested_cases c pair with ⟨-, same⟩ | ⟨x, -, -, written⟩
  · rw [same]
    exact ⟨rfl, off⟩
  · exact written.unpowered off

/-- An OPEN record of the port's other pair stays as it is. -/
theorem Hub.mem_recordTested {other : Pair} {f : FaultRecord} (m : f ∈ h.cables.faults) (opens : f.opens c.port other = true)
    (apart : other ≠ pair) : f ∈ (h.recordTested c pair).cables.faults := by
  obtain ⟨isOpen, port, same⟩ := FaultRecord.opens_iff.mp opens
  have closed : f.opens c.port pair = false := by simp [FaultRecord.opens, same, apart]
  rcases h.recordTested_cases c pair with ⟨-, same⟩ | ⟨x, -, -, written⟩
  · rwa [same]
  · rw [written.cables]
    exact CableUnit.mem_writeFault m isOpen closed

/-! ## The results of both pairs, DATA before POWER -/

/-- The hub after the results of both pairs. -/
def Hub.recordBoth (h : Hub) (c : SweepContext) : Hub := (h.recordTested c .data).recordTested c .power

theorem Hub.recordBoth_of_quiet (quiet : ∀ pair, tests c.params.pair pair = true → (c.result pair).span = none) :
    h.recordBoth c = h := by
  have either (pair : Pair) : tests c.params.pair pair = false ∨ (c.result pair).span = none := by
    cases tested : tests c.params.pair pair with
    | false => exact .inl rfl
    | true => exact .inr (quiet pair tested)
  rw [Hub.recordBoth, Hub.recordTested_of_quiet (either .data), Hub.recordTested_of_quiet (either .power)]

theorem Hub.recordBoth_time : (h.recordBoth c).time = h.time := Hub.recordTested_time.trans Hub.recordTested_time

theorem Hub.recordBoth_queue : (h.recordBoth c).cables.queue = h.cables.queue := Hub.recordTested_queue.trans Hub.recordTested_queue

theorem Hub.recordBoth_power (off : (h.pw c.port).state = .off) : (h.recordBoth c).power = h.power := by
  have data : (h.recordTested c .data).power = h.power := Hub.recordTested_power off
  exact (Hub.recordTested_power (by rwa [Hub.pw, data])).trans data

theorem Hub.recordBoth_unpowered (off : (h.pw c.port).powered = false) :
    (h.recordBoth c).portUnits = h.portUnits ∧ ((h.recordBoth c).pw c.port).powered = false := by
  obtain ⟨data, still⟩ := Hub.recordTested_unpowered (pair := .data) off
  obtain ⟨power, unpowered⟩ := Hub.recordTested_unpowered (pair := .power) still
  exact ⟨power.trans data, unpowered⟩

/-- What a pair's BREAK leaves after both pairs' results. -/
theorem Hub.recordBoth_broke (tested : tests c.params.pair pair = true) (seen : (c.result pair).span = some x) :
    ((h.recordBoth c).cb c.port).faultIsolation = true ∧ vget (h.recordBoth c).mgmt.portFlags c.port &&& fFault = fFault ∧
      ∃ f ∈ (h.recordBoth c).cables.faults, f.opens c.port pair = true ∧ f.kind = (c.result pair).latest ∧ f.lastMm = x.last ∧
        f.updated = h.time := by
  have has {k : Hub} (time : k.time = h.time) (written : k.BreakRecorded (k.recordTested c pair) c pair x) :
      ∃ f ∈ (k.recordTested c pair).cables.faults, f.opens c.port pair = true ∧ f.kind = (c.result pair).latest ∧
        f.lastMm = x.last ∧ f.updated = h.time := by
    rw [written.cables, ← time]
    exact CableUnit.writeFault_has
  cases pair with
  | data =>
    have written := Hub.recordTested_recorded (h := h) tested seen
    obtain ⟨f, m, opens, items⟩ := has rfl written
    exact ⟨Hub.recordTested_isolated written.isolated, Hub.recordTested_grow.1 _ _ written.reported, f,
      Hub.mem_recordTested m opens (by decide), opens, items⟩
  | power =>
    have written := Hub.recordTested_recorded (h := h.recordTested c .data) tested seen
    exact ⟨written.isolated, written.reported, has Hub.recordTested_time written⟩

/-- A rise of isolation turns a port in COOLDOWN off, at the first pair that saw a BREAK (R9). -/
theorem Hub.recordBoth_turnsOff (tested : tests c.params.pair pair = true) (seen : (c.result pair).span = some x)
    (free : h.effectiveIso c.port = false) (cooling : (h.pw c.port).state = .cooldown) :
    ((h.recordBoth c).pw c.port).state = .off ∧ ((h.recordBoth c).pw c.port).cause = .isolate := by
  rcases h.recordTested_cases c .data with ⟨quiet, same⟩ | ⟨y, -, -, written⟩
  · cases pair with
    | data =>
      rw [tested, seen] at quiet
      simp at quiet
    | power =>
      rw [Hub.recordBoth, same]
      exact (Hub.recordTested_recorded tested seen).turnsOff free cooling
  · obtain ⟨off, cause⟩ := written.turnsOff free cooling
    have power : (h.recordBoth c).power = (h.recordTested c .data).power := Hub.recordTested_power off
    rw [Hub.pw, power]
    exact ⟨off, cause⟩

end

/-! ## The sweep closed, reported, and its engine offered the queue (R75, R174, R52, R68) -/

/-- The hub of a completion before its report: the summary, the engine, the sweep status and the flag with its notice. -/
def Hub.closeSweep (h : Hub) (e : EngineNo) (c : SweepContext) (rose : BitVec 16) : Hub :=
  ((((h.modCable c.port fun x => { x with summary := some (c.summarise e h.time) }).setEngine e none).modCable c.port fun x =>
    { x with sweepStatus := .idle }).setFlags c.port fSweep 0).noticeFor rose

/-- The hub of a completion. -/
def Hub.finishSweep (h : Hub) (e : EngineNo) (c : SweepContext) (rose : BitVec 16) : Hub :=
  ((h.closeSweep e c rose).sweepReported c.port).offerEngines

section
variable {h : Hub} {e : EngineNo} {c : SweepContext} {rose : BitVec 16}

theorem Hub.completeSweep_eq : h.completeSweep e c = (h.recordBoth c).finishSweep e c (h.rising c.port c.endFlags 0) := rfl

theorem Hub.closeSweep_units :
    (h.closeSweep e c rose).time = h.time ∧ (h.closeSweep e c rose).power = h.power ∧ (h.closeSweep e c rose).cell = h.cell ∧
      (h.closeSweep e c rose).portUnits = h.portUnits ∧ (h.closeSweep e c rose).requestedIso = h.requestedIso ∧
      (h.closeSweep e c rose).cables = (h.setEngine e none).cables := by
  simp [Hub.closeSweep, Hub.portUnits, Hub.setEngine]

theorem Hub.closeSweep_cb :
    (h.closeSweep e c rose).cb c.port = { h.cb c.port with summary := some (c.summarise e h.time), sweepStatus := .idle } := by
  simp [Hub.closeSweep, Hub.cb, Hub.modCable]

theorem Hub.closeSweep_grow : h.FlagsGrow (h.closeSweep e c rose) :=
  (h.setFlags_grow c.port fSweep 0).trans (.of_eq (by simp [Hub.closeSweep]) (by simp [Hub.closeSweep]))

theorem Hub.closeSweep_fSweep : vget (h.closeSweep e c rose).mgmt.portFlags c.port &&& fSweep = fSweep := by
  simp [Hub.closeSweep, and_or_self]

/-- From h to h', the sweep of an engine has been closed and reported, and the queue offered. -/
structure Hub.SweepFinished (h h' : Hub) (e : EngineNo) (c : SweepContext) : Prop where
  cb : h'.cb c.port = { h.cb c.port with summary := some (c.summarise e h.time), sweepStatus := .idle }
  faults : h'.cables.faults = h.cables.faults
  nextRecord : h'.cables.nextRecord = h.cables.nextRecord
  grows : h.FlagsGrow h'
  reported : vget h'.mgmt.portFlags c.port &&& fSweep = fSweep
  engine : h.cables.queue = [] → h'.engine e = none
  resumed : h.RetryResumed h' c.port
  atRest : (h.pw c.port).state = .off → h'.power = h.power
  unpowered : (h.pw c.port).powered = false → h'.portUnits = h.portUnits

theorem Hub.finishSweep_finished (apart : c.port ∉ h.cables.queue.map (·.port)) :
    h.SweepFinished (h.finishSweep e c rose) e c := by
  obtain ⟨time, power, cell, units, requested, cables⟩ := h.closeSweep_units (e := e) (c := c) (rose := rose)
  have cb := h.closeSweep_cb (e := e) (c := c) (rose := rose)
  have grow := h.closeSweep_grow (e := e) (c := c) (rose := rose)
  have swept := h.closeSweep_fSweep (e := e) (c := c) (rose := rose)
  unfold Hub.finishSweep
  generalize h.closeSweep e c rose = k at time power cell units requested cables cb grow swept
  have pw : k.pw c.port = h.pw c.port := by simp only [Hub.pw, power]
  have queue : (k.sweepReported c.port).cables.queue = h.cables.queue := by simp [cables]
  have later : k.FlagsGrow (k.sweepReported c.port).offerEngines := Hub.offerEngines_grow (Hub.sweepReported_grow (.refl k))
  refine ⟨?_, by simp [cables], by simp [cables], grow.trans later, later.1 _ _ swept, fun empty => ?_, ?_, fun off => ?_,
    fun off => ?_⟩
  · rw [Hub.offerEngines_cb (by rwa [queue]), ← cb]
    simp [Hub.cb]
  · rw [Hub.offerEngines_of_nil (by rw [queue, empty])]
    simp [Hub.engine, cables, Hub.setEngine]
  · exact k.sweepReported_resumed.within ⟨time, power, cell, by simp only [Hub.effectiveIso, requested, cb]⟩ (by simp)
  · rw [(Hub.offerEngines_frame _).2.2.1, Hub.sweepReported_of_none (.inl (by simp [pw, off])), power]
  · rw [← units, ← Hub.sweepReported_portUnits (h := k) (by rwa [pw])]
    simp [Hub.portUnits]

/-- A sweep completes: both pairs' results, then the end of the sweep. -/
theorem Hub.completeSweep_finished (apart : c.port ∉ h.cables.queue.map (·.port)) :
    (h.recordBoth c).SweepFinished (h.completeSweep e c) e c := by
  rw [Hub.completeSweep_eq]
  exact Hub.finishSweep_finished (by rwa [Hub.recordBoth_queue])

end

/-! ## The end of a repeat (R69, R74) -/

section
variable {h : Hub} {e : EngineNo} {c : SweepContext} {endTime : HubTime}

/-- The context after a repeat's last shot: the shot outcomes are cleared, and the repeat joins its pair's results. -/
def SweepContext.repeatDone (c : SweepContext) (last : SweepContext) : SweepContext :=
  { c with
    posHits := 0, negHits := 0, posSum := 0, negSum := 0
    dataResult := if c.pair = .data then (c.result c.pair).add last.evaluate.1 last.evaluate.2 else c.dataResult
    powerResult := if c.pair = .power then (c.result c.pair).add last.evaluate.1 last.evaluate.2 else c.powerResult }

theorem SweepContext.closeRepeat_eq : c.closeRepeat = c.repeatDone c := by
  cases pair : c.pair <;> simp [SweepContext.closeRepeat, SweepContext.repeatDone, SweepContext.result, pair]

/-- The last shot's echo counts in the evaluation of the repeat alone. -/
theorem SweepContext.closeRepeat_addEcho (echo : Option (Polarity × Nat)) :
    (c.addEcho echo).closeRepeat = c.repeatDone (c.addEcho echo) := by
  rw [SweepContext.closeRepeat_eq]
  rcases echo with _ | ⟨_ | _, _⟩ <;> rfl

theorem Hub.shotEnd_of_last {trace : List (Nat × Int)} (goes : c.cancelling = false) (last : 2 ^ c.params.k ≤ c.shotNo) :
    h.shotEnd e c trace = h.repeatEnd e (c.addEcho (c.echo trace)) (after c.phaseStart 4) := by
  obtain ⟨-, params, -, -, shotNo, -⟩ := SweepContext.addEcho_frame (c := c) (c.echo trace)
  rw [Hub.shotEnd_of_going rfl goes]
  exact if_neg (by rw [shotNo, params]; exact Nat.not_lt_of_le last)

theorem Hub.repeatEnd_of_more {d : SweepContext} (closed : c.closeRepeat = d) (more : d.repeatNo < d.params.repeats) :
    h.repeatEnd e c endTime = h.setEngine e (some { d with phase := .waiting, phaseStart := endTime, shotNo := 0 }) := by
  subst closed
  exact if_pos more

theorem Hub.repeatEnd_of_other {d : SweepContext} (closed : c.closeRepeat = d) (enough : d.params.repeats ≤ d.repeatNo)
    (both : d.params.pair = .both) (data : d.pair = .data) :
    h.repeatEnd e c endTime =
      h.setEngine e (some { d with pair := .power, phase := .settling, phaseStart := endTime, repeatNo := 0, shotNo := 0 }) := by
  subst closed
  exact (if_neg (Nat.not_lt_of_le enough)).trans (if_pos (by simp [both, data]))

theorem Hub.repeatEnd_of_complete {d : SweepContext} (closed : c.closeRepeat = d) (enough : d.params.repeats ≤ d.repeatNo)
    (last : d.params.pair ≠ .both ∨ d.pair = .power) : h.repeatEnd e c endTime = h.completeSweep e d := by
  subst closed
  refine (if_neg (Nat.not_lt_of_le enough)).trans (if_neg ?_)
  rcases last with one | power
  · simp [one]
  · simp [power]

end

/-- Settles O46: the repeat joins its pair's results; where it is the sweep's last, both pairs' results are written and the sweep is
closed, reported and its engine offered the queue. -/
theorem repeatsAndSweepsEnd : Obligations.RepeatsAndSweepsEnd := by
  intro s e c trace runs shooting late goes lastShot last result done
  have closed : last.closeRepeat = done := SweepContext.closeRepeat_addEcho (c.echo trace)
  have shot : s.Does (.shot e trace) (s.hub.repeatEnd e last (c.phaseStart + 4)) := by
    have shot := execShot_of_due (trace := trace) runs shooting late
    rwa [Hub.shotEnd_of_last goes lastShot] at shot
  refine ⟨fun more => ?_, fun enough both data => ?_, fun enough final apart => ?_⟩
  · rwa [Hub.repeatEnd_of_more closed more] at shot
  · rwa [Hub.repeatEnd_of_other closed enough both data] at shot
  · rw [Hub.repeatEnd_of_complete closed enough final] at shot
    have ended : (s.hub.recordBoth done).SweepFinished (s.hub.completeSweep e done) e done := Hub.completeSweep_finished apart
    have quiet := s.hub.recordBoth_of_quiet (c := done)
    refine ⟨_, shot, ?_, ?_, ended.reported, fun empty => ?_, fun none => ?_, ?_, fun none => ?_, fun pair x tested seen => ?_,
      fun off => ?_, fun off => ?_⟩
    · exact congrArg PortCable.sweepStatus ended.cb
    · exact (congrArg PortCable.summary ended.cb).trans (by rw [Hub.recordBoth_time])
    · exact ended.engine (Hub.recordBoth_queue.trans empty)
    · rw [quiet none] at ended
      have isolation := congrArg PortCable.faultIsolation ended.cb
      exact ⟨ended.faults, ended.nextRecord, isolation⟩
    · refine ⟨_, _, Hub.recordTested_passed, ?_⟩
      rw [ended.faults, ended.nextRecord, ← Hub.recordTested_time (c := done) (pair := .data)]
      exact Hub.recordTested_passed
    · rw [quiet none] at ended
      exact ended.resumed
    · obtain ⟨isolated, reported, record⟩ := Hub.recordBoth_broke (h := s.hub) (c := done) tested seen
      refine ⟨(congrArg PortCable.faultIsolation ended.cb).trans isolated, ended.grows.1 _ _ reported, by rwa [ended.faults],
        fun free cooling => ?_⟩
      obtain ⟨off, cause⟩ := Hub.recordBoth_turnsOff (c := done) tested seen free cooling
      have power : (s.hub.completeSweep e done).pw done.port = (s.hub.recordBoth done).pw done.port := by
        simp only [Hub.pw, ended.atRest off]
      exact power ▸ ⟨off, cause⟩
    · have still := Hub.recordBoth_power (c := done) off
      exact (ended.atRest (by rwa [Hub.pw, still])).trans still
    · obtain ⟨units, still⟩ := Hub.recordBoth_unpowered (c := done) off
      have same := (ended.unpowered still).trans units
      simpa only [Hub.portUnits, Prod.mk.injEq] using same

end Sys2Proof.Machine

/-! # Lens positions stay in their travel (R86): the relation that keeps the law, one axis at a time -/

namespace Sys2Proof.Machine

/-- From h to h', every axis that was in its travel still is. -/
structure Hub.TravelKept (h h' : Hub) : Prop where
  axes : ∀ p x, (h.ax p x).InTravel → (h'.ax p x).InTravel

theorem Hub.TravelKept.trans {a b c : Hub} (h : a.TravelKept b) (k : b.TravelKept c) : a.TravelKept c :=
  ⟨fun p x => k.axes p x ∘ h.axes p x⟩

theorem Hub.TravelKept.holds {h h' : Hub} (k : h.TravelKept h') (l : h.LensesInTravel) : h'.LensesInTravel :=
  fun p x => k.axes p x (l p x)

theorem Hub.TravelKept.of_lens {h h' : Hub} (same : h'.lens = h.lens) : h.TravelKept h' :=
  ⟨fun p x l => by simpa only [Hub.ax, Hub.ln, same] using l⟩

theorem Hub.TravelKept.refl (h : Hub) : h.TravelKept h := .of_lens rfl

/-- An operation that keeps axes in their travel comes after one that leaves the lenses as they are. -/
theorem Hub.TravelKept.after {h k h' : Hub} (kept : k.TravelKept h') (same : k.lens = h.lens) : h.TravelKept h' :=
  (Hub.TravelKept.of_lens same).trans kept

theorem Hub.TravelKept.modLens {h : Hub} {p : Port} {f : PortLens → PortLens}
    (own : ∀ x, (h.ax p x).InTravel → ((f (h.ln p)).axis x).InTravel) : h.TravelKept (h.modLens p f) := by
  refine ⟨fun q x l => ?_⟩
  by_cases e : q = p
  · subst e
    simpa [Hub.ax] using own x l
  · simpa only [Hub.ax, Hub.modLens_ln_ne _ _ _ e] using l

theorem Hub.TravelKept.modAxis {h : Hub} {p : Port} {x : AxisId} {f : Axis → Axis}
    (own : (h.ax p x).InTravel → (f (h.ax p x)).InTravel) : h.TravelKept (h.modAxis p x f) :=
  .modLens fun y l => by
    rw [PortLens.modAxis_axis]
    split
    case isTrue e => exact own (e ▸ l)
    case isFalse => exact l

/-! ## The axis -/

/-- An axis that is not MOVING and whose position is not known is in its travel. -/
theorem Axis.InTravel.of_unknown {a : Axis} (unknown : a.position = none) (still : a.motion ≠ .moving) : a.InTravel :=
  ⟨fun _ known => by simp [unknown] at known, fun moving => absurd moving still⟩

/-- Items that the law does not read have changed, and a motion may have ended. -/
theorem Axis.InTravel.ended {a b : Axis} (l : a.InTravel) (max : b.max = a.max) (position : b.position = a.position)
    (still : b.motion ≠ .moving) : b.InTravel :=
  ⟨fun q known => max ▸ l.1 q (position ▸ known), fun moving => absurd moving still⟩

theorem Axis.lost_inTravel (a : Axis) (o : LensOutcome) : (a.lost o).InTravel := .of_unknown rfl nofun

/-- The motor of a MOVING axis is estimated between the ends of its move (R91). -/
theorem Axis.estimate_le {a : Axis} (now : HubTime) {bound : Nat} (start : a.start ≤ bound) (target : a.target ≤ bound) :
    a.estimate now ≤ bound := by
  unfold Axis.estimate
  dsimp only
  split
  · exact (Nat.min_le_right _ _).trans target
  · exact Nat.max_le.mpr ⟨(Nat.sub_le _ _).trans start, target⟩

theorem Axis.InTravel.retarget {a : Axis} (l : a.InTravel) (moving : a.motion = .moving) (now : HubTime) {target : Nat}
    (within : target ≤ a.max) : (a.retarget now target).InTravel := by
  obtain ⟨start, goal⟩ := l.2 moving
  have place := a.estimate_le now start goal
  refine ⟨fun q known => ?_, fun _ => ⟨place, within⟩⟩
  cases known
  exact place

theorem Axis.InTravel.moveFrom {a : Axis} (l : a.InTravel) (now : HubTime) {position target : Nat}
    (known : a.position = some position) (within : target ≤ a.max) : (a.moveFrom now position target).InTravel :=
  ⟨l.1, fun _ => ⟨l.1 position known, within⟩⟩

/-- Whatever row of Table 5-3 a report meets, the position that it gives lies in the travel (R94). -/
theorem Axis.reportRow_le {a : Axis} {position kind : Nat} {pos : Option Nat} {fs : BitVec 16} {o : LensOutcome}
    (row : a.reportRow position kind = some (pos, fs, o)) : ∀ q, pos = some q → q ≤ a.max := by
  unfold Axis.reportRow at row
  dsimp only at row
  (repeat' split at row) <;> cases row <;> simp_all

/-! ## Reports, completions and message boundaries -/

theorem Hub.modLink_travelKept (h : Hub) (p : Port) (f : LinkCtl → LinkCtl) : h.TravelKept (h.modLink p f) := .of_lens rfl

theorem Hub.linkError_travelKept (h : Hub) (p : Port) : h.TravelKept (h.linkError p) := .of_lens (by simp)

/-- A change of the lens with its flag and the report. -/
theorem Hub.ended_travelKept {h h' : Hub} (p : Port) (f : BitVec 16) (k : h.TravelKept h') :
    h.TravelKept ((h'.flag p f).reportIdle p) := k.trans (.of_lens (by simp))

theorem Hub.completeLens_travelKept (h : Hub) (p : Port) (x : AxisId) (how : Completion) :
    h.TravelKept (h.completeLens p x how) := by
  have counted : h.TravelKept (h.modAxis p x fun a => { a with pending := a.pending - 1 }) := .modAxis fun l => l
  unfold Hub.completeLens
  dsimp only
  split
  · exact Hub.ended_travelKept p _ (counted.trans (.modAxis fun _ => Axis.lost_inTravel _ _))
  · exact counted

theorem Hub.completeCommand_travelKept (h : Hub) (p : Port) (c : Command) (how : Completion) :
    h.TravelKept (h.completeCommand p c how) := by
  cases c with
  | attrRead | attrWrite => cases how <;> exact .of_lens (by simp [Hub.completeCommand])
  | lensMove x | lensHome x | lensStop x => exact h.completeLens_travelKept p x how

theorem Hub.ackTaken_travelKept (h : Hub) (p : Port) (sequence : Bool) : h.TravelKept (h.ackTaken p sequence) := by
  unfold Hub.ackTaken
  dsimp only
  split
  · split
    · exact ((Hub.completeCommand_travelKept _ p _ _).after (by rfl)).trans (Hub.modLink_travelKept _ p _)
    · exact .of_lens rfl
  · exact .of_lens rfl

theorem Hub.waitOver_travelKept (h : Hub) (p : Port) : h.TravelKept (h.waitOver p) := by
  unfold Hub.waitOver
  dsimp only
  split
  · exact .refl h
  · split
    · exact .of_lens rfl
    · exact (((Hub.completeCommand_travelKept _ p _ _).after (by rfl)).trans (Hub.linkError_travelKept _ p)).trans
        (Hub.modLink_travelKept _ p _)

theorem Hub.boundary_travelKept (h : Hub) (p : Port) : h.TravelKept (h.boundary p) := by
  have pumped : h.TravelKept (h.modLink p LinkCtl.pump) := .of_lens rfl
  unfold Hub.boundary
  dsimp only
  split
  · exact .refl h
  · split
    · exact h.waitOver_travelKept p
    · split
      · exact pumped.trans (Hub.waitOver_travelKept _ p)
      · exact pumped

theorem Hub.messageSent_travelKept (h : Hub) (p : Port) : h.TravelKept (h.messageSent p) := by
  have changed (f : LinkCtl → LinkCtl) : h.TravelKept ((h.modLink p f).boundary p) :=
    (Hub.boundary_travelKept _ p).after rfl
  unfold Hub.messageSent
  split
  · exact changed _
  · exact changed _
  · exact .refl h

theorem Hub.waitEnds_travelKept (h : Hub) (p : Port) : h.TravelKept (h.waitEnds p) :=
  (Hub.boundary_travelKept _ p).after rfl

/-! ## Lens requests, reports and deadlines -/

theorem Hub.lensReport_travelKept (h : Hub) (p : Port) (axis position kind : Nat) :
    h.TravelKept (h.lensReport p axis position kind) := by
  have ignored (late : Bool) : h.TravelKept (h.ignoreReport p late) := by cases late <;> exact .modLens fun _ l => l
  unfold Hub.lensReport
  dsimp only
  split
  · exact ignored false
  · split
    · exact ignored false
    · split
      · exact ignored false
      · split
        · exact ignored true
        · split
          · exact ignored false
          · split
            · exact ignored false
            case h_2 row =>
              have within := Axis.reportRow_le row
              exact Hub.ended_travelKept p _ (.modAxis fun _ => ⟨within, nofun⟩)

theorem Hub.axisTimeout_travelKept (h : Hub) (p : Port) (x : AxisId) : h.TravelKept (h.axisTimeout p x) :=
  Hub.ended_travelKept p _ (.modAxis fun _ => Axis.lost_inTravel _ _)

/-- A profile is loaded while no axis is in motion, and the positions become UNKNOWN (R85). -/
theorem Hub.lensProfileLoad_travelKept (h : Hub) (p : Port) (focus zoom iris : ProfileParams) :
    h.TravelKept (h.lensProfileLoad p focus zoom iris).1 := by
  unfold Hub.lensProfileLoad
  split
  · exact .refl h
  · split
    · exact .refl h
    case isFalse still =>
      simp only [PortLens.anyMotion, Axis.moving, ne_eq, decide_not, Bool.or_eq_true, Bool.not_eq_eq_eq_not, Bool.not_true,
        decide_eq_false_iff_not, not_or, Decidable.not_not] at still
      obtain ⟨⟨f, z⟩, i⟩ := still
      refine .modLens fun x _ => .of_unknown ?_ ?_ <;> cases x
      all_goals simp [PortLens.axis, Axis.loadProfile, f, z, i]

theorem Hub.focusTableLoad_travelKept (h : Hub) (p : Port) (stop zoom : Nat) (points : List (Nat × Nat)) :
    h.TravelKept (h.focusTableLoad p stop zoom points).1 := by
  unfold Hub.focusTableLoad
  split
  · exact .refl h
  · split
    · exact .refl h
    · split
      · exact .refl h
      · split
        · exact .refl h
        · exact .modLens fun x l => by cases x <;> exact l

/-- The queue and the allowance of a lens command leave the lens (R87). -/
theorem Hub.lensCommand_ax (h : Hub) (p : Port) (c : Command) (q : Port) (x : AxisId) :
    (h.lensCommand p c).1.ax q x = h.ax q x := by simp [Hub.ax, Hub.ln]

theorem Hub.lensCommand_travelKept (h : Hub) (p : Port) (c : Command) :
    h.TravelKept (h.lensCommand p c).1 := .of_lens (by simp)

theorem Hub.homeAxis_travelKept (h : Hub) (p : Port) (x : AxisId) : h.TravelKept (h.homeAxis p x).1 := by
  have sent := h.lensCommand_travelKept p (.lensHome x)
  unfold Hub.homeAxis
  dsimp only
  split
  · exact .refl h
  · split
    · exact .refl h
    · split
      · exact .refl h
      · split
        · exact sent
        · exact sent.trans (.modAxis fun _ => .of_unknown rfl nofun)

theorem Hub.lensHome_travelKept (h : Hub) (p : Port) (axis : Nat) : h.TravelKept (h.lensHome p axis).1 := by
  unfold Hub.lensHome
  split
  · exact .refl h
  · exact h.homeAxis_travelKept p _

theorem Hub.sendMove_travelKept {h : Hub} {p : Port} {x : AxisId} {target : Nat} {status : Status} {f : Axis → Axis}
    (own : (h.ax p x).InTravel → (f (h.ax p x)).InTravel) : h.TravelKept (h.sendMove p x target status f).1 := by
  have sent := h.lensCommand_travelKept p (.lensMove x target)
  unfold Hub.sendMove
  dsimp only
  split
  · exact sent
  · exact sent.trans (.modAxis (by rwa [Hub.lensCommand_ax]))

theorem Hub.moveAxis_travelKept (h : Hub) (p : Port) (x : AxisId) (wanted : Nat) :
    h.TravelKept (h.moveAxis p x wanted).1 := by
  have within : Nat.min wanted (h.ax p x).max ≤ (h.ax p x).max := Nat.min_le_right _ _
  unfold Hub.moveAxis
  dsimp only
  split
  · exact .refl h
  · split
    · exact .refl h
    · split
      case h_1 | h_2 | h_3 => exact .refl h
      case h_4 position _ known =>
        split
        · exact .refl h
        · exact Hub.sendMove_travelKept fun l => l.moveFrom h.time known within
      case h_5 moving =>
        split
        · exact .refl h
        · exact Hub.sendMove_travelKept fun l => l.retarget moving h.time within

theorem Hub.lensMove_travelKept (h : Hub) (p : Port) (axis target : Nat) : h.TravelKept (h.lensMove p axis target).1 := by
  unfold Hub.lensMove
  split
  · exact .refl h
  · exact h.moveAxis_travelKept p _ target

theorem Hub.stopAxis_travelKept (h : Hub) (p : Port) (x : AxisId) : h.TravelKept (h.stopAxis p x).1 := by
  have sent := h.lensCommand_travelKept p (.lensStop x)
  unfold Hub.stopAxis
  dsimp only
  split
  · exact .refl h
  · split
    · exact .refl h
    · split
      · exact sent
      · exact sent.trans (.modAxis fun l => l.ended rfl rfl nofun)

theorem Hub.lensStop_travelKept (h : Hub) (p : Port) (axis : Nat) : h.TravelKept (h.lensStop p axis).1 := by
  unfold Hub.lensStop
  split
  · exact .refl h
  · exact h.stopAxis_travelKept p _

theorem Hub.lensFocusDistance_travelKept (h : Hub) (p : Port) (d : Nat) : h.TravelKept (h.lensFocusDistance p d).1 := by
  unfold Hub.lensFocusDistance
  dsimp only
  split
  · exact .refl h
  · split
    · exact .refl h
    · split
      · exact .refl h
      · split
        · exact .refl h
        · split
          · exact .refl h
          · exact h.moveAxis_travelKept p .focus _

end Sys2Proof.Machine

/-! # The operations that end motions with the link or the power -/

namespace Sys2Proof.Machine

/-! ## Drops and departures from ON -/

theorem Axis.InTravel.of_bare {a b : Axis} (same : b.bare = a.bare) (l : a.InTravel) : b.InTravel := by
  simp only [Axis.bare, Axis.mk.injEq] at same
  simpa only [Axis.InTravel, same] using l

/-- A drop loses an axis in motion, and leaves any other but for its pending commands (R97). -/
theorem Hub.drop_travelKept (h : Hub) (p : Port) (cause : DropCause) (enter : LinkCtl → LinkCtl) :
    h.TravelKept (h.drop p cause enter) := by
  refine ⟨fun q x l => ?_⟩
  by_cases e : q = p
  · subst e
    obtain ⟨lost, stays⟩ := h.drop_ax q cause enter x
    cases moving : (h.ax q x).moving with
    | true => rw [lost moving]; exact .of_unknown rfl nofun
    | false => exact l.of_bare (stays moving)
  · simpa [Hub.ax, Hub.ln, e] using l

theorem Hub.linkPowerLost_travelKept (h : Hub) (p : Port) : h.TravelKept (h.linkPowerLost p) := by
  unfold Hub.linkPowerLost
  split
  · exact h.drop_travelKept p _ _
  · exact h.drop_travelKept p _ _
  · exact .of_lens (by simp)
  · exact .refl h

theorem Hub.lensPowerLost_travelKept (h : Hub) (p : Port) : h.TravelKept (h.lensPowerLost p) := by
  refine ⟨fun q x l => ?_⟩
  by_cases e : q = p
  · subst e
    rw [Hub.lensPowerLost_ax]
    exact .of_unknown rfl nofun
  · simpa [Hub.ax, Hub.ln, e] using l

theorem Hub.leftOn_travelKept (h : Hub) (p : Port) : h.TravelKept (h.leftOn p) :=
  (h.linkPowerLost_travelKept p).trans (Hub.lensPowerLost_travelKept _ p)

/-- A port whose power state changes, with the flags of the event; from ON, it then leaves it (R50). -/
theorem Hub.departs_travelKept {h : Hub} {p : Port} (f : PortPower → PortPower) (port part : BitVec 16) :
    h.TravelKept (if (h.pw p).state = .on then ((h.modPower p f).raise p port part).leftOn p
      else (h.modPower p f).raise p port part) := by
  have cut : h.TravelKept ((h.modPower p f).raise p port part) := .of_lens (by simp)
  split
  · exact cut.trans (Hub.leftOn_travelKept _ p)
  · exact cut

/-! ## Camera power -/

theorem Hub.turnOff_travelKept (h : Hub) (p : Port) (cause : OffCause) (part : BitVec 16) :
    h.TravelKept (h.turnOff p cause part) := Hub.departs_travelKept _ _ _

theorem Hub.isolationRise_travelKept (h : Hub) (p : Port) : h.TravelKept (h.isolationRise p) := by
  unfold Hub.isolationRise
  split
  case h_5 | h_6 => exact .refl h
  all_goals exact h.turnOff_travelKept p _ _

theorem Hub.retry_travelKept (h : Hub) (p : Port) : h.TravelKept (h.retry p) := by
  unfold Hub.retry
  split
  · exact h.turnOff_travelKept p _ _
  · split
    · exact .of_lens (by simp)
    · exact h.turnOff_travelKept p _ _

theorem Hub.cooldownOver_travelKept (h : Hub) (p : Port) : h.TravelKept (h.cooldownOver p) := by
  unfold Hub.cooldownOver
  split
  · exact .of_lens rfl
  · exact h.retry_travelKept p

theorem Hub.sweepReported_travelKept (h : Hub) (p : Port) : h.TravelKept (h.sweepReported p) := by
  unfold Hub.sweepReported
  split
  · exact (Hub.retry_travelKept _ p).after rfl
  · exact .refl h

theorem Hub.powerDown_travelKept (h : Hub) (p : Port) : h.TravelKept (h.powerDown p) := by
  unfold Hub.powerDown
  split
  · exact h.turnOff_travelKept p _ _
  · exact .refl h

theorem Hub.powerOff_travelKept (h : Hub) (p : Port) : h.TravelKept (h.powerOff p) := by
  unfold Hub.powerOff
  split
  · exact .of_lens rfl
  · exact (Hub.turnOff_travelKept _ p _ _).after rfl
  · exact h.turnOff_travelKept p _ _

theorem Hub.shedToFit_travelKept : ∀ (n : Nat) (h : Hub), h.TravelKept (Hub.shedToFit n h).1
  | 0, h => .refl h
  | n + 1, h => by
    unfold Hub.shedToFit
    split
    · split
      · exact .refl h
      · exact (h.turnOff_travelKept _ _ _).trans (Hub.shedToFit_travelKept n _)
    · exact .refl h

theorem Hub.budgetSet_travelKept (h : Hub) (budget : Nat) : h.TravelKept (h.budgetSet budget).1 :=
  (Hub.shedToFit_travelKept _ _).after rfl

theorem Hub.shedUndervolt_travelKept (h : Hub) (entry : Bool) : h.TravelKept (h.shedUndervolt entry) := by
  unfold Hub.shedUndervolt
  split
  · exact h.turnOff_travelKept _ _ _
  · split
    · exact .of_lens (by simp)
    · exact .refl h

theorem Hub.supplySample_travelKept (h : Hub) (mv : Nat) : h.TravelKept (h.supplySample mv) := by
  have cell (h : Hub) (f : CellPower → CellPower) : h.TravelKept (h.modCell f) := .of_lens rfl
  unfold Hub.supplySample
  dsimp only
  refine (cell h fun c => { c with supplySample := mv }).trans ?_
  generalize (h.modCell fun c => { c with supplySample := mv }) = k
  split
  case h_1 =>
    split
    · exact cell k _
    · exact .refl k
  case h_2 | h_3 =>
    split
    · exact cell k _
    · split
      · exact (cell k _).trans (Hub.shedUndervolt_travelKept _ _)
      · exact .refl k

theorem Hub.isolate_travelKept (h : Hub) (p : Port) (action : Nat) : h.TravelKept (h.isolate p action).1 := by
  have set (on : Bool) : h.TravelKept (h.setRequestedIso p on) := by
    unfold Hub.setRequestedIso
    dsimp only
    split
    · exact (Hub.isolationRise_travelKept _ p).after rfl
    · exact .of_lens rfl
  unfold Hub.isolate
  split
  · exact set true
  · exact set false
  · exact .refl h

/-! ## Sweeps -/

theorem Hub.offerEngines_travelKept (h : Hub) : h.TravelKept h.offerEngines := .of_lens (by simp)

theorem Hub.autoSweep_travelKept (h : Hub) (p : Port) (o : SweepOrigin) : h.TravelKept (h.autoSweep p o) := by
  unfold Hub.autoSweep
  split
  · exact .of_lens rfl
  · exact (h.powerDown_travelKept p).trans (.of_lens (by simp))

theorem Hub.maySweep_travelKept (h : Hub) (p : Port) (o : Option SweepOrigin) : h.TravelKept (h.maySweep p o) := by
  cases o with
  | none => exact .refl h
  | some o => exact h.autoSweep_travelKept p o

theorem Hub.sweepOver_travelKept (h : Hub) (p : Port) : h.TravelKept (h.sweepOver p) :=
  (Hub.sweepReported_travelKept _ p).after (by simp)

theorem Hub.stopSweep_travelKept (h : Hub) (e : EngineNo) (p : Port) : h.TravelKept (h.stopSweep e p) :=
  ((Hub.sweepOver_travelKept _ p).after (by rfl)).trans (Hub.offerEngines_travelKept _)

theorem Hub.cancelEngine_travelKept (h : Hub) (p : Port) (e : EngineNo) : h.TravelKept (h.cancelEngine p e) := by
  unfold Hub.cancelEngine
  split
  · split
    · split
      · exact .of_lens rfl
      · exact h.stopSweep_travelKept e p
    · exact .refl h
  · exact .refl h

theorem Hub.cancelSweep_travelKept (h : Hub) (p : Port) : h.TravelKept (h.cancelSweep p) := by
  cases status : (h.cb p).sweepStatus with
  | idle => simpa only [Hub.cancelSweep, status] using .refl h
  | queued =>
    simp only [Hub.cancelSweep, status]
    exact (Hub.sweepOver_travelKept _ p).after rfl
  | running =>
    rw [Hub.cancelSweep_of_running status]
    exact (h.cancelEngine_travelKept p 0).trans (Hub.cancelEngine_travelKept _ p 1)

theorem Hub.sweepRequest_travelKept (h : Hub) (p : Port) (sweep : SweepParamsRaw) (first : Nat) :
    h.TravelKept (h.sweepRequest p sweep first).1 := by
  unfold Hub.sweepRequest
  split
  · split
    · exact .refl h
    · split
      · exact .refl h
      · exact (h.powerDown_travelKept p).trans (.of_lens (by simp))
  · exact .refl h

theorem Hub.recordPair_travelKept (h : Hub) (c : SweepContext) (pair : Pair) : h.TravelKept (h.recordPair c pair) := by
  unfold Hub.recordPair
  dsimp only
  split
  · exact .refl h
  · split
    · exact (Hub.isolationRise_travelKept _ _).after rfl
    · exact .of_lens rfl

theorem Hub.completeSweep_travelKept (h : Hub) (e : EngineNo) (c : SweepContext) : h.TravelKept (h.completeSweep e c) := by
  have recorded (h : Hub) (pair : Pair) :
      h.TravelKept (if tests c.params.pair pair then h.recordPair c pair else h) := by
    split
    · exact h.recordPair_travelKept c pair
    · exact .refl h
  unfold Hub.completeSweep
  dsimp only
  refine ((recorded h .data).trans (recorded _ .power)).trans ?_
  generalize (if tests c.params.pair .power then _ else _ : Hub) = k
  exact ((Hub.sweepReported_travelKept _ _).after (by simp)).trans (Hub.offerEngines_travelKept _)

theorem Hub.repeatEnd_travelKept (h : Hub) (e : EngineNo) (c : SweepContext) (endTime : HubTime) :
    h.TravelKept (h.repeatEnd e c endTime) := by
  unfold Hub.repeatEnd
  dsimp only
  split
  · exact .of_lens rfl
  · split
    · exact .of_lens rfl
    · exact h.completeSweep_travelKept e _

theorem Hub.shotEnd_travelKept (h : Hub) (e : EngineNo) (c : SweepContext) (trace : List (Nat × Int)) :
    h.TravelKept (h.shotEnd e c trace) := by
  unfold Hub.shotEnd
  dsimp only
  split
  · exact h.stopSweep_travelKept e _
  · split
    · exact .of_lens rfl
    · exact h.repeatEnd_travelKept e _ _

/-! ## Protection and training -/

theorem Hub.trip_travelKept (h : Hub) (p : Port) (cause : OffCause) : h.TravelKept (h.trip p cause) := by
  unfold Hub.trip
  dsimp only
  exact (Hub.departs_travelKept _ _ _).trans (Hub.maySweep_travelKept _ p _)

theorem Hub.detected_travelKept (h : Hub) (p : Port) (load : Nat) : h.TravelKept (h.detected p load) := by
  have fails (cause : OffCause) : h.TravelKept (if ((h.turnOff p cause 0).cb p).onDetectFail then
      (h.turnOff p cause 0).autoSweep p .autoDetect else h.turnOff p cause 0) := by
    split
    · exact (h.turnOff_travelKept p cause 0).trans (Hub.autoSweep_travelKept _ p _)
    · exact h.turnOff_travelKept p cause 0
  unfold Hub.detected
  dsimp only
  split
  · exact fails _
  · split
    · exact fails _
    · exact .of_lens (by simp)

theorem Hub.attemptEnd_travelKept (h : Hub) (p : Port) : h.TravelKept (h.attemptEnd p) := by
  have failed : h.TravelKept
      ((h.modLink p fun l => { l with state := .down, note := .trainFail, channel := .idle }).flag p fLink) :=
    .of_lens (by simp)
  unfold Hub.attemptEnd
  dsimp only
  split
  · exact .of_lens rfl
  · split
    · exact failed.trans (Hub.autoSweep_travelKept _ p _)
    · exact failed

theorem Hub.lossOfLock_travelKept (h : Hub) (p : Port) : h.TravelKept (h.lossOfLock p) := by
  have dropped := h.drop_travelKept p .lossOfLock (LinkCtl.train h.time)
  unfold Hub.lossOfLock
  dsimp only
  split
  · exact dropped.trans (Hub.autoSweep_travelKept _ p _)
  · exact dropped

end Sys2Proof.Machine

/-! # Every command keeps the lenses in their travel -/

namespace Sys2Proof.Machine

/-! ## Requests that leave the lenses as they are -/

section
variable {h : Hub}

theorem Hub.linkSet_lens (p : Port) (degrade drop : Nat) : (h.linkSet p degrade drop).1.lens = h.lens := by
  unfold Hub.linkSet
  split <;> rfl

theorem Hub.linkTest_lens (p : Port) (count : Nat) : (h.linkTest p count).1.lens = h.lens := by
  unfold Hub.linkTest
  (repeat' split) <;> rfl

theorem Hub.passThrough_lens (p : Port) (tag : BitVec 16) (kind : PassKind) (count : Nat) (mk : SlotNo → BitVec 8 → Command) :
    (h.passThrough p tag kind count mk).1.lens = h.lens := by
  unfold Hub.passThrough
  (repeat' split) <;> rfl

theorem Hub.readEvents_lens (p : Option Port) : (h.readEvents p).1.lens = h.lens := by cases p <;> rfl

theorem Hub.noticeSet_lens (kinds : Nat) : (h.noticeSet kinds).1.lens = h.lens := by
  unfold Hub.noticeSet
  split <;> rfl

theorem Hub.portPowerSet_lens (p : Port) (grant limit priority allowance : Nat) :
    (h.portPowerSet p grant limit priority allowance).1.lens = h.lens := by
  unfold Hub.portPowerSet
  (repeat' split) <;> rfl

theorem Hub.powerOn_lens (p : Port) : (h.powerOn p).1.lens = h.lens := by
  unfold Hub.powerOn
  dsimp only
  split
  · simp
  · rfl

theorem Hub.triggerLineSet_lens (line filter : Nat) : (h.triggerLineSet line filter).1.lens = h.lens := by
  unfold Hub.triggerLineSet
  (repeat' split) <;> rfl

theorem Hub.triggerSet_lens (p : Port) (source pitch phase direction policy timeout : Nat) :
    (h.triggerSet p source pitch phase direction policy timeout).1.lens = h.lens := by
  unfold Hub.triggerSet
  (repeat' split) <;> rfl

theorem Hub.fireAll_lens : ∀ (ps : List Port) (h : Hub), (h.fireAll ps).1.lens = h.lens
  | [], _ => rfl
  | p :: ps, h => (Hub.fireAll_lens ps (h.fire p).1).trans (by simp)

theorem Hub.triggerSoft_lens (mask : Nat) : (h.triggerSoft mask).1.lens = h.lens := by
  unfold Hub.triggerSoft
  dsimp only
  split
  · rfl
  · exact Hub.fireAll_lens _ h

theorem Hub.cableTypeSet_lens (type speed polarity threshold : Nat) :
    (h.cableTypeSet type speed polarity threshold).1.lens = h.lens := by
  unfold Hub.cableTypeSet
  (repeat' split) <;> rfl

theorem Hub.portCableSet_lens (p : Port) (type length tolerance offset : Nat) :
    (h.portCableSet p type length tolerance offset).1.lens = h.lens := by
  unfold Hub.portCableSet
  (repeat' split) <;> rfl

theorem Hub.autoSweepSet_lens (p : Port) (flags : Nat) (sweep : SweepParamsRaw) :
    (h.autoSweepSet p flags sweep).1.lens = h.lens := by
  unfold Hub.autoSweepSet
  (repeat' split) <;> rfl

theorem Hub.faultClear_lens (p : Port) : (h.faultClear p).1.lens = h.lens := by
  unfold Hub.faultClear
  split <;> rfl

theorem Hub.ringSet_lens (p : Port) (start length timeout : Nat) : (h.ringSet p start length timeout).1.lens = h.lens := by
  unfold Hub.ringSet
  (repeat' split) <;> rfl

theorem Hub.frameHold_lens (p : Port) (number : Nat) : (h.frameHold p number).1.lens = h.lens := by
  unfold Hub.frameHold
  (repeat' split) <;> rfl

theorem Hub.frameRelease_lens (p : Port) (number : Nat) : (h.frameRelease p number).1.lens = h.lens := by
  unfold Hub.frameRelease
  (repeat' split) <;> rfl

theorem Hub.viewLoad_lens (view : Nat) (q : ViewParams) : (h.viewLoad view q).1.lens = h.lens := by
  unfold Hub.viewLoad
  (repeat' split) <;> rfl

theorem Hub.viewBind_lens (p : Port) (view : Nat) : (h.viewBind p view).1.lens = h.lens := by
  unfold Hub.viewBind
  dsimp only
  (repeat' split) <;> rfl

theorem Hub.coefSelect_lens (table : Nat) : (h.coefSelect table).1.lens = h.lens := by
  unfold Hub.coefSelect
  (repeat' split) <;> rfl

theorem Hub.coefWrite_lens (values : List Nat) : (h.coefWrite values).1.lens = h.lens := by
  unfold Hub.coefWrite
  (repeat' split) <;> rfl

theorem Hub.egressSet_lens (settings : EgressParams) (p : Option Port) : (h.egressSet settings p).1.lens = h.lens := by
  cases p <;> unfold Hub.egressSet <;> dsimp only <;> (repeat' split) <;> rfl

theorem Hub.frameResend_lens (m : Memory) (p : Port) (number view : Nat) : (h.frameResend m p number view).1.lens = h.lens := by
  unfold Hub.frameResend
  (repeat' split) <;> simp

/-! ## Events that leave the lenses as they are -/

theorem Hub.fireLine_lens (n : LineNo) : (h.fireLine n).lens = h.lens :=
  foldl_keep (fun h : Hub => h.lens) _ (fun h p => by split <;> simp) allPorts h

theorem Hub.triggerTimeout_lens (p : Port) : (h.triggerTimeout p).lens = h.lens := by simp [Hub.triggerTimeout]

theorem Hub.arrive_lens (pkt : Packet) : (h.arrive pkt).lens = h.lens := by
  unfold Hub.arrive
  split <;> simp

theorem Hub.trunkReturns_lens (m : Memory) : (h.trunkReturns m).lens = h.lens := by
  unfold Hub.trunkReturns
  rw [foldl_keep (fun h : Hub => h.lens) _ fun h p => by simp]
  simp

theorem Hub.pipeTrunkLost_lens (m : Memory) (p : Port) : (h.pipeTrunkLost m p).lens = h.lens := by
  unfold Hub.pipeTrunkLost
  split <;> simp

theorem Hub.badPacket_lens (p : Port) : (h.badPacket p).lens = h.lens := by simp [Hub.badPacket]

theorem State.completeFrame_lens (s : State) (p : Port) (r : FrameRecord) (e : Option (Nat × Nat)) (truncated : Bool)
    (intake : Intake) : (s.completeFrame p r e truncated intake).hub.lens = s.hub.lens := by
  unfold State.completeFrame
  dsimp only
  split
  · simp [Hub.queueLive]
  · rfl

theorem State.frameCutOff_lens (s : State) (p : Port) : (s.frameCutOff p).hub.lens = s.hub.lens := by
  unfold State.frameCutOff
  split
  · exact s.completeFrame_lens p _ _ _ _
  · rfl

theorem State.frameEnded_lens (s : State) (p : Port) (linesSent status : Nat) :
    (s.frameEnded p linesSent status).hub.lens = s.hub.lens := by
  unfold State.frameEnded
  split
  · exact s.completeFrame_lens p _ _ _ _
  · dsimp only
    split <;> rfl

theorem Hub.openFrame_lens (p : Port) (number width height id : Nat) : (h.openFrame p number width height id).lens = h.lens := by
  simp [Hub.openFrame]

theorem State.frameStart_lens (s : State) (p : Port) (number width height id : Nat) :
    (s.frameStart p number width height id).hub.lens = s.hub.lens := by
  unfold State.frameStart
  split
  · simp [Hub.ignorePacket]
  · refine (Hub.openFrame_lens p _ _ _ _).trans ?_
    split
    · exact s.frameCutOff_lens p
    · rfl

theorem State.line_lens (s : State) (p : Port) (number : Nat) (pixels : List Nat) :
    (s.line p number pixels).hub.lens = s.hub.lens := by
  unfold State.line
  split
  · rfl
  · split
    · rfl
    · unfold State.storeLine
      dsimp only
      split <;> rfl

theorem State.frameEnd_lens (s : State) (p : Port) (linesSent status : Nat) :
    (s.frameEnd p linesSent status).hub.lens = s.hub.lens := by
  unfold State.frameEnd
  split
  · rfl
  · exact State.frameEnded_lens _ p _ _

end

theorem Hub.LensesInTravel.of_lens {h h' : Hub} (l : h.LensesInTravel) (same : h'.lens = h.lens) : h'.LensesInTravel :=
  (Hub.TravelKept.of_lens same).holds l

theorem Hub.lensesInTravel_ends : Hub.EndsKeep Hub.LensesInTravel where
  settle m l := l.of_lens (by simp)
  reset := Hub.coldReset_lensesInTravel
  pop l := l
  due l := l
  trunk _ l := l

/-! ## Events that may reset the part, and those of frames, engines and currents -/

section
variable {h : Hub}

theorem Hub.trunkLost_lensesInTravel (m : Memory) (l : h.LensesInTravel) : (h.trunkLost m).LensesInTravel := by
  have closed : (allPorts.foldl Hub.closesLost h).lens = h.lens := foldl_keep (fun h : Hub => h.lens) _ (fun h p => by simp) _ _
  unfold Hub.trunkLost
  dsimp only
  split
  · exact Hub.coldReset_lensesInTravel _
  · refine l.of_lens ?_
    rw [foldl_keep (fun h : Hub => h.lens) _ fun h p => h.pipeTrunkLost_lens m p]
    simpa using closed

theorem Hub.sendEnd_lensesInTravel (m : Memory) (l : h.LensesInTravel) : (h.sendEnd m).LensesInTravel := by
  unfold Hub.sendEnd
  split
  · exact l
  · dsimp only
    split
    · exact Hub.coldReset_lensesInTravel _
    · split
      · exact l
      · split
        · exact l
        · exact l.of_lens (by simp)

end

section
variable {s t : State}

theorem execFrameStart_lensesInTravel {p : Port} {number width height id : Nat}
    (e : execFrameStart p number width height id s = .next t) (l : s.hub.LensesInTravel) : t.hub.LensesInTravel := by
  unfold execFrameStart at e
  split at e
  · exact Hub.lensesInTravel_ends.settled e (l.of_lens (s.frameStart_lens p _ _ _ _))
  · cases e; exact l

theorem execLine_lensesInTravel {p : Port} {number : Nat} {pixels : List Nat} (e : execLine p number pixels s = .next t)
    (l : s.hub.LensesInTravel) : t.hub.LensesInTravel := by
  unfold execLine at e
  split at e
  · exact Hub.lensesInTravel_ends.settled e (l.of_lens (s.line_lens p _ _))
  · cases e; exact l

theorem execFrameEnd_lensesInTravel {p : Port} {linesSent status : Nat} (e : execFrameEnd p linesSent status s = .next t)
    (l : s.hub.LensesInTravel) : t.hub.LensesInTravel := by
  unfold execFrameEnd at e
  split at e
  · exact Hub.lensesInTravel_ends.settled e (l.of_lens (s.frameEnd_lens p _ _))
  · cases e; exact l

theorem execFillDeadline_lensesInTravel {p : Port} (e : execFillDeadline p s = .next t) (l : s.hub.LensesInTravel) :
    t.hub.LensesInTravel := by
  unfold execFillDeadline at e
  split at e
  · exact Hub.lensesInTravel_ends.settled e (l.of_lens (s.completeFrame_lens p _ _ _ _))
  · cases e; exact l

theorem execSettlingEnd_lensesInTravel {n : EngineNo} (e : execSettlingEnd n s = .next t) (l : s.hub.LensesInTravel) :
    t.hub.LensesInTravel := by
  unfold execSettlingEnd at e
  split at e
  · exact Hub.lensesInTravel_ends.event e l
  · cases e; exact l

theorem execShot_lensesInTravel {n : EngineNo} {trace : List (Nat × Int)} (e : execShot n trace s = .next t)
    (l : s.hub.LensesInTravel) : t.hub.LensesInTravel := by
  unfold execShot at e
  split at e
  · exact Hub.lensesInTravel_ends.event e ((s.hub.shotEnd_travelKept n _ trace).holds l)
  · cases e; exact l

theorem execRepeatIntervalEnd_lensesInTravel {n : EngineNo} (e : execRepeatIntervalEnd n s = .next t) (l : s.hub.LensesInTravel) :
    t.hub.LensesInTravel := by
  unfold execRepeatIntervalEnd at e
  split at e
  · exact Hub.lensesInTravel_ends.event e l
  · cases e; exact l

/-- A current that a row reports trips its port or has that row's own effect (R47). -/
theorem State.senseCurrent_lensesInTravel {p : Port} {current : Nat} {own : Hub → Bool} {act : Hub → Hub}
    (e : s.senseCurrent p current own act = .next t) (l : s.hub.LensesInTravel) (acts : s.hub.TravelKept (act s.hub)) :
    t.hub.LensesInTravel := by
  refine Hub.lensesInTravel_ends.when e l fun _ => ?_
  split
  · exact (s.hub.trip_travelKept p _).holds l
  · exact acts.holds l

variable {p : Port} {current : Nat}

theorem execOvercurrentRise_lensesInTravel (e : execOvercurrentRise p current s = .next t) (l : s.hub.LensesInTravel) :
    t.hub.LensesInTravel := State.senseCurrent_lensesInTravel e l (.of_lens rfl)

theorem execOvercurrentFall_lensesInTravel (e : execOvercurrentFall p current s = .next t) (l : s.hub.LensesInTravel) :
    t.hub.LensesInTravel := State.senseCurrent_lensesInTravel e l (.of_lens rfl)

theorem execTrip_lensesInTravel (e : execTrip p current s = .next t) (l : s.hub.LensesInTravel) : t.hub.LensesInTravel :=
  State.senseCurrent_lensesInTravel e l (s.hub.trip_travelKept p .trip)

theorem execHardShort_lensesInTravel (e : execHardShort p current s = .next t) (l : s.hub.LensesInTravel) :
    t.hub.LensesInTravel := State.senseCurrent_lensesInTravel e l (.refl _)

end

/-- Every command keeps every axis in its travel: the lens requests check what they store against the axis's max, reports above
it give UNKNOWN, and the ends of links and power forget positions alone. -/
theorem exec_lensesInTravel (i : Instr) (s t : State) (e : exec i s = .next t) (l : s.hub.LensesInTravel) :
    t.hub.LensesInTravel := by
  have ends := Hub.lensesInTravel_ends
  cases i with
  | coldReset => exact ends.event e (Hub.coldReset_lensesInTravel _)
  | trunkUp => exact ends.when e l fun _ => l.of_lens (Hub.trunkReturns_lens _)
  | trunkLoss => exact ends.when e l fun _ => Hub.trunkLost_lensesInTravel _ l
  | requestPacketReceived pkt => exact ends.when e l fun _ => l.of_lens (Hub.arrive_lens pkt)
  | badRequest => exact ends.badRequest (fun l => l) e l
  | packetSendEnd => exact ends.when e l fun _ => Hub.sendEnd_lensesInTravel _ l
  | imageQueueTakesPacket p => exact ends.when e l fun _ => l.of_lens (by simp)
  | answeredSlotReplyOffer => exact ends.when e l fun _ => l.of_lens (by simp)
  | identify r | timeRead r => exact ends.take (forHub_keeps fun _ l => l) e l
  | partReset r => exact ends.take (forHub_keeps fun _ l => l) e l
  | readEvents r => exact ends.take (forEither_keeps fun p _ l => l.of_lens (Hub.readEvents_lens p)) e l
  | noticeSet r kinds => exact ends.take (forHub_keeps fun _ l => l.of_lens (Hub.noticeSet_lens kinds)) e l
  | isolate r action => exact ends.take (forPort_keeps fun p h => (h.isolate_travelKept p action).holds) e l
  | portRead r | dropHistoryRead r | lensRead r | frameList r => exact ends.take (forPort_keeps fun _ _ l => l) e l
  | linkSet r degrade drop => exact ends.take (forPort_keeps fun p _ l => l.of_lens (Hub.linkSet_lens p _ _)) e l
  | linkTest r count => exact ends.take (forPort_keeps fun p _ l => l.of_lens (Hub.linkTest_lens p _)) e l
  | attrRead r address count | attrWrite r address words =>
    exact ends.takeLater (passFor_keeps fun p _ l => l.of_lens (Hub.passThrough_lens p _ _ _ _)) e l
  | passThroughTimeout slot => exact ends.when e l fun _ => l.of_lens (by simp)
  | budgetSet r budget => exact ends.take (forHub_keeps fun h => (h.budgetSet_travelKept budget).holds) e l
  | portPowerSet r grant limit priority allowance =>
    exact ends.take (forPort_keeps fun p _ l => l.of_lens (Hub.portPowerSet_lens p _ _ _ _)) e l
  | powerOn r => exact ends.take (forPort_keeps fun p _ l => l.of_lens (Hub.powerOn_lens p)) e l
  | powerOff r => exact ends.take (forPort_keeps fun p h => (h.powerOff_travelKept p).holds) e l
  | detectionEnd p load => exact ends.when e l fun _ => (s.hub.detected_travelKept p load).holds l
  | rampOutputReached p output => exact ends.when e l fun _ => l.of_lens (by simp)
  | rampFail p output => exact ends.when e l fun _ => (s.hub.trip_travelKept p _).holds l
  | overcurrentRise p current => exact execOvercurrentRise_lensesInTravel e l
  | overcurrentFall p current => exact execOvercurrentFall_lensesInTravel e l
  | trip p current => exact execTrip_lensesInTravel e l
  | hardShort p current => exact execHardShort_lensesInTravel e l
  | cooldownEnd p => exact ends.when e l fun _ => (s.hub.cooldownOver_travelKept p).holds l
  | supplySample mv => exact ends.event e ((s.hub.supplySample_travelKept mv).holds l)
  | trainingAttemptEnd p => exact ends.when e l fun _ => (s.hub.attemptEnd_travelKept p).holds l
  | lockReply p => exact ends.when e l fun _ => l.of_lens (by simp)
  | lossOfLock p => exact ends.when e l fun _ => (s.hub.lossOfLock_travelKept p).holds l
  | errorWindowEnd p => exact ends.when e l fun _ => l.of_lens (by simp)
  | badUpstreamPacket p bytes => exact ends.when e l fun _ => l.of_lens (Hub.badPacket_lens p)
  | frameStart p number width height id => exact execFrameStart_lensesInTravel e l
  | line p number pixels => exact execLine_lensesInTravel e l
  | frameEnd p linesSent status => exact execFrameEnd_lensesInTravel e l
  | fillDeadline p => exact execFillDeadline_lensesInTravel e l
  | ack p sequence => exact ends.when e l fun _ => (s.hub.ackTaken_travelKept p _).holds l
  | ackWaitEnd p => exact ends.when e l fun _ => (s.hub.waitEnds_travelKept p).holds l
  | downstreamMessageSent p => exact ends.when e l fun _ => (s.hub.messageSent_travelKept p).holds l
  | attrReply p attr status words => exact ends.when e l fun _ => l.of_lens (by simp)
  | lensReport p axis position kind => exact ends.when e l fun _ => (s.hub.lensReport_travelKept p _ _ _).holds l
  | lensDeadline p axis => exact ends.when e l fun _ => (s.hub.axisTimeout_travelKept p axis).holds l
  | lensProfileLoad r focus zoom iris =>
    exact ends.take (forPort_keeps fun p h => (h.lensProfileLoad_travelKept p _ _ _).holds) e l
  | lensHome r axis => exact ends.take (forPort_keeps fun p h => (h.lensHome_travelKept p axis).holds) e l
  | lensMove r axis target => exact ends.take (forPort_keeps fun p h => (h.lensMove_travelKept p axis target).holds) e l
  | lensStop r axis => exact ends.take (forPort_keeps fun p h => (h.lensStop_travelKept p axis).holds) e l
  | focusTableLoad r stop zoom points =>
    exact ends.take (forPort_keeps fun p h => (h.focusTableLoad_travelKept p _ _ _).holds) e l
  | lensFocusDistance r d => exact ends.take (forPort_keeps fun p h => (h.lensFocusDistance_travelKept p d).holds) e l
  | encoderStep a b => exact ends.event e (l.of_lens (by simp))
  | triggerTimeout p => exact ends.when e l fun _ => l.of_lens (Hub.triggerTimeout_lens p)
  | triggerLineRise n | triggerLineFall n => exact ends.when e l fun _ => l
  | filterTimeEnd n => exact ends.when e l fun _ => l.of_lens ((Hub.fireLine_lens n).trans rfl)
  | encoderSet r value => exact ends.take (forHub_keeps fun _ l => l) e l
  | triggerLineSet r line filter => exact ends.take (forHub_keeps fun _ l => l.of_lens (Hub.triggerLineSet_lens _ _)) e l
  | triggerSet r source pitch phase direction policy timeout =>
    exact ends.take (forPort_keeps fun p _ l => l.of_lens (Hub.triggerSet_lens p _ _ _ _ _ _)) e l
  | triggerSoft r mask => exact ends.take (forHub_keeps fun _ l => l.of_lens (Hub.triggerSoft_lens mask)) e l
  | triggerRead r | faultRead r => exact ends.take (forEither_keeps fun _ _ l => l) e l
  | cableTypeSet r type speed polarity threshold =>
    exact ends.take (forHub_keeps fun _ l => l.of_lens (Hub.cableTypeSet_lens _ _ _ _)) e l
  | portCableSet r type length tolerance offset =>
    exact ends.take (forPort_keeps fun p _ l => l.of_lens (Hub.portCableSet_lens p _ _ _ _)) e l
  | autoSweepSet r flags sweep => exact ends.take (forPort_keeps fun p _ l => l.of_lens (Hub.autoSweepSet_lens p _ _)) e l
  | sweepRequest r sweep first => exact ends.take (forPort_keeps fun p h => (h.sweepRequest_travelKept p _ _).holds) e l
  | settlingEnd n => exact execSettlingEnd_lensesInTravel e l
  | shot n trace => exact execShot_lensesInTravel e l
  | repeatIntervalEnd n => exact execRepeatIntervalEnd_lensesInTravel e l
  | sweepCancel r => exact ends.take (forPort_keeps fun p h => (h.cancelSweep_travelKept p).holds) e l
  | faultClear r => exact ends.take (forPort_keeps fun p _ l => l.of_lens (Hub.faultClear_lens p)) e l
  | ringSet r start length timeout => exact ends.take (forPort_keeps fun p _ l => l.of_lens (Hub.ringSet_lens p _ _ _)) e l
  | frameHold r number => exact ends.take (forPort_keeps fun p _ l => l.of_lens (Hub.frameHold_lens p _)) e l
  | frameRelease r number => exact ends.take (forPort_keeps fun p _ l => l.of_lens (Hub.frameRelease_lens p _)) e l
  | viewLoad r view params => exact ends.take (forHub_keeps fun _ l => l.of_lens (Hub.viewLoad_lens _ _)) e l
  | viewBind r view => exact ends.take (forPort_keeps fun p _ l => l.of_lens (Hub.viewBind_lens p _)) e l
  | viewUnbind r | pipeReset r => exact ends.take (forPort_keeps fun _ _ l => l) e l
  | coefSelect r table => exact ends.take (forHub_keeps fun _ l => l.of_lens (Hub.coefSelect_lens _)) e l
  | coefWrite r values => exact ends.take (forHub_keeps fun _ l => l.of_lens (Hub.coefWrite_lens _)) e l
  | frameResend r number view =>
    exact ends.take (forPort_keeps fun p _ l => l.of_lens (Hub.frameResend_lens s.dram p _ _)) e l
  | egressSet r settings => exact ends.take (forEither_keeps fun p _ l => l.of_lens (Hub.egressSet_lens settings p)) e l

/-- Settles O12: every command keeps the axes in their travel, and a microsecond of hub time leaves the lenses as they are. -/
theorem lensPositionsInTravel : Obligations.LensPositionsInTravel := by
  intro s t l e
  unfold step at e
  split at e
  case h_1 => cases e; exact l
  case h_2 i rest _ => exact exec_lensesInTravel i { s with pending := rest } t e l

end Sys2Proof.Machine

/-! # The settings of a lens: profiles and focus tables (R85, R100) -/

namespace Sys2Proof.Machine

/-! ## LENS_PROFILE_LOAD (R85) -/

/-- The four values of one axis lie in the ranges of Table 5-1. -/
def InProfileRange (q : ProfileParams) : Prop :=
  q.present ≤ 1 ∧ 1 ≤ q.max ∧ q.max ≤ 65535 ∧ 10 ≤ q.rate ∧ q.rate ≤ 20000 ∧ q.tolerance ≤ 255

theorem profileFits_iff {q : ProfileParams} : profileFits q = true ↔ InProfileRange q := by
  simp only [profileFits, Bool.and_eq_true, within_iff, InProfileRange]
  omega

/-- The reply carries a profile that fits as the request does. -/
theorem axisProfileBytes_loadProfile {q : ProfileParams} (fits : InProfileRange q) (a : Axis) :
    axisProfileBytes (a.loadProfile q) = profileBytes q := by
  have present : yesNo (decide (q.present = 1)) = u8 q.present := by
    rcases Nat.le_one_iff_eq_zero_or_eq_one.mp fits.1 with zero | one
    · simp [yesNo, zero]
    · simp [yesNo, one]
  simp only [axisProfileBytes, Axis.loadProfile, present, profileBytes]

section
variable {h : Hub} {p : Port} {f z ir : ProfileParams}

theorem Hub.lensProfileLoad_of_misfit (misfit : ¬ (InProfileRange f ∧ InProfileRange z ∧ InProfileRange ir)) :
    h.lensProfileLoad p f z ir = (h, refuse .range) := by
  have fails : ¬ (profileFits f && profileFits z && profileFits ir) = true := by
    simpa only [Bool.and_eq_true, profileFits_iff, and_assoc] using misfit
  rw [Hub.lensProfileLoad, if_pos (by simpa only [Bool.not_eq_true', Bool.not_eq_true] using fails)]

theorem Hub.lensProfileLoad_of_motion (focus : InProfileRange f) (zoom : InProfileRange z) (iris : InProfileRange ir)
    (motion : (h.ln p).anyMotion = true) :
    h.lensProfileLoad p f z ir = (h, refuse .busy) := by
  simp [Hub.lensProfileLoad, profileFits_iff.mpr, focus, zoom, iris, motion]

theorem Hub.lensProfileLoad_of_still (focus : InProfileRange f) (zoom : InProfileRange z) (iris : InProfileRange ir)
    (still : (h.ln p).anyMotion = false) :
    h.lensProfileLoad p f z ir =
      (h.modLens p fun l =>
        { l with focus := l.focus.loadProfile f, zoom := l.zoom.loadProfile z, iris := l.iris.loadProfile ir },
       okWith (profileBytes f ++ profileBytes z ++ profileBytes ir)) := by
  simp [Hub.lensProfileLoad, profileFits_iff.mpr, focus, zoom, iris, still, allAxes, Hub.ax, PortLens.axis,
    axisProfileBytes_loadProfile]

end

/-! ## FOCUS_TABLE_LOAD (R100) -/

/-- The distances of a list of points rise strictly from each to the next (R100, check 4). -/
theorem distancesRise_iff : ∀ points : List (Nat × Nat),
    distancesRise points = true ↔ points.Pairwise fun a b => a.1 < b.1
  | [] => by simp [distancesRise]
  | [_] => by simp [distancesRise]
  | (d, f) :: (d', f') :: rest => by
    have tail := distancesRise_iff ((d', f') :: rest)
    simp only [distancesRise, Bool.and_eq_true, decide_eq_true_eq, tail]
    constructor
    · rintro ⟨first, rises⟩
      refine List.pairwise_cons.mpr ⟨fun q m => ?_, rises⟩
      rcases List.mem_cons.mp m with rfl | later
      · exact first
      · exact first.trans ((List.pairwise_cons.mp rises).1 q later)
    · intro rises
      obtain ⟨first, rest⟩ := List.pairwise_cons.mp rises
      exact ⟨first _ List.mem_cons_self, rest⟩

theorem pointsFit_iff {max : Nat} {points : List (Nat × Nat)} :
    pointsFit max points = true ↔
      (∀ q ∈ points, 1 ≤ q.1 ∧ q.1 ≤ 65535 ∧ q.2 ≤ max) ∧ points.Pairwise fun a b => a.1 < b.1 := by
  simp only [pointsFit, Bool.and_eq_true, List.all_eq_true, within_iff, decide_eq_true_eq, distancesRise_iff, and_assoc]

/-- The stops loaded, counted by their numbers. -/
theorem PortLens.loadedStops_eq (l : PortLens) :
    l.loadedStops = ([0, 1, 2, 3].filter fun n => (vget l.stops n).isSome).length := by
  have listed : l.stops.toList = [0, 1, 2, 3].map (vget l.stops) := by
    refine List.ext_getElem (by simp) fun i low _ => ?_
    match i, low with
    | 0, _ | 1, _ | 2, _ | 3, _ => simp [vget]
  rw [PortLens.loadedStops, listed, List.filter_map, List.length_map]
  rfl

section
variable {h : Hub} {p : Port} {stop zoom : Nat} {points : List (Nat × Nat)}

theorem Hub.focusTableLoad_of_shape (misfit : 4 ≤ stop ∨ points.length = 1 ∨ 16 < points.length) :
    h.focusTableLoad p stop zoom points = (h, refuse .range) := by
  unfold Hub.focusTableLoad
  split
  · rfl
  case h_2 n found =>
    have low : stop < 4 := by
      by_contra high
      rw [asFin_of_not_lt high] at found
      cases found
    exact if_pos (misfit.resolve_left (by omega))

/-- The checks of R100 after the first two. -/
theorem Hub.focusTableLoad_of_fits (low : stop < 4) (one : points.length ≠ 1) (few : points.length ≤ 16) :
    h.focusTableLoad p stop zoom points =
      if 2 ≤ points.length ∧ !(h.ln p).focus.present then (h, refuse .noTable)
      else if !pointsFit (h.ln p).focus.max points then (h, refuse .range)
      else
        let h' := h.modLens p fun l =>
          { l with
            stops := vset l.stops ⟨stop, low⟩ (if points.isEmpty then none else some { zoom := zoom, points := points }) }
        (h', okWith (u8 stop ++ u8 points.length ++ u8 (h'.ln p).loadedStops)) := by
  rw [Hub.focusTableLoad, asFin_of_lt low]
  exact if_neg (by omega)

theorem Hub.focusTableLoad_of_absent (low : stop < 4) (one : points.length ≠ 1) (few : points.length ≤ 16)
    (nonempty : points ≠ []) (absent : (h.ln p).focus.present = false) :
    h.focusTableLoad p stop zoom points = (h, refuse .noTable) := by
  have two : 2 ≤ points.length := by
    have := List.length_pos_iff.mpr nonempty
    omega
  rw [Hub.focusTableLoad_of_fits low one few, if_pos ⟨two, by simp [absent]⟩]

/-- Where the points are empty or a focus axis is present, the request is not refused NO_TABLE. -/
theorem Hub.focusTableLoad_passes (may : points = [] ∨ (h.ln p).focus.present = true) :
    ¬ (2 ≤ points.length ∧ (!(h.ln p).focus.present) = true) := by
  rcases may with rfl | present
  · simp
  · simp [present]

section
variable (low : stop < 4) (one : points.length ≠ 1) (few : points.length ≤ 16)
  (may : points = [] ∨ (h.ln p).focus.present = true)
include low one few may

theorem Hub.focusTableLoad_of_bad (bad : pointsFit (h.ln p).focus.max points = false) :
    h.focusTableLoad p stop zoom points = (h, refuse .range) := by
  rw [Hub.focusTableLoad_of_fits low one few, if_neg (Hub.focusTableLoad_passes may), if_pos (by simp [bad])]

theorem Hub.focusTableLoad_of_good (good : pointsFit (h.ln p).focus.max points = true) :
    h.focusTableLoad p stop zoom points =
      (let h' := h.modLens p fun l =>
        { l with
          stops := vset l.stops ⟨stop, low⟩ (if points = [] then none else some { zoom := zoom, points := points }) }
       (h', okWith (u8 stop ++ u8 points.length ++
         u8 ([0, 1, 2, 3].filter fun n => (vget (h'.ln p).stops n).isSome).length))) := by
  rw [Hub.focusTableLoad_of_fits low one few, if_neg (Hub.focusTableLoad_passes may), if_neg (by simp [good])]
  simp only [List.isEmpty_iff, PortLens.loadedStops_eq]

end

end

/-- Settles O47: each outcome is the owner's answer on the hub whose head request is taken. -/
theorem lensSettingsReplaced : Obligations.LensSettingsReplaced := by
  intro s r pkt p f z ir stop zoom points
  refine ⟨fun asked => 
      ⟨fun misfit => ?profileRange, fun focus zoom iris motion => ?busy, fun focus zoom iris still => ?loaded⟩,
    fun asked => ⟨fun misfit => ?shape, fun low one few => ⟨fun nonempty absent => ?absent, fun may =>
      ⟨fun bad => ?bad, fun good => ?good⟩⟩⟩⟩
  case profileRange => exact State.answers_forPort rfl rfl asked (Hub.lensProfileLoad_of_misfit misfit)
  case busy => exact State.answers_forPort rfl rfl asked (Hub.lensProfileLoad_of_motion focus zoom iris motion)
  case loaded => exact State.answers_forPort rfl rfl asked (Hub.lensProfileLoad_of_still focus zoom iris still)
  case shape => exact State.answers_forPort rfl rfl asked (Hub.focusTableLoad_of_shape misfit)
  case absent => exact State.answers_forPort rfl rfl asked (Hub.focusTableLoad_of_absent low one few nonempty absent)
  case bad =>
    exact State.answers_forPort rfl rfl asked
      (Hub.focusTableLoad_of_bad low one few may (Bool.eq_false_iff.mpr (mt pointsFit_iff.mp bad)))
  case good =>
    exact State.answers_forPort rfl rfl asked (Hub.focusTableLoad_of_good low one few may (pointsFit_iff.mpr good))

end Sys2Proof.Machine

/-! # The focus of a distance (R101 to R103) -/

namespace Sys2Proof.Machine

/-! ## Interpolation over the points of a stop (R102) -/

/-- At or below the first point's distance the focus is the first point's. -/
theorem focusOn_of_le {d d0 f0 : Nat} (below : d ≤ d0) : ∀ rest : List (Nat × Nat), focusOn d ((d0, f0) :: rest) = f0
  | [] => rfl
  | _ :: _ => if_pos below

/-- Points before one at or below the distance do not count. -/
theorem focusOn_skip {d : Nat} {a b : Nat × Nat} (rest : List (Nat × Nat)) (rises : a.1 < b.1) (reached : b.1 ≤ d) :
    focusOn d (a :: b :: rest) = focusOn d (b :: rest) := by
  rw [focusOn, if_neg (by omega), if_neg (by omega)]

theorem focusOn_append {d : Nat} {q : Nat × Nat} {back : List (Nat × Nat)} (reached : q.1 ≤ d) :
    ∀ front : List (Nat × Nat),
      (front ++ q :: back).Pairwise (fun a b => a.1 < b.1) → focusOn d (front ++ q :: back) = focusOn d (q :: back)
  | [], _ => rfl
  | [a], rises => focusOn_skip back ((List.pairwise_cons.mp rises).1 q (by simp)) reached
  | a :: b :: front, rises => by
    obtain ⟨first, later⟩ := List.pairwise_cons.mp rises
    have below : b.1 < q.1 := (List.pairwise_cons.mp later).1 q (by simp)
    exact (focusOn_skip (front ++ q :: back) (first b (by simp)) (below.le.trans reached)).trans
      (focusOn_append reached (b :: front) later)

/-- At or above the last point's distance the focus is the last point's. -/
theorem focusOn_of_last {d dn fn : Nat} {front : List (Nat × Nat)}
    (rises : (front ++ [(dn, fn)]).Pairwise fun a b => a.1 < b.1) (above : dn ≤ d) :
    focusOn d (front ++ [(dn, fn)]) = fn := focusOn_append above front rises

/-- Between two neighbours the focus lies on their line. -/
theorem focusOn_of_between {d d0 f0 d1 f1 : Nat} {front back : List (Nat × Nat)}
    (rises : (front ++ (d0, f0) :: (d1, f1) :: back).Pairwise fun a b => a.1 < b.1) (above : d0 ≤ d) (below : d < d1) :
    focusOn d (front ++ (d0, f0) :: (d1, f1) :: back) = interpolate d d0 f0 d1 f1 := by
  rw [focusOn_append above front rises, focusOn]
  by_cases at_first : d ≤ d0
  · have here : d = d0 := by omega
    simp [interpolate, here]
  · rw [if_neg at_first, if_pos below]

/-- A proper part of a length, truncated, is no longer. -/
theorem tdiv_mul_le {n m g : Int} (low : 0 ≤ n) (high : n < m) (up : 0 ≤ g) :
    0 ≤ (n * g).tdiv m ∧ (n * g).tdiv m ≤ g := by
  have part := Int.mul_nonneg low up
  rw [Int.tdiv_eq_ediv_of_nonneg part]
  refine ⟨Int.ediv_nonneg part (by omega), Int.ediv_le_of_le_mul (by omega) ?_⟩
  rw [Int.mul_comm g m]
  exact Int.mul_le_mul_of_nonneg_right high.le up

/-- The line between two points stays between their positions. -/
theorem interpolate_between {d d0 f0 d1 f1 lo hi : Nat} (above : d0 < d) (below : d < d1) (first : lo ≤ f0 ∧ f0 ≤ hi)
    (second : lo ≤ f1 ∧ f1 ≤ hi) : (lo : Int) ≤ interpolate d d0 f0 d1 f1 ∧ interpolate d d0 f0 d1 f1 ≤ hi := by
  unfold interpolate
  rcases Nat.le_total f0 f1 with rises | falls
  · obtain ⟨low, high⟩ := tdiv_mul_le (n := (d : Int) - d0) (m := (d1 : Int) - d0) (g := (f1 : Int) - f0)
      (by omega) (by omega) (by omega)
    omega
  · obtain ⟨low, high⟩ := tdiv_mul_le (n := (d : Int) - d0) (m := (d1 : Int) - d0) (g := (f0 : Int) - f1)
      (by omega) (by omega) (by omega)
    have turned : (((d : Int) - d0) * ((f1 : Int) - f0)).tdiv ((d1 : Int) - d0) =
        -(((d : Int) - d0) * ((f0 : Int) - f1)).tdiv ((d1 : Int) - d0) := by
      rw [← Int.neg_tdiv, ← Int.mul_neg, Int.neg_sub]
    omega

/-- The focus never leaves the span of the points' positions. -/
theorem focusOn_between {d lo hi : Nat} :
    ∀ points : List (Nat × Nat), points ≠ [] → (∀ q ∈ points, lo ≤ q.2 ∧ q.2 ≤ hi) →
    (lo : Int) ≤ focusOn d points ∧ focusOn d points ≤ hi
  | [], nonempty, _ => absurd rfl nonempty
  | [(_, f)], _, span => by
    have own := span _ List.mem_cons_self
    simpa [focusOn] using own
  | (d0, f0) :: (d1, f1) :: rest, _, span => by
    have first := span _ List.mem_cons_self
    unfold focusOn
    split
    · simpa using first
    case isFalse above =>
      split
      case isTrue below => exact interpolate_between (by omega) below first (span (d1, f1) (by simp))
      case isFalse => exact focusOn_between _ (List.cons_ne_nil _ _) fun q m => span q (List.mem_cons_of_mem _ m)

/-! ## The stop chosen (R101) -/

section
variable {ref n : Nat} {st : FocusStop}

/-- Every stop of a list is farther from the reference. -/
theorem nearestStop_of_farther {rest : List (Nat × Option FocusStop)} : ∀ (front : List (Nat × Option FocusStop))
    (best : Option (Nat × FocusStop)),
    (∀ e ∈ front, ∀ b, e.2 = some b → distance st.zoom ref < distance b.zoom ref) →
    (∀ e ∈ best, distance st.zoom ref < distance e.2.zoom ref) →
    nearestStop ref (front ++ (n, some st) :: rest) best = nearestStop ref rest (some (n, st))
  | [], none, _, _ => rfl
  | [], some (m, b), _, far => if_pos (far (m, b) rfl)
  | (m, none) :: front, best, farther, far =>
    nearestStop_of_farther front best (fun e h => farther e (List.mem_cons_of_mem _ h)) far
  | (m, some b) :: front, none, farther, _ =>
    nearestStop_of_farther front (some (m, b)) (fun e h => farther e (List.mem_cons_of_mem _ h))
      (by rintro e ⟨⟩; exact farther _ List.mem_cons_self b rfl)
  | (m, some b) :: front, some (k, c), farther, far => by
    have later : ∀ e ∈ front, ∀ b, e.2 = some b → distance st.zoom ref < distance b.zoom ref :=
      fun e h => farther e (List.mem_cons_of_mem _ h)
    rw [List.cons_append, nearestStop]
    split
    · exact nearestStop_of_farther front _ later (by rintro e ⟨⟩; exact farther _ List.mem_cons_self b rfl)
    · exact nearestStop_of_farther front _ later far

/-- No stop of a list is nearer to the reference. -/
theorem nearestStop_of_no_nearer : ∀ rest : List (Nat × Option FocusStop),
    (∀ e ∈ rest, ∀ b, e.2 = some b → distance st.zoom ref ≤ distance b.zoom ref) →
    nearestStop ref rest (some (n, st)) = some (n, st)
  | [], _ => rfl
  | (_, none) :: rest, far => nearestStop_of_no_nearer rest fun e h => far e (List.mem_cons_of_mem _ h)
  | (_, some b) :: rest, far => by
    rw [nearestStop, if_neg (Nat.not_lt.mpr (far _ List.mem_cons_self b rfl))]
    exact nearestStop_of_no_nearer rest fun e h => far e (List.mem_cons_of_mem _ h)

end

section
variable {l : PortLens} {ref : Nat}

/-- A stop as the choice sees it: its number and what is loaded there. -/
def PortLens.stopEntry (l : PortLens) (i : Fin 4) : Nat × Option FocusStop := (i.val, vget l.stops i)

theorem PortLens.chooseStop_of_none (unloaded : ∀ i, vget l.stops i = none) : l.chooseStop ref = none := by
  simp [PortLens.chooseStop, unloaded, nearestStop]

/-- The loaded stop nearest the reference, the lowest among equals, is chosen. -/
theorem PortLens.chooseStop_of_nearest {i : Fin 4} {st : FocusStop} (loaded : vget l.stops i = some st)
    (nearest : ∀ j st', j ≠ i → vget l.stops j = some st' →
      distance st.zoom ref < distance st'.zoom ref ∨ distance st.zoom ref = distance st'.zoom ref ∧ i < j) :
    l.chooseStop ref = some (i.val, st) := by
  have parted : l.chooseStop ref = nearestStop ref
      (([0, 1, 2, 3].filter (· < i)).map l.stopEntry ++
        (i.val, vget l.stops i) :: ([0, 1, 2, 3].filter (i < ·)).map l.stopEntry) none := by
    match i with
    | 0 | 1 | 2 | 3 => rfl
  rw [parted, loaded, nearestStop_of_farther _ _ ?farther (by simp)]
  case farther =>
    rintro e m b is
    obtain ⟨j, low, rfl⟩ := List.mem_map.mp m
    have low : j < i := by simpa using (List.mem_filter.mp low).2
    rcases nearest j b low.ne is with far | ⟨-, high⟩
    · exact far
    · exact absurd high low.not_gt
  refine nearestStop_of_no_nearer _ ?_
  rintro e m b is
  obtain ⟨j, high, rfl⟩ := List.mem_map.mp m
  have high : i < j := by simpa using (List.mem_filter.mp high).2
  rcases nearest j b high.ne' is with far | ⟨same, -⟩
  · exact far.le
  · exact same.le

/-- The reference zoom position, by the state of the zoom axis. -/
def PortLens.References (l : PortLens) (ref : Option Nat) : Prop :=
  (l.zoom.present = false → ref = some 0) ∧
  (l.zoom.present = true → l.zoom.motion = .moving → ref = some l.zoom.target) ∧
  (l.zoom.present = true → l.zoom.motion = .idle → ref = l.zoom.position) ∧
  (l.zoom.present = true → l.zoom.motion ≠ .moving → l.zoom.motion ≠ .idle → ref = none)

theorem PortLens.zoomReference_of_references {ref : Option Nat} (is : l.References ref) : l.zoomReference = ref := by
  obtain ⟨absent, moving, idle, other⟩ := is
  cases present : l.zoom.present with
  | false => simp [PortLens.zoomReference, present, absent present]
  | true =>
    cases motion : l.zoom.motion with
    | moving => simp [PortLens.zoomReference, present, motion, moving present motion]
    | idle => simp [PortLens.zoomReference, present, motion, idle present motion]
    | homing | stopping =>
      simp [PortLens.zoomReference, present, motion, other present (by simp [motion]) (by simp [motion])]

end

/-! ## LENS_FOCUS_DISTANCE (R103) -/

/-- An axis that a move finds without a position: HOMING, or at rest in an UNKNOWN one (R90; R103, check 3). -/
def Axis.Blocked (a : Axis) : Prop := a.motion = .homing ∨ a.motion = .idle ∧ a.position = none

/-- The status of the request: CLAMPED where the focus was clamped and its move carried out, else the move's. -/
theorem focusStatus_eq {f : Int} {max : Nat} {moved : Status} :
    focusStatus (decide ((clampFocus f max : Int) ≠ f)) moved =
      if ((Nat.min f.toNat max : Nat) : Int) ≠ f ∧ (moved = .ok ∨ moved = .clamped) then .clamped else moved := by
  simp [focusStatus, carriedOut, clampFocus]

section
variable {h : Hub} {p : Port} {d : Nat}

theorem Hub.lensFocusDistance_of_range (misfit : ¬ (1 ≤ d ∧ d ≤ 65535)) :
    h.lensFocusDistance p d = (h, refuse .range) := by
  simp [Hub.lensFocusDistance, Bool.eq_false_iff.mpr (mt within_iff.mp misfit)]

section
variable (fits : within 1 65535 d = true)
include fits

theorem Hub.lensFocusDistance_of_absent (absent : (h.ln p).focus.present = false) :
    h.lensFocusDistance p d = (h, refuse .noTable) := by
  simp [Hub.lensFocusDistance, fits, absent]

variable (present : (h.ln p).focus.present = true)
include present

theorem Hub.lensFocusDistance_of_blocked (blocked : (h.ln p).focus.Blocked) :
    h.lensFocusDistance p d = (h, refuse .noPosition) := by
  rcases blocked with homing | ⟨idle, unknown⟩
  · simp [Hub.lensFocusDistance, fits, present, homing]
  · simp [Hub.lensFocusDistance, fits, present, idle, unknown]

theorem Hub.lensFocusDistance_of_unreferenced (unreferenced : (h.ln p).zoomReference = none) :
    h.lensFocusDistance p d = (h, refuse .noPosition) := by
  simp [Hub.lensFocusDistance, fits, present, unreferenced]

variable {ref : Nat} (free : ¬ (h.ln p).focus.Blocked) (referenced : (h.ln p).zoomReference = some ref)
include free referenced

theorem Hub.lensFocusDistance_of_unloaded (unloaded : (h.ln p).chooseStop ref = none) :
    h.lensFocusDistance p d = (h, refuse .noTable) := by
  unfold Axis.Blocked at free
  simp [Hub.lensFocusDistance, fits, present, free, referenced, unloaded]

theorem Hub.lensFocusDistance_of_stop {n : Nat} {st : FocusStop} (chosen : (h.ln p).chooseStop ref = some (n, st)) :
    let focus := focusOn d st.points
    let target := Nat.min focus.toNat (h.ln p).focus.max
    let moved := h.moveAxis p .focus target
    h.lensFocusDistance p d = (moved.1,
      { status := if (target : Int) ≠ focus ∧ (moved.2 = .ok ∨ moved.2 = .clamped) then .clamped else moved.2
        results := u8 n ++ u16 target }) := by
  intro focus target moved
  unfold Axis.Blocked at free
  simp only [Hub.lensFocusDistance, fits, present, Option.isNone_iff_eq_none, if_neg free, referenced, chosen, Bool.not_true,
    Bool.false_eq_true, if_false]
  exact congrArg (fun status => (moved.1, ({ status := status, results := u8 n ++ u16 target } : Reply))) focusStatus_eq

end

end

/-- Settles O50: the points' clauses by the shape of the list; each outcome of the request is the owner's answer on the hub
whose head request is taken. -/
theorem focusFollowsDistance : Obligations.FocusFollowsDistance := by
  refine ⟨fun d d0 f0 rest below => focusOn_of_le below rest, fun d front dn fn => focusOn_of_last,
    fun d front back d0 f0 d1 f1 => focusOn_of_between, fun d lo hi => focusOn_between, ?_⟩
  intro s r pkt p d asked l blocked referenced
  refine ⟨fun misfit => ?range, fun low high absent => ?absent, fun low high present =>
    ⟨?noPosition, fun ref free is => ⟨fun unloaded => ?unloaded, fun i st loaded nearest => ?moves⟩⟩⟩
  case range => exact State.answers_forPort rfl rfl asked (Hub.lensFocusDistance_of_range misfit)
  case absent =>
    exact State.answers_forPort rfl rfl asked (Hub.lensFocusDistance_of_absent (within_iff.mpr ⟨low, high⟩) absent)
  all_goals have fits : within 1 65535 d = true := within_iff.mpr ⟨low, high⟩
  case noPosition =>
    rintro (blocked | unreferenced)
    · exact State.answers_forPort rfl rfl asked (Hub.lensFocusDistance_of_blocked fits present blocked)
    · exact State.answers_forPort rfl rfl asked
        (Hub.lensFocusDistance_of_unreferenced fits present (PortLens.zoomReference_of_references unreferenced))
  case unloaded =>
    exact State.answers_forPort rfl rfl asked (Hub.lensFocusDistance_of_unloaded fits present free
      (PortLens.zoomReference_of_references is) (PortLens.chooseStop_of_none unloaded))
  case moves =>
    exact State.answers_forPort rfl rfl asked (Hub.lensFocusDistance_of_stop (h := s.hub.popRequest) fits present free
      (PortLens.zoomReference_of_references is) (PortLens.chooseStop_of_nearest loaded nearest))

end Sys2Proof.Machine

/-! # The lens commands: LENS_HOME, LENS_MOVE and LENS_STOP (R87 to R92) -/

namespace Sys2Proof.Machine

/-! ## Updates of one port -/

/-- An update that gives an item back as it stands changes nothing. -/
theorem vmod_of_fixed {α : Type} {n : Nat} {v : Vector α n} {i : Fin n} {f : α → α} (fixed : f (vget v i) = vget v i) :
    vmod v i f = v := by
  rw [vmod, fixed]
  exact Vector.set_getElem_self _

section
variable {h : Hub} {p : Port}

theorem Hub.modPower_of_fixed {f : PortPower → PortPower} (fixed : f (h.pw p) = h.pw p) : h.modPower p f = h := by
  rw [Hub.modPower, vmod_of_fixed fixed]

theorem Hub.modPower_modPower (f g : PortPower → PortPower) :
    (h.modPower p f).modPower p g = h.modPower p fun q => g (f q) := by
  simp only [Hub.modPower, vmod_vmod]

theorem PortLens.modAxis_congr {l : PortLens} {x : AxisId} {f g : Axis → Axis} (same : f (l.axis x) = g (l.axis x)) :
    l.modAxis x f = l.modAxis x g := by
  cases x <;> simp only [PortLens.axis] at same <;> simp only [PortLens.modAxis, same]

theorem Hub.modLens_congr {f g : PortLens → PortLens} (same : f (h.ln p) = g (h.ln p)) :
    h.modLens p f = h.modLens p g := by
  simp only [Hub.modLens, vmod_congr same]

/-- An update of an axis depends on what its function does to the axis as it stands. -/
theorem Hub.modAxis_congr {x : AxisId} {f g : Axis → Axis} (same : f (h.ax p x) = g (h.ax p x)) :
    h.modAxis p x f = h.modAxis p x g :=
  Hub.modLens_congr (PortLens.modAxis_congr same)

/-! ## The allowance given back (R86, R42) -/

/-- With no trigger deferred there is nothing to release. -/
theorem Hub.releaseDeferred_of_not_deferred (undeferred : ∀ f, (h.tg p).hand ≠ .deferred f) : h.releaseDeferred p = h := by
  unfold Hub.releaseDeferred
  split
  case h_1 fired is => exact absurd is (undeferred fired)
  case h_2 => rfl

/-- The hub after a port's allowance is given back, its deferred trigger released. -/
def Hub.allowanceBack (h : Hub) (p : Port) : Hub :=
  (h.modPower p fun q => { q with allowanceHeld := false }).releaseDeferred p

theorem Hub.reportIdle_of_motion (motion : (h.ln p).anyMotion = true) : h.reportIdle p = h := if_pos motion

theorem Hub.reportIdle_of_still (still : (h.ln p).anyMotion = false) : h.reportIdle p = h.allowanceBack p := by
  rw [Hub.reportIdle, if_neg (by simp [still]), Hub.allowanceBack]

/-- Of an allowance taken and given back, only the giving back remains. -/
theorem Hub.holdAllowance_reportIdle (still : (h.ln p).anyMotion = false) :
    (h.holdAllowance p).reportIdle p = h.allowanceBack p := by
  rw [Hub.reportIdle_of_still (by simpa [Hub.ln] using still), Hub.allowanceBack, Hub.holdAllowance, Hub.modPower_modPower,
    Hub.allowanceBack]

theorem Hub.allowanceBack_of_not_held (held : (h.pw p).allowanceHeld = false) (undeferred : ∀ f, (h.tg p).hand ≠ .deferred f) :
    h.allowanceBack p = h := by
  have fixed : ({ h.pw p with allowanceHeld := false } : PortPower) = h.pw p := by rw [← held]
  rw [Hub.allowanceBack, Hub.modPower_of_fixed fixed, Hub.releaseDeferred_of_not_deferred undeferred]

/-! ## The two common steps of a lens command (R87) -/

/-- A lens command of a port at rest whose allowance does not fit. -/
def Hub.NoBudget (h : Hub) (p : Port) : Prop :=
  (h.lk p).established = true ∧ (h.ln p).anyMotion = false ∧
    ¬ ((h.pw p).state = .on ∧ h.grantedTotal + (h.pw p).allowance ≤ h.cell.budget)

/-- A lens command of a port in motion whose queue is full. -/
def Hub.NoRoom (h : Hub) (p : Port) : Prop :=
  (h.lk p).established = true ∧ (h.ln p).anyMotion = true ∧ 8 ≤ (h.lk p).queue.length

/-- A lens command of a port at rest whose allowance fits and whose queue is full. -/
structure Hub.GivesBack (h : Hub) (p : Port) : Prop where
  established : (h.lk p).established = true
  still : (h.ln p).anyMotion = false
  on : (h.pw p).state = .on
  fits : h.grantedTotal + (h.pw p).allowance ≤ h.cell.budget
  full : 8 ≤ (h.lk p).queue.length

theorem Hub.allowanceFits_iff :
    h.allowanceFits p = true ↔ (h.pw p).state = .on ∧ h.grantedTotal + (h.pw p).allowance ≤ h.cell.budget := by
  simp [Hub.allowanceFits]

theorem Hub.commandRefusal_of_full (established : (h.lk p).established = true) (full : 8 ≤ (h.lk p).queue.length) :
    h.commandRefusal p = some .queueFull := by
  simp [Hub.commandRefusal, established, full]

theorem Hub.commandRefusal_of_room (established : (h.lk p).established = true) (room : (h.lk p).queue.length < 8) :
    h.commandRefusal p = none := by
  simp [Hub.commandRefusal, established, room]

variable {c : Command}

theorem Hub.lensCommand_of_noBudget (no : h.NoBudget p) : h.lensCommand p c = (h, some .noBudget) := by
  obtain ⟨-, still, beyond⟩ := no
  rw [Hub.lensCommand, if_neg (by simp [still]), if_neg (mt Hub.allowanceFits_iff.mp beyond)]

theorem Hub.lensCommand_of_noRoom (no : h.NoRoom p) : h.lensCommand p c = (h, some .queueFull) := by
  obtain ⟨established, motion, full⟩ := no
  rw [Hub.lensCommand, if_pos motion, Hub.commandRefusal_of_full established full]

theorem Hub.lensCommand_of_givesBack (back : h.GivesBack p) : h.lensCommand p c = (h.allowanceBack p, some .queueFull) := by
  rw [Hub.lensCommand, if_neg (by simp [back.still]), if_pos (Hub.allowanceFits_iff.mpr ⟨back.on, back.fits⟩),
    Hub.commandRefusal_of_full back.established back.full]
  simp only [Hub.holdAllowance_reportIdle back.still]

theorem Hub.lensCommand_of_accepts (accepts : h.LensAccepts p) : h.lensCommand p c = (h.lensSent p c, none) := by
  obtain ⟨established, room, may⟩ := accepts
  have room := Hub.commandRefusal_of_room established room
  cases motion : (h.ln p).anyMotion with
  | true =>
    rw [Hub.lensCommand, if_pos motion, room, Hub.lensSent, if_pos motion]
    rfl
  | false =>
    have fits := Hub.allowanceFits_iff.mpr (may.resolve_left (by simp [motion]))
    rw [Hub.lensCommand, if_neg (by simp [motion]), if_pos fits, room, Hub.lensSent, if_neg (by simp [motion])]
    rfl

theorem Hub.lensSent_ax (x : AxisId) : (h.lensSent p c).ax p x = h.ax p x := by
  unfold Hub.lensSent
  split <;> rfl

/-- What the queue refuses is not carried out. -/
theorem Hub.commandRefusal_not_carriedOut {e : Status} (refused : h.commandRefusal p = some e) : carriedOut e = false := by
  unfold Hub.commandRefusal at refused
  split at refused
  · cases refused; rfl
  · split at refused
    · cases refused; rfl
    · cases refused

/-- The statuses with which a lens command is refused are none of a request carried out. -/
theorem Hub.lensCommand_not_carriedOut {e : Status} (refused : (h.lensCommand p c).2 = some e) : carriedOut e = false := by
  unfold Hub.lensCommand at refused
  split at refused
  · split at refused
    case h_1 => cases refused
    case h_2 is => cases refused; exact Hub.commandRefusal_not_carriedOut is
  · split at refused
    · split at refused
      case h_1 => cases refused
      case h_2 is => cases refused; exact Hub.commandRefusal_not_carriedOut is
    · cases refused; rfl

/-- A request that comes down to one lens command: refused with the command's status, or carried on from the hub that the
command leaves. -/
def Hub.commandThen (h : Hub) (p : Port) (c : Command) (next : Hub → Hub × Reply) : Hub × Reply :=
  match (h.lensCommand p c).2 with
  | some e => ((h.lensCommand p c).1, refuse e)
  | none => next (h.lensCommand p c).1

variable {next : Hub → Hub × Reply}

theorem Hub.commandThen_of_refused {k : Hub} {e : Status} (is : h.lensCommand p c = (k, some e)) :
    h.commandThen p c next = (k, refuse e) := by
  rw [Hub.commandThen, is]

theorem Hub.commandThen_of_accepts (accepts : h.LensAccepts p) : h.commandThen p c next = next (h.lensSent p c) := by
  rw [Hub.commandThen, Hub.lensCommand_of_accepts accepts]

end

/-! ## What each request does to its axis -/

section
variable {h : Hub} {p : Port} {x : AxisId}

/-- The deadline of a travel, from the number of its steps (R87). -/
theorem deadlineAfter_travelMs (now : HubTime) (steps rate : Nat) :
    deadlineAfter now (travelMs steps rate) =
      now + BitVec.ofNat 32 (Nat.min ((steps * 1000 + rate - 1) / rate + 200) 2000000 * 1000) := by
  simp only [deadlineAfter, after, travelMs, ceilDiv]

/-- LENS_HOME after its checks (R89). -/
theorem Hub.homeAxis_of_free (established : (h.lk p).established = true) (present : (h.ax p x).present = true)
    (free : (h.ax p x).motion = .idle ∨ (h.ax p x).motion = .moving) :
    h.homeAxis p x = h.commandThen p (.lensHome x) fun k =>
      let k' := k.modAxis p x fun a => a.home h.time
      (k', okWith (motionCode .homing ++ w32 (k'.ax p x).deadline)) := by
  have free : ¬ ((h.ax p x).motion = .homing ∨ (h.ax p x).motion = .stopping) := by
    rcases free with is | is <;> simp [is]
  simp only [Hub.homeAxis, established, present, if_neg free, Bool.not_true, Bool.false_eq_true, if_false]
  rfl

/-- An accepted LENS_STOP runs for 200 ms (R92). -/
theorem Axis.stop_eq (a : Axis) (now : HubTime) :
    a.stop now =
      { a with
        pending := a.pending + 1, startTime := now, fromHoming := decide (a.motion = .homing)
        motion := .stopping, deadline := now + 200000#32 } := rfl

/-- LENS_STOP of an axis in motion (R92). -/
theorem Hub.stopAxis_of_motion (present : (h.ax p x).present = true)
    (motion : (h.ax p x).motion = .moving ∨ (h.ax p x).motion = .homing) :
    h.stopAxis p x = h.commandThen p (.lensStop x) fun k =>
      (k.modAxis p x fun a => a.stop h.time, okWith (motionCode .stopping)) := by
  have runs : ¬ ((h.ax p x).motion = .idle ∨ (h.ax p x).motion = .stopping) := by
    rcases motion with is | is <;> simp [is]
  simp only [Hub.stopAxis, present, if_neg runs, Bool.not_true, Bool.false_eq_true, if_false]
  rfl

/-- The status of a move that is carried out: CLAMPED where its target lies beyond the axis's max (R90). -/
def moveStatus (a : Axis) (wanted : Nat) : Status := if a.max < wanted then .clamped else .ok

theorem carriedOut_moveStatus (a : Axis) (wanted : Nat) : carriedOut (moveStatus a wanted) = true := by
  unfold moveStatus
  split <;> rfl

/-- The reply of a move that is carried out: the motion, the target and the deadline held. -/
def moveReply (status : Status) (a : Axis) : Reply :=
  { status := status, results := motionCode a.motion ++ u16 a.target ++ w32 a.deadline }

/-- The axis stands at its goal or is on its way there. -/
def Axis.Bound (a : Axis) (goal : Nat) : Prop :=
  a.motion = .idle ∧ a.position = some goal ∨ a.motion = .moving ∧ a.target = goal

section
variable {wanted : Nat}

theorem Hub.moveAxis_of_down (down : (h.lk p).established = false) : h.moveAxis p x wanted = (h, .linkDown) := by
  simp [Hub.moveAxis, down]

variable (established : (h.lk p).established = true)
include established

theorem Hub.moveAxis_of_absent (absent : (h.ax p x).present = false) : h.moveAxis p x wanted = (h, .noTable) := by
  simp [Hub.moveAxis, established, absent]

variable (present : (h.ax p x).present = true)
include present

theorem Hub.moveAxis_of_blocked (blocked : (h.ax p x).Blocked) : h.moveAxis p x wanted = (h, .noPosition) := by
  rcases blocked with homing | ⟨idle, unknown⟩
  · simp [Hub.moveAxis, established, present, homing]
  · simp [Hub.moveAxis, established, present, idle, unknown]

theorem Hub.moveAxis_of_stopping (stopping : (h.ax p x).motion = .stopping) : h.moveAxis p x wanted = (h, .busy) := by
  simp [Hub.moveAxis, established, present, stopping]

theorem Hub.moveAxis_of_bound (bound : (h.ax p x).Bound (Nat.min wanted (h.ax p x).max)) :
    h.moveAxis p x wanted = (h, moveStatus (h.ax p x) wanted) := by
  rcases bound with ⟨idle, there⟩ | ⟨moving, there⟩
  · simp [Hub.moveAxis, established, present, idle, there, moveStatus]
  · simp [Hub.moveAxis, established, present, moving, there, moveStatus]

theorem Hub.moveAxis_of_idle {start : Nat} (idle : (h.ax p x).motion = .idle) (known : (h.ax p x).position = some start)
    (new : start ≠ Nat.min wanted (h.ax p x).max) :
    h.moveAxis p x wanted = h.sendMove p x (Nat.min wanted (h.ax p x).max) (moveStatus (h.ax p x) wanted)
      fun a => a.moveFrom h.time start (Nat.min wanted (h.ax p x).max) := by
  simp only [Hub.moveAxis, established, present, idle, known, if_neg new.symm, Bool.not_true, Bool.false_eq_true, if_false]
  rfl

theorem Hub.moveAxis_of_moving (moving : (h.ax p x).motion = .moving)
    (new : (h.ax p x).target ≠ Nat.min wanted (h.ax p x).max) :
    h.moveAxis p x wanted = h.sendMove p x (Nat.min wanted (h.ax p x).max) (moveStatus (h.ax p x) wanted)
      fun a => a.retarget h.time (Nat.min wanted (h.ax p x).max) := by
  simp only [Hub.moveAxis, established, present, moving, if_neg new.symm, Bool.not_true, Bool.false_eq_true, if_false]
  rfl

/-- A move to a new goal comes down to one lens command. -/
theorem Hub.moveAxis_of_new
    (new : (h.ax p x).motion = .idle ∧ (h.ax p x).position ≠ none ∧
        (h.ax p x).position ≠ some (Nat.min wanted (h.ax p x).max) ∨
      (h.ax p x).motion = .moving ∧ (h.ax p x).target ≠ Nat.min wanted (h.ax p x).max) :
    ∃ f, h.moveAxis p x wanted = h.sendMove p x (Nat.min wanted (h.ax p x).max) (moveStatus (h.ax p x) wanted) f := by
  rcases new with ⟨idle, known, new⟩ | ⟨moving, new⟩
  · obtain ⟨start, known⟩ := Option.ne_none_iff_exists'.mp known
    rw [known] at new
    exact ⟨_, Hub.moveAxis_of_idle established present idle known (mt (congrArg some) new)⟩
  · exact ⟨_, Hub.moveAxis_of_moving established present moving new⟩

end

section
variable {n target : Nat} (reads : readAxis n = some x)
include reads

theorem Hub.lensMove_of_refused {e : Status} (is : h.moveAxis p x target = (h, e)) (no : carriedOut e = false) :
    h.lensMove p n target = (h, refuse e) := by
  simp [Hub.lensMove, reads, is, no, refuse]

theorem Hub.lensMove_of_bound (is : h.moveAxis p x target = (h, moveStatus (h.ax p x) target)) :
    h.lensMove p n target = (h, moveReply (moveStatus (h.ax p x) target) (h.ax p x)) := by
  simp [Hub.lensMove, reads, is, carriedOut_moveStatus, moveReply]

/-- A move whose target is new comes down to one lens command (R90, R91). -/
theorem Hub.lensMove_of_sent {goal : Nat} {f : Axis → Axis}
    (is : h.moveAxis p x target = h.sendMove p x goal (moveStatus (h.ax p x) target) f) :
    h.lensMove p n target = h.commandThen p (.lensMove x goal) fun k =>
      (k.modAxis p x f, moveReply (moveStatus (h.ax p x) target) ((k.modAxis p x f).ax p x)) := by
  simp only [Hub.lensMove, reads, is, Hub.sendMove, Hub.commandThen]
  cases sent : (h.lensCommand p (.lensMove x goal)).2 with
  | some e => simp [Hub.lensCommand_not_carriedOut sent, refuse]
  | none => simp [carriedOut_moveStatus, moveReply]

end

/-- The accepted command's axis carries on from the axis that the request found. -/
theorem Hub.lensSent_moved {c : Command} {status : Status} (f : Axis → Axis) :
    ((h.lensSent p c).modAxis p x f, moveReply status (((h.lensSent p c).modAxis p x f).ax p x)) =
      ((h.lensSent p c).modAxis p x fun _ => f (h.ax p x), moveReply status (f (h.ax p x))) := by
  rw [Hub.ax_modAxis_same, Hub.lensSent_ax, Hub.modAxis_congr (g := fun _ => f (h.ax p x)) (by rw [Hub.lensSent_ax])]

end

/-! ## The requests' answers -/

theorem readAxis_of_le {n : Nat} (beyond : 3 ≤ n) : readAxis n = none := List.getElem?_eq_none (by simpa using beyond)

/-- The answer of a request whose queue refuses its command with no axis in motion. -/
def State.GivesBack (s : State) (i : Instr) (pkt : Packet) (p : Port) : Prop :=
  s.Answers i pkt (s.hub.popRequest.allowanceBack p) (refuse .queueFull) ∧
    ((s.hub.pw p).allowanceHeld = false → (∀ f, (s.hub.tg p).hand ≠ .deferred f) → s.Refuses i pkt .queueFull)

section
variable {i : Instr} {s : State} {pkt : Packet} {p : Port} {code : ReqCode} {r : ReqHeader} {ps : List Byte}
  {owner : Port → Hub → Hub × Reply} {c : Command} {next : Hub → Hub × Reply}
  (parts : requestPartsOf i = some (code, r, ps)) (means : exec i s = s.take code r ps (forPort owner))
  (asked : s.asksPort i pkt p = true) (left : owner p s.hub.popRequest = s.hub.popRequest.commandThen p c next)
include parts means asked left

theorem State.refuses_noBudget (no : s.hub.NoBudget p) : s.Refuses i pkt .noBudget :=
  State.answers_forPort parts means asked (left.trans (Hub.commandThen_of_refused (Hub.lensCommand_of_noBudget no)))

theorem State.refuses_noRoom (no : s.hub.NoRoom p) : s.Refuses i pkt .queueFull :=
  State.answers_forPort parts means asked (left.trans (Hub.commandThen_of_refused (Hub.lensCommand_of_noRoom no)))

theorem State.givesBack (back : s.hub.GivesBack p) : s.GivesBack i pkt p := by
  have back : s.hub.popRequest.GivesBack p := ⟨back.established, back.still, back.on, back.fits, back.full⟩
  have answers := State.answers_forPort parts means asked
    (left.trans (Hub.commandThen_of_refused (Hub.lensCommand_of_givesBack back)))
  refine ⟨answers, fun held undeferred => ?_⟩
  rwa [Hub.allowanceBack_of_not_held (h := s.hub.popRequest) held undeferred] at answers

theorem State.answers_of_accepts (accepts : s.hub.LensAccepts p) {h : Hub} {reply : Reply}
    (does : next (s.hub.popRequest.lensSent p c) = (h, reply)) : s.Answers i pkt h reply :=
  State.answers_forPort parts means asked ((left.trans (Hub.commandThen_of_accepts accepts)).trans does)

end

/-- Settles O48: each outcome is the owner's answer on the hub whose head request is taken; what the queue does with a
command is the same for the three requests. -/
theorem lensCommandsMove : Obligations.LensCommandsMove := by
  intro s r pkt p n target x
  refine ⟨fun beyond => ?range, fun reads => ⟨fun asked => ?home, fun asked => ?move, fun asked => ?stop⟩⟩
  case range =>
    have unread := readAxis_of_le beyond
    refine ⟨fun asked => State.answers_forPort rfl rfl asked ?_, fun asked => State.answers_forPort rfl rfl asked ?_,
      fun asked => State.answers_forPort rfl rfl asked ?_⟩
    · simp only [Hub.lensHome, unread]
    · simp only [Hub.lensMove, unread]
    · simp only [Hub.lensStop, unread]
  case home =>
    have owner : s.hub.popRequest.lensHome p n = s.hub.popRequest.homeAxis p x := by simp only [Hub.lensHome, reads]
    refine ⟨fun down => ?down, fun established absent => ?absent, fun established present busy => ?busy,
      fun present free => ⟨fun no => ?noBudget, fun no => ?noRoom, fun established still on fits full => ?full,
        fun accepts => ?accepts⟩⟩
    case down => exact State.answers_forPort rfl rfl asked (by simp [owner, Hub.homeAxis, down])
    case absent => exact State.answers_forPort rfl rfl asked (by simp [owner, Hub.homeAxis, established, absent])
    case busy => exact State.answers_forPort rfl rfl asked (by simp [owner, Hub.homeAxis, established, present, busy])
    all_goals have sends (up) := owner.trans (Hub.homeAxis_of_free (h := s.hub.popRequest) up present free)
    case noBudget => exact State.refuses_noBudget rfl rfl asked (sends no.1) no
    case noRoom => exact State.refuses_noRoom rfl rfl asked (sends no.1) no
    case full => exact State.givesBack rfl rfl asked (sends established) ⟨established, still, on, fits, full⟩
    case accepts =>
      refine State.answers_of_accepts rfl rfl asked (sends accepts.1) accepts (Prod.ext (Hub.modAxis_congr ?_) ?_) <;>
        simp only [Hub.ax_modAxis_same, Hub.lensSent_ax, Axis.home, deadlineAfter_travelMs, Hub.popRequest_time,
          Hub.popRequest_ax]
  case move =>
    have owner {e} (is : s.hub.popRequest.moveAxis p x target = (s.hub.popRequest, e)) (no : carriedOut e = false) :
        s.Refuses (.lensMove r n target) pkt e := State.answers_forPort rfl rfl asked (Hub.lensMove_of_refused reads is no)
    refine ⟨fun down => ?down, fun established absent => ?absent, fun established present =>
      ⟨fun blocked => ?blocked, fun stopping => ?stopping, fun bound => ?bound, fun new => ?new,
        fun start idle known new accepts => ?idle, fun moving new accepts => ?moving⟩⟩
    case down => exact owner (Hub.moveAxis_of_down down) rfl
    case absent => exact owner (Hub.moveAxis_of_absent established absent) rfl
    case blocked => exact owner (Hub.moveAxis_of_blocked established present blocked) rfl
    case stopping => exact owner (Hub.moveAxis_of_stopping established present stopping) rfl
    case bound =>
      exact State.answers_forPort rfl rfl asked
        (Hub.lensMove_of_bound (h := s.hub.popRequest) reads (Hub.moveAxis_of_bound established present bound))
    case new =>
      obtain ⟨f, sent⟩ := Hub.moveAxis_of_new (h := s.hub.popRequest) established present new
      have sends := Hub.lensMove_of_sent reads sent
      exact ⟨State.refuses_noBudget rfl rfl asked sends, State.refuses_noRoom rfl rfl asked sends,
        fun established still on fits full => State.givesBack rfl rfl asked sends ⟨established, still, on, fits, full⟩⟩
    case idle =>
      have sends := Hub.lensMove_of_sent reads
        (Hub.moveAxis_of_idle (h := s.hub.popRequest) (wanted := target) established present idle known new)
      exact State.answers_of_accepts rfl rfl asked sends accepts (Hub.lensSent_moved _)
    case moving =>
      have sends := Hub.lensMove_of_sent reads
        (Hub.moveAxis_of_moving (h := s.hub.popRequest) (wanted := target) established present moving new)
      exact State.answers_of_accepts rfl rfl asked sends accepts (Hub.lensSent_moved _)
  case stop =>
    have owner : s.hub.popRequest.lensStop p n = s.hub.popRequest.stopAxis p x := by simp only [Hub.lensStop, reads]
    refine ⟨fun absent => ?absent, fun present rests => ?rests, fun present motion =>
      ⟨fun no => ?noRoom, fun accepts => ?accepts⟩⟩
    case absent => exact State.answers_forPort rfl rfl asked (by simp [owner, Hub.stopAxis, absent])
    case rests => exact State.answers_forPort rfl rfl asked (by simp [owner, Hub.stopAxis, present, rests])
    all_goals have sends := owner.trans (Hub.stopAxis_of_motion (h := s.hub.popRequest) present motion)
    case noRoom => exact State.refuses_noRoom rfl rfl asked sends no
    case accepts =>
      exact State.answers_of_accepts rfl rfl asked sends accepts (by simp only [Axis.stop_eq, Hub.popRequest_time])

end Sys2Proof.Machine

/-! # How a motion ends: reports and deadlines (R94 to R96) -/

namespace Sys2Proof.Machine

/-! ## The row of Table 5-3 that a report meets (R94) -/

/-- The axis is HOMING, or STOPPING from it. -/
def Axis.FromHoming (a : Axis) : Prop := a.motion = .homing ∨ a.motion = .stopping ∧ a.fromHoming = true

/-- The axis is MOVING, or STOPPING from it. -/
def Axis.FromMoving (a : Axis) : Prop := a.motion = .moving ∨ a.motion = .stopping ∧ a.fromHoming = false

/-- A DONE report ends the axis's motion where it stands: a move that arrives within its tolerance, or its stop. -/
def Axis.EndsWhere (a : Axis) (position : Nat) : Prop :=
  a.motion = .moving ∧ distance position a.target ≤ a.tolerance ∨ a.motion = .stopping ∧ a.fromHoming = false

/-- A reported position, UNKNOWN above the axis's max. -/
def Axis.known (a : Axis) (position : Nat) : Option Nat := if position ≤ a.max then some position else none

section
variable {a : Axis} {position : Nat}

theorem Axis.reportRow_home (homing : a.FromHoming) : a.reportRow position 2 = some (some 0, fLensDone, .finished) := by
  rcases homing with is | ⟨is, from_⟩
  · simp [Axis.reportRow, is]
  · simp [Axis.reportRow, is, from_]

theorem Axis.reportRow_home_of_moving (moving : a.FromMoving) : a.reportRow position 2 = none := by
  rcases moving with is | ⟨is, from_⟩
  · simp [Axis.reportRow, is]
  · simp [Axis.reportRow, is, from_]

theorem Axis.reportRow_stall_of_homing (homing : a.FromHoming) :
    a.reportRow position 1 = some (none, fLensFault, .stall) := by
  rcases homing with is | ⟨is, from_⟩
  · simp [Axis.reportRow, is]
  · simp [Axis.reportRow, is, from_]

theorem Axis.reportRow_stall_of_moving (moving : a.FromMoving) :
    a.reportRow position 1 = some (a.known position, fLensFault, .stall) := by
  rcases moving with is | ⟨is, from_⟩
  · simp [Axis.reportRow, is, Axis.known]
  · simp [Axis.reportRow, is, from_, Axis.known]

theorem Axis.reportRow_done_of_homing (homing : a.motion = .homing) : a.reportRow position 0 = none := by
  simp [Axis.reportRow, homing]

theorem Axis.reportRow_done_of_homingStopped (stopping : a.motion = .stopping) (homed : a.fromHoming = true) :
    a.reportRow position 0 = some (none, fLensDone, .finished) := by
  simp [Axis.reportRow, stopping, homed]

theorem Axis.reportRow_done_of_far (moving : a.motion = .moving) (far : a.tolerance < distance position a.target) :
    a.reportRow position 0 = some (a.known position, fLensFault, .slip) := by
  simp [Axis.reportRow, moving, Nat.not_le.mpr far, Axis.known]

theorem Axis.reportRow_done_of_travel (ends : a.EndsWhere position) (within : position ≤ a.max) :
    a.reportRow position 0 = some (some position, fLensDone, .finished) := by
  rcases ends with ⟨is, near⟩ | ⟨is, moved⟩
  · simp [Axis.reportRow, is, near, within]
  · simp [Axis.reportRow, is, moved, within]

theorem Axis.reportRow_done_of_beyond (ends : a.EndsWhere position) (beyond : a.max < position) :
    a.reportRow position 0 = some (none, fLensFault, .slip) := by
  rcases ends with ⟨is, near⟩ | ⟨is, moved⟩
  · simp [Axis.reportRow, is, near, Nat.not_le.mpr beyond]
  · simp [Axis.reportRow, is, moved, Nat.not_le.mpr beyond]

theorem Axis.moving_iff : a.moving = true ↔ a.motion ≠ .idle := by simp [Axis.moving]

end

/-! ## What a report does (R94, R95) -/

section
variable {h : Hub} {p : Port} {x : AxisId} {n position kind : Nat}

/-- The hub after an axis came to rest with an outcome. -/
def Hub.ended (h : Hub) (p : Port) (x : AxisId) (pos : Option Nat) (flag : BitVec 16) (outcome : LensOutcome) : Hub :=
  ((h.modAxis p x fun a => { a with position := pos, motion := .idle, outcome := outcome }).flag p flag).reportIdle p

theorem Hub.lensReport_of_unread (unread : readAxis n = none) : h.lensReport p n position kind = h.ignoreReport p false := by
  rw [Hub.lensReport, unread]

section
variable (reads : readAxis n = some x)
include reads

theorem Hub.lensReport_of_kind (unknown : 2 < kind) : h.lensReport p n position kind = h.ignoreReport p false := by
  simp [Hub.lensReport, reads, unknown]

theorem Hub.lensReport_of_absent (absent : (h.ax p x).present = false) :
    h.lensReport p n position kind = h.ignoreReport p false := by
  simp [Hub.lensReport, reads, absent]

variable (present : (h.ax p x).present = true)
include present

theorem Hub.lensReport_of_rest (named : kind ≤ 2) (rest : (h.ax p x).motion = .idle) :
    h.lensReport p n position kind = h.ignoreReport p true := by
  simp [Hub.lensReport, reads, Nat.not_lt.mpr named, present, Axis.moving, rest]

variable (motion : (h.ax p x).motion ≠ .idle)
include motion

theorem Hub.lensReport_of_pending (pending : 0 < (h.ax p x).pending) :
    h.lensReport p n position kind = h.ignoreReport p false := by
  simp [Hub.lensReport, reads, present, Axis.moving, motion, pending]

theorem Hub.lensReport_of_mismatch (answered : (h.ax p x).pending = 0) (mismatch : (h.ax p x).reportRow position kind = none) :
    h.lensReport p n position kind = h.ignoreReport p false := by
  simp [Hub.lensReport, reads, present, Axis.moving, motion, answered, mismatch]

theorem Hub.lensReport_of_row {pos : Option Nat} {flag : BitVec 16} {outcome : LensOutcome} (named : kind ≤ 2)
    (answered : (h.ax p x).pending = 0) (row : (h.ax p x).reportRow position kind = some (pos, flag, outcome)) :
    h.lensReport p n position kind = h.ended p x pos flag outcome := by
  simp [Hub.lensReport, reads, Nat.not_lt.mpr named, present, Axis.moving, motion, answered, row, Hub.ended]

end

/-! ## The deadline of an axis (R96) -/

theorem Hub.axisDue_iff :
    h.axisDue p x = true ↔
      (h.ax p x).motion ≠ .idle ∧
        elapsed (h.ax p x).deadline (h.ax p x).startTime ≤ elapsed h.time (h.ax p x).startTime := by
  simp only [Hub.axisDue, Bool.and_eq_true, Axis.moving_iff, reachedFrom, passed, decide_eq_true_eq]

/-! ## The last axis at rest (R86, R116) -/

theorem Hub.allowanceBack_power : (h.allowanceBack p).power = vmod h.power p fun q => { q with allowanceHeld := false } := by
  simp [Hub.allowanceBack, Hub.modPower]

theorem Hub.allowanceBack_of_not_deferred (undeferred : ∀ f, (h.tg p).hand ≠ .deferred f) :
    h.allowanceBack p = h.modPower p fun q => { q with allowanceHeld := false } :=
  Hub.releaseDeferred_of_not_deferred undeferred

theorem Hub.allowanceBack_of_deferred {fired : FiredAt} (deferred : (h.tg p).hand = .deferred fired)
    (established : (h.lk p).established = true) :
    h.allowanceBack p = (h.modPower p fun q => { q with allowanceHeld := false }).sendTrigger p fired false := by
  simp [Hub.allowanceBack, Hub.releaseDeferred, deferred, established]

/-- A trigger sent takes the port's next id and is outstanding until its timeout (R115). -/
theorem Hub.sendTrigger_tg (fired : FiredAt) (lensMoving : Bool) :
    (h.sendTrigger p fired lensMoving).tg p =
      { h.tg p with
        issued := (h.tg p).issued + 1, nextId := if (h.tg p).nextId = 255 then 1 else (h.tg p).nextId + 1
        hand := .outstanding fired (h.tg p).nextId lensMoving h.time
          (h.time + BitVec.ofNat 32 ((h.tg p).timeout * 1000)) } := by
  simp [Hub.sendTrigger, nextTriggerId, after]

/-- Its message is offered to the downstream channel (R31). -/
theorem Hub.sendTrigger_lk (fired : FiredAt) (lensMoving : Bool) :
    (h.sendTrigger p fired lensMoving).lk p = LinkCtl.pump { h.lk p with pendingTrigger := some (h.tg p).nextId } := by
  simp [Hub.sendTrigger, LinkCtl.offerTrigger]

end

/-- A report taken while the link is established does what the Lens Controller makes of it. -/
theorem State.does_lensReport {s : State} {p : Port} {n position kind : Nat} {h : Hub}
    (established : (s.hub.lk p).established = true) (left : s.hub.lensReport p n position kind = h) :
    s.Does (.lensReport p n position kind) h := by
  subst left
  exact State.does_of_when (f := fun h => h.lensReport p n position kind) rfl established

/-- Settles O49: a report or a deadline that counts is the event's own effect, and every other leaves the state or adds to
one counter. -/
theorem lensMotionsEnd : Obligations.LensMotionsEnd := by
  intro s p n position kind x
  refine ⟨fun reads established present =>
      ⟨fun motion answered => ?rows, fun motion pending => ?pending, fun unknown => ?unknown, fun rest named => ?late⟩,
    fun established stray => ?stray, fun down => ?down, fun motion reached => ?due, fun early => ?early,
    fun h => ⟨fun motion => ?moves, fun still =>
      ⟨?power, fun undeferred => ?undeferred, fun f deferred up => ?deferred⟩⟩⟩
  case rows =>
    have done {kind pos flag outcome} (named : kind ≤ 2)
        (row : (s.hub.ax p x).reportRow position kind = some (pos, flag, outcome)) :
        s.Does (.lensReport p n position kind) (s.hub.ended p x pos flag outcome) :=
      State.does_lensReport established (Hub.lensReport_of_row reads present motion named answered row)
    have ignored {kind} (mismatch : (s.hub.ax p x).reportRow position kind = none) :
        s.Does (.lensReport p n position kind) (s.hub.ignoreReport p false) :=
      State.does_lensReport established (Hub.lensReport_of_mismatch reads present motion answered mismatch)
    refine ⟨?_, ?_, ?_, ?_, ?_, ?_, ?_, ?_⟩ <;> rintro rfl
    · exact fun homing => done (by decide) (Axis.reportRow_home homing)
    · exact fun moving => ignored (Axis.reportRow_home_of_moving moving)
    · exact fun homing => done (by decide) (Axis.reportRow_stall_of_homing homing)
    · exact fun moving => done (by decide) (Axis.reportRow_stall_of_moving moving)
    · exact fun homing => ignored (Axis.reportRow_done_of_homing homing)
    · exact fun stopping homed => done (by decide) (Axis.reportRow_done_of_homingStopped stopping homed)
    · exact fun moving far => done (by decide) (Axis.reportRow_done_of_far moving far)
    · exact fun ends => ⟨fun within => done (by decide) (Axis.reportRow_done_of_travel ends within),
        fun beyond => done (by decide) (Axis.reportRow_done_of_beyond ends beyond)⟩
  case pending => exact State.does_lensReport established (Hub.lensReport_of_pending reads present motion pending)
  case unknown => exact State.does_lensReport established (Hub.lensReport_of_kind reads unknown)
  case late => exact State.does_lensReport established (Hub.lensReport_of_rest reads present named rest)
  case stray =>
    rcases stray with unread | ⟨reads, absent⟩
    · exact State.does_lensReport established (Hub.lensReport_of_unread unread)
    · exact State.does_lensReport established (Hub.lensReport_of_absent reads absent)
  case down => exact State.next_of_not_when (f := fun h => h.lensReport p n position kind) rfl down
  case due => exact State.does_of_when (f := fun h => h.axisTimeout p x) rfl (Hub.axisDue_iff.mpr ⟨motion, reached⟩)
  case early =>
    refine State.next_of_not_when (f := fun h => h.axisTimeout p x) rfl (Bool.eq_false_iff.mpr fun due => ?_)
    obtain ⟨motion, reached⟩ := Hub.axisDue_iff.mp due
    rcases early with rest | early
    · exact motion rest
    · exact absurd reached (Nat.not_le.mpr early)
  case moves => exact Hub.reportIdle_of_motion motion
  all_goals rw [Hub.reportIdle_of_still still]
  case power => exact Hub.allowanceBack_power
  case undeferred =>
    rw [Hub.allowanceBack_of_not_deferred undeferred]
    exact ⟨rfl, rfl⟩
  case deferred =>
    rw [Hub.allowanceBack_of_deferred deferred up]
    exact ⟨Hub.sendTrigger_tg f false, Hub.sendTrigger_lk f false⟩

end Sys2Proof.Machine

/-! # A trigger fired on a port (R114, R115) -/

namespace Sys2Proof.Machine

theorem Hub.modTrig_modTrig (h : Hub) (p : Port) (f g : PortTrigger → PortTrigger) :
    (h.modTrig p f).modTrig p g = h.modTrig p fun t => g (f t) := by
  simp only [Hub.modTrig, vmod_vmod]

/-- What becomes of a trigger that fires on a port (R114). -/
def Hub.firing (h : Hub) (p : Port) : FireOutcome :=
  if (h.lk p).established = false then .lostLink
  else if (h.tg p).hand ≠ .none then .lostOver
  else if (h.ln p).anyMotion = true ∧ (h.tg p).policy = .defer then .deferred
  else .sent (h.tg p).nextId

/-- The trigger record of a trigger that fires now (Table 6-1). -/
def Hub.firedNow (h : Hub) : FiredAt := { encoder := h.encoder.counter, time := h.time }

section
variable {h : Hub} {p : Port}

theorem Hub.fire_of_down (down : (h.lk p).established = false) :
    h.fire p =
      ((h.modTrig p fun t => { t with requested := t.requested + 1, lostLink := t.lostLink + 1 }).flag p fTrigLost,
        .lostLink) := by
  simp [Hub.fire, down, Hub.modTrig_modTrig]

section
variable (up : (h.lk p).established = true)
include up

theorem Hub.fire_of_held (held : (h.tg p).hand ≠ .none) :
    h.fire p =
      ((h.modTrig p fun t => { t with requested := t.requested + 1, lostOver := t.lostOver + 1 }).flag p fTrigLost,
        .lostOver) := by
  simp [Hub.fire, up, held, Hub.modTrig_modTrig]

variable (empty : (h.tg p).hand = .none)
include empty

theorem Hub.fire_of_deferred (motion : (h.ln p).anyMotion = true) (policy : (h.tg p).policy = .defer) :
    h.fire p =
      (h.modTrig p fun t => { t with requested := t.requested + 1, hand := .deferred h.firedNow }, .deferred) := by
  simp [Hub.fire, up, empty, motion, policy, Hub.modTrig_modTrig, Hub.firedNow]

theorem Hub.fire_of_sent (sends : ¬ ((h.ln p).anyMotion = true ∧ (h.tg p).policy = .defer)) :
    h.fire p =
      ((h.modTrig p fun t => { t with requested := t.requested + 1 }).sendTrigger p h.firedNow (h.ln p).anyMotion,
        .sent (h.tg p).nextId) := by
  have flags : ¬ ((h.ln p).anyMotion && decide ((h.tg p).policy = .defer)) = true := by simpa using sends
  simp only [Hub.fire, Hub.modTrig_lk, up, Hub.modTrig_tg_same, empty, flags]
  rfl

end

theorem Hub.fire_snd : (h.fire p).2 = h.firing p := by
  unfold Hub.firing
  split
  case isTrue down => rw [Hub.fire_of_down down]
  case isFalse up =>
    replace up : (h.lk p).established = true := by simpa using up
    split
    case isTrue held => rw [Hub.fire_of_held up held]
    case isFalse empty =>
      replace empty := not_not.mp empty
      split
      case isTrue defers => rw [Hub.fire_of_deferred up empty defers.1 defers.2]
      case isFalse sends => rw [Hub.fire_of_sent up empty sends]

/-- A flag leaves the triggers and the links. -/
theorem Hub.flag_tg_lk (k : Hub) (f : BitVec 16) : (k.flag p f).tg p = k.tg p ∧ (k.flag p f).lk p = k.lk p := by
  simp [Hub.tg, Hub.lk]

/-- A trigger fired has one of the four outcomes of R114, with the message or the flag that it brings. -/
theorem Hub.fire_firedOn : h.FiredOn (h.fire p).1 p := by
  refine ⟨fun down => ?lostLink, fun up held => ?lostOver, fun up empty motion policy => ?deferred, fun up empty sends => ?sent⟩
  case lostLink =>
    rw [Hub.fire_of_down down]
    simp only [Hub.flag_tg_lk, Hub.modTrig_tg_same, Hub.modTrig_lk, Hub.flag_has, and_self]
  case lostOver =>
    rw [Hub.fire_of_held up held]
    simp only [Hub.flag_tg_lk, Hub.modTrig_tg_same, Hub.modTrig_lk, Hub.flag_has, and_self]
  case deferred =>
    rw [Hub.fire_of_deferred up empty motion policy]
    simp only [Hub.modTrig_tg_same, Hub.modTrig_lk, Hub.firedNow, and_self]
  case sent =>
    have flags : ¬ ((h.ln p).anyMotion = true ∧ (h.tg p).policy = .defer) := by
      rintro ⟨motion, defers⟩
      simp [motion, defers] at sends
    rw [Hub.fire_of_sent up empty flags]
    refine ⟨(Hub.sendTrigger_tg _ _).trans ?_, (Hub.sendTrigger_lk _ _).trans ?_⟩
    · simp only [Hub.modTrig_tg_same, Hub.modTrig_time, Hub.firedNow]
    · simp only [Hub.modTrig_tg_same, Hub.modTrig_lk]

end

/-- What a firing makes of the port's trigger items. -/
theorem Hub.FiredOn.tg_cases {h h' : Hub} {p : Port} (f : h.FiredOn h' p) :
    h'.tg p = { h.tg p with requested := (h.tg p).requested + 1, lostLink := (h.tg p).lostLink + 1 } ∨
      h'.tg p = { h.tg p with requested := (h.tg p).requested + 1, lostOver := (h.tg p).lostOver + 1 } ∨
      ((h.tg p).hand = .none ∧
        ∃ fired, h'.tg p = { h.tg p with requested := (h.tg p).requested + 1, hand := .deferred fired }) ∨
      ((h.tg p).hand = .none ∧ ∃ next fired id moving sent deadline,
        h'.tg p = { h.tg p with
          requested := (h.tg p).requested + 1, issued := (h.tg p).issued + 1, nextId := next
          hand := .outstanding fired id moving sent deadline }) := by
  obtain ⟨lostLink, lostOver, deferred, sent⟩ := f
  cases up : (h.lk p).established with
  | false => exact .inl (lostLink up).1
  | true =>
    by_cases empty : (h.tg p).hand = .none
    · by_cases defers : (h.ln p).anyMotion = true ∧ (h.tg p).policy = .defer
      · exact .inr (.inr (.inl ⟨empty, _, (deferred up empty defers.1 defers.2).1⟩))
      · have sends : (h.ln p).anyMotion = false ∨ (h.tg p).policy = .flag := by
          cases policy : (h.tg p).policy with
          | flag => exact .inr rfl
          | defer => exact .inl (by simpa [policy] using defers)
        exact .inr (.inr (.inr ⟨empty, _, _, _, _, _, _, (sent up empty sends).1⟩))
    · exact .inr (.inl (lostOver up empty).1)

/-- A firing reaches one port (R114). -/
theorem Hub.fire_tg_ne (h : Hub) {p q : Port} (e : q ≠ p) : (h.fire p).1.tg q = h.tg q := (h.fire_other p e).2

end Sys2Proof.Machine

/-! # The trigger counters of a port in balance (R120) -/

namespace Sys2Proof.Machine

/-! ## The lives of a port's triggers -/

@[simp] theorem Hand.outstandingOne_none : Hand.none.outstandingOne = 0 := rfl
@[simp] theorem Hand.deferredOne_none : Hand.none.deferredOne = 0 := rfl
@[simp] theorem Hand.outstandingOne_deferred (fired : FiredAt) : (Hand.deferred fired).outstandingOne = 0 := rfl
@[simp] theorem Hand.deferredOne_deferred (fired : FiredAt) : (Hand.deferred fired).deferredOne = 1 := rfl

section
variable (fired : FiredAt) (id : BitVec 8) (moving : Bool) (sent deadline : HubTime)

@[simp] theorem Hand.outstandingOne_outstanding : (Hand.outstanding fired id moving sent deadline).outstandingOne = 1 := rfl
@[simp] theorem Hand.deferredOne_outstanding : (Hand.outstanding fired id moving sent deadline).deferredOne = 0 := rfl

end

section
variable {t : PortTrigger}

/-- Settings, last fired point and next id are no part of the balance. -/
theorem PortTrigger.Balanced.of_counts {t' : PortTrigger} (b : t.Balanced) (hand : t'.hand = t.hand)
    (counts : (t'.requested, t'.issued, t'.matched, t'.timedOut, t'.aborted, t'.lostLink, t'.lostOver) =
      (t.requested, t.issued, t.matched, t.timedOut, t.aborted, t.lostLink, t.lostOver)) : t'.Balanced := by
  simp only [Prod.mk.injEq] at counts
  simpa only [PortTrigger.Balanced, hand, counts] using b

/-- A trigger lost at its firing, to the link or to the one in hand. -/
theorem PortTrigger.Balanced.lost (b : t.Balanced) {toLink toHand : Count} (once : toLink + toHand = 1) :
    PortTrigger.Balanced
      { t with requested := t.requested + 1, lostLink := t.lostLink + toLink, lostOver := t.lostOver + toHand } := by
  obtain ⟨issued, requested⟩ := b
  refine ⟨issued, ?_⟩
  linear_combination requested - once

/-- A trigger that is deferred at its firing. -/
theorem PortTrigger.Balanced.deferred (b : t.Balanced) (empty : t.hand = .none) (fired : FiredAt) :
    PortTrigger.Balanced { t with requested := t.requested + 1, hand := .deferred fired } := by
  obtain ⟨issued, requested⟩ := b
  rw [empty] at issued requested
  refine ⟨issued, ?_⟩
  linear_combination requested + Hand.deferredOne_none - Hand.deferredOne_deferred fired

/-- A trigger that is sent, at its firing or from DEFERRED. -/
theorem PortTrigger.Balanced.sent (b : t.Balanced) (unsent : t.hand.outstandingOne = 0) {new : Count}
    (once : new + t.hand.deferredOne = 1) (next : BitVec 8) (fired : FiredAt) (id : BitVec 8) (moving : Bool)
    (sent deadline : HubTime) :
    PortTrigger.Balanced
      { t with
        requested := t.requested + new, issued := t.issued + 1, nextId := next
        hand := .outstanding fired id moving sent deadline } := by
  obtain ⟨issued, requested⟩ := b
  refine ⟨?_, ?_⟩
  · simp only [Hand.outstandingOne_outstanding]
    linear_combination issued + unsent
  · simp only [Hand.deferredOne_outstanding]
    linear_combination requested + once

/-- The trigger in hand ends: an outstanding one is matched, timed out or aborted, a deferred one lost to the link. -/
theorem PortTrigger.Balanced.ended (b : t.Balanced) {matched timedOut aborted : Count}
    (once : matched + timedOut + aborted = t.hand.outstandingOne) :
    PortTrigger.Balanced
      { t with
        hand := .none, matched := t.matched + matched, timedOut := t.timedOut + timedOut
        aborted := t.aborted + aborted, lostLink := t.lostLink + t.hand.deferredOne } := by
  obtain ⟨issued, requested⟩ := b
  refine ⟨?_, ?_⟩
  · linear_combination issued - once - Hand.outstandingOne_none
  · linear_combination requested - Hand.deferredOne_none

end

/-- Every outcome of a firing keeps the balance of its port. -/
theorem Hub.FiredOn.balanced {h h' : Hub} {p : Port} (f : h.FiredOn h' p) (b : (h.tg p).Balanced) : (h'.tg p).Balanced := by
  rcases f.tg_cases with e | e | ⟨empty, fired, e⟩ | ⟨empty, next, fired, id, moving, sent, deadline, e⟩
  · rw [e]
    simpa using b.lost (toLink := 1) (toHand := 0) (add_zero 1)
  · rw [e]
    simpa using b.lost (toLink := 0) (toHand := 1) (zero_add 1)
  · rw [e]
    exact b.deferred empty fired
  · rw [e]
    exact b.sent (by rw [empty]; rfl) (by rw [empty]; rfl) next fired id moving sent deadline

end Sys2Proof.Machine

/-! # Trigger counters in balance (R120): the operations that end triggers with the lens, the link or the power -/

namespace Sys2Proof.Machine

/-! ## What keeps the law -/

section
variable {h h' : Hub} {p : Port}

theorem Hub.TriggersBalance.of_trig (l : h.TriggersBalance) (same : h'.trig = h.trig) : h'.TriggersBalance :=
  fun p => by simpa only [Hub.tg, same] using l p

/-- Of the triggers, those of one port may change. -/
theorem Hub.TriggersBalance.of_port (l : h.TriggersBalance) (other : ∀ q, q ≠ p → h'.tg q = h.tg q)
    (own : (h'.tg p).Balanced) : h'.TriggersBalance := fun q => by
  by_cases e : q = p
  · exact e ▸ own
  · rw [other q e]
    exact l q

theorem Hub.TriggersBalance.modTrig {f : PortTrigger → PortTrigger} (l : h.TriggersBalance) (own : (f (h.tg p)).Balanced) :
    (h.modTrig p f).TriggersBalance :=
  l.of_port (fun _ e => h.modTrig_tg_ne p f e) (by simpa using own)

theorem Hub.TriggersBalance.flag (l : h.TriggersBalance) (p : Port) (f : BitVec 16) : (h.flag p f).TriggersBalance :=
  l.of_trig (by simp)

end

section
variable {h : Hub}

theorem Hub.fire_triggersBalance (p : Port) (l : h.TriggersBalance) : (h.fire p).1.TriggersBalance :=
  l.of_port (fun _ => h.fire_tg_ne) (Hub.fire_firedOn.balanced (l p))

/-- A deferred trigger is sent, or lost where the link is not established (R116). -/
theorem Hub.releaseDeferred_triggersBalance (p : Port) (l : h.TriggersBalance) : (h.releaseDeferred p).TriggersBalance := by
  unfold Hub.releaseDeferred
  split
  case h_1 fired deferred =>
    split
    · refine l.of_port (fun q e => (h.sendTrigger_other p fired false e).2) ?_
      rw [Hub.sendTrigger_tg]
      simpa using (l p).sent (new := 0) (by rw [deferred]; rfl) (by rw [deferred]; rfl) _ fired _ false _ _
    · refine Hub.TriggersBalance.flag (l.modTrig ?_) p _
      simpa [deferred] using (l p).ended (matched := 0) (timedOut := 0) (aborted := 0) (by rw [deferred]; rfl)
  case h_2 => exact l

/-- A FRAME_START that carries the id of the trigger in hand matches it (R117). -/
theorem Hub.resolveId_triggersBalance (p : Port) (id : Nat) (l : h.TriggersBalance) : (h.resolveId p id).1.TriggersBalance := by
  unfold Hub.resolveId
  split
  · exact l
  · split
    case h_1 outstanding =>
      split
      · refine l.modTrig ?_
        simpa [outstanding] using (l p).ended (matched := 1) (timedOut := 0) (aborted := 0) (by rw [outstanding]; rfl)
      · exact l
    · exact l

/-- A deadline that is reached is an outstanding trigger's (R118). -/
theorem Hub.triggerTimeout_triggersBalance {p : Port} (due : h.triggerDue p = true) (l : h.TriggersBalance) :
    (h.triggerTimeout p).TriggersBalance := by
  unfold Hub.triggerDue at due
  split at due
  case h_1 outstanding =>
    refine Hub.TriggersBalance.flag (l.modTrig ?_) p _
    simpa [outstanding] using (l p).ended (matched := 0) (timedOut := 1) (aborted := 0) (by rw [outstanding]; rfl)
  case h_2 => cases due

/-- A drop gives up the trigger in hand (R119). -/
theorem Hub.drop_triggersBalance {enter : LinkCtl → LinkCtl} (p : Port) (cause : DropCause)
    (down : ∀ x, (enter x).established = false) (l : h.TriggersBalance) : (h.drop p cause enter).TriggersBalance := by
  refine l.of_port (p := p) (fun q e => by simp [Hub.tg, e]) ?_
  rw [Hub.drop_tg _ _ _ _ down]
  simpa using (l p).ended (matched := 0) (timedOut := 0) (aborted := (h.tg p).hand.outstandingOne) (by simp)

/-! ## Reports, completions and message boundaries -/

theorem Hub.reportIdle_triggersBalance (p : Port) (l : h.TriggersBalance) : (h.reportIdle p).TriggersBalance := by
  unfold Hub.reportIdle
  split
  · exact l
  · exact Hub.releaseDeferred_triggersBalance p (l.of_trig rfl)

theorem Hub.completeLens_triggersBalance (p : Port) (x : AxisId) (how : Completion) (l : h.TriggersBalance) :
    (h.completeLens p x how).TriggersBalance := by
  unfold Hub.completeLens
  dsimp only
  split
  · exact Hub.reportIdle_triggersBalance p (l.of_trig (by simp [Hub.modAxis]))
  · exact l.of_trig rfl

theorem Hub.completeCommand_triggersBalance (p : Port) (c : Command) (how : Completion) (l : h.TriggersBalance) :
    (h.completeCommand p c how).TriggersBalance := by
  cases c with
  | attrRead | attrWrite => cases how <;> exact l.of_trig (by simp [Hub.completeCommand])
  | lensMove x | lensHome x | lensStop x => exact Hub.completeLens_triggersBalance p x how l

theorem Hub.ackTaken_triggersBalance (p : Port) (sequence : Bool) (l : h.TriggersBalance) :
    (h.ackTaken p sequence).TriggersBalance := by
  unfold Hub.ackTaken
  dsimp only
  split
  · split
    · exact (Hub.completeCommand_triggersBalance p _ _ (l.of_trig (by rfl))).of_trig rfl
    · exact l.of_trig rfl
  · exact l.of_trig rfl

theorem Hub.linkError_triggersBalance (p : Port) (l : h.TriggersBalance) : (h.linkError p).TriggersBalance :=
  l.of_trig (by simp)

theorem Hub.waitOver_triggersBalance (p : Port) (l : h.TriggersBalance) : (h.waitOver p).TriggersBalance := by
  unfold Hub.waitOver
  dsimp only
  split
  · exact l
  case h_2 c _ =>
    split
    · exact l.of_trig rfl
    · have told := Hub.completeCommand_triggersBalance p c .noAck
        (l.of_trig (h' := h.modLink p fun l => { l.finishHead with noAcks := l.noAcks + 1 }) rfl)
      exact (Hub.linkError_triggersBalance p told).of_trig rfl

theorem Hub.boundary_triggersBalance (p : Port) (l : h.TriggersBalance) : (h.boundary p).TriggersBalance := by
  unfold Hub.boundary
  dsimp only
  split
  · exact l
  · split
    · exact Hub.waitOver_triggersBalance p l
    · split
      · exact Hub.waitOver_triggersBalance p (l.of_trig rfl)
      · exact l.of_trig rfl

theorem Hub.messageSent_triggersBalance (p : Port) (l : h.TriggersBalance) : (h.messageSent p).TriggersBalance := by
  unfold Hub.messageSent
  split
  · exact Hub.boundary_triggersBalance p (l.of_trig rfl)
  · exact Hub.boundary_triggersBalance p (l.of_trig rfl)
  · exact l

theorem Hub.waitEnds_triggersBalance (p : Port) (l : h.TriggersBalance) : (h.waitEnds p).TriggersBalance :=
  Hub.boundary_triggersBalance p (l.of_trig rfl)

/-! ## Lens reports and requests -/

theorem Hub.lensReport_triggersBalance (p : Port) (axis position kind : Nat) (l : h.TriggersBalance) :
    (h.lensReport p axis position kind).TriggersBalance := by
  have ignored (late : Bool) : (h.ignoreReport p late).TriggersBalance := l.of_trig rfl
  unfold Hub.lensReport
  dsimp only
  split
  · exact ignored false
  · split
    · exact ignored false
    · split
      · exact ignored false
      · split
        · exact ignored true
        · split
          · exact ignored false
          · split
            · exact ignored false
            · exact Hub.reportIdle_triggersBalance p (l.of_trig (by simp [Hub.modAxis]))

theorem Hub.axisTimeout_triggersBalance (p : Port) (x : AxisId) (l : h.TriggersBalance) :
    (h.axisTimeout p x).TriggersBalance :=
  Hub.reportIdle_triggersBalance p (l.of_trig (by simp [Hub.modAxis]))

/-- A lens command that finds no room gives back the allowance that it took, which is a report of rest (R87). -/
theorem Hub.lensCommand_triggersBalance (p : Port) (c : Command) (l : h.TriggersBalance) :
    (h.lensCommand p c).1.TriggersBalance := by
  unfold Hub.lensCommand
  split
  · split
    · exact l.of_trig rfl
    · exact l
  · split
    · split
      · exact l.of_trig rfl
      · exact Hub.reportIdle_triggersBalance p (l.of_trig rfl)
    · exact l

theorem Hub.homeAxis_triggersBalance (p : Port) (x : AxisId) (l : h.TriggersBalance) : (h.homeAxis p x).1.TriggersBalance := by
  have sent := Hub.lensCommand_triggersBalance p (.lensHome x) l
  unfold Hub.homeAxis
  dsimp only
  split
  · exact l
  · split
    · exact l
    · split
      · exact l
      · split
        · exact sent
        · exact sent.of_trig rfl

theorem Hub.lensHome_triggersBalance (p : Port) (axis : Nat) (l : h.TriggersBalance) : (h.lensHome p axis).1.TriggersBalance := by
  unfold Hub.lensHome
  split
  · exact l
  · exact Hub.homeAxis_triggersBalance p _ l

theorem Hub.sendMove_triggersBalance {p : Port} {x : AxisId} {target : Nat} {status : Status} {f : Axis → Axis}
    (l : h.TriggersBalance) : (h.sendMove p x target status f).1.TriggersBalance := by
  have sent := Hub.lensCommand_triggersBalance p (.lensMove x target) l
  unfold Hub.sendMove
  dsimp only
  split
  · exact sent
  · exact sent.of_trig rfl

theorem Hub.moveAxis_triggersBalance (p : Port) (x : AxisId) (wanted : Nat) (l : h.TriggersBalance) :
    (h.moveAxis p x wanted).1.TriggersBalance := by
  unfold Hub.moveAxis
  dsimp only
  split
  · exact l
  · split
    · exact l
    · split
      case h_1 | h_2 | h_3 => exact l
      case h_4 | h_5 =>
        split
        · exact l
        · exact Hub.sendMove_triggersBalance l

theorem Hub.lensMove_triggersBalance (p : Port) (axis target : Nat) (l : h.TriggersBalance) :
    (h.lensMove p axis target).1.TriggersBalance := by
  unfold Hub.lensMove
  split
  · exact l
  · exact Hub.moveAxis_triggersBalance p _ target l

theorem Hub.stopAxis_triggersBalance (p : Port) (x : AxisId) (l : h.TriggersBalance) : (h.stopAxis p x).1.TriggersBalance := by
  have sent := Hub.lensCommand_triggersBalance p (.lensStop x) l
  unfold Hub.stopAxis
  dsimp only
  split
  · exact l
  · split
    · exact l
    · split
      · exact sent
      · exact sent.of_trig rfl

theorem Hub.lensStop_triggersBalance (p : Port) (axis : Nat) (l : h.TriggersBalance) : (h.lensStop p axis).1.TriggersBalance := by
  unfold Hub.lensStop
  split
  · exact l
  · exact Hub.stopAxis_triggersBalance p _ l

theorem Hub.lensFocusDistance_triggersBalance (p : Port) (d : Nat) (l : h.TriggersBalance) :
    (h.lensFocusDistance p d).1.TriggersBalance := by
  unfold Hub.lensFocusDistance
  dsimp only
  split
  · exact l
  · split
    · exact l
    · split
      · exact l
      · split
        · exact l
        · split
          · exact l
          · exact Hub.moveAxis_triggersBalance p .focus _ l

/-! ## Departures from ON, and camera power -/

theorem Hub.lensPowerLost_triggersBalance (p : Port) (l : h.TriggersBalance) : (h.lensPowerLost p).TriggersBalance := by
  unfold Hub.lensPowerLost
  dsimp only
  split
  · exact Hub.reportIdle_triggersBalance p (l.of_trig (by simp))
  · exact l.of_trig rfl

theorem Hub.leftOn_triggersBalance (p : Port) (l : h.TriggersBalance) : (h.leftOn p).TriggersBalance := by
  refine Hub.lensPowerLost_triggersBalance p ?_
  unfold Hub.linkPowerLost
  split
  · exact Hub.drop_triggersBalance p _ (fun _ => rfl) l
  · exact Hub.drop_triggersBalance p _ (fun _ => rfl) l
  · exact l.of_trig (by simp)
  · exact l

/-- A port whose power state changes, with the flags of the event; from ON, it then leaves it (R50). -/
theorem Hub.departs_triggersBalance {p : Port} (f : PortPower → PortPower) (port part : BitVec 16) (l : h.TriggersBalance) :
    (if (h.pw p).state = .on then ((h.modPower p f).raise p port part).leftOn p
      else (h.modPower p f).raise p port part).TriggersBalance := by
  have cut : ((h.modPower p f).raise p port part).TriggersBalance := l.of_trig (by simp)
  split
  · exact Hub.leftOn_triggersBalance p cut
  · exact cut

theorem Hub.turnOff_triggersBalance (p : Port) (cause : OffCause) (part : BitVec 16) (l : h.TriggersBalance) :
    (h.turnOff p cause part).TriggersBalance := Hub.departs_triggersBalance _ _ _ l

theorem Hub.isolationRise_triggersBalance (p : Port) (l : h.TriggersBalance) : (h.isolationRise p).TriggersBalance := by
  unfold Hub.isolationRise
  split
  case h_5 | h_6 => exact l
  all_goals exact Hub.turnOff_triggersBalance p _ _ l

theorem Hub.retry_triggersBalance (p : Port) (l : h.TriggersBalance) : (h.retry p).TriggersBalance := by
  unfold Hub.retry
  split
  · exact Hub.turnOff_triggersBalance p _ _ l
  · split
    · exact l.of_trig (by simp)
    · exact Hub.turnOff_triggersBalance p _ _ l

theorem Hub.cooldownOver_triggersBalance (p : Port) (l : h.TriggersBalance) : (h.cooldownOver p).TriggersBalance := by
  unfold Hub.cooldownOver
  split
  · exact l.of_trig rfl
  · exact Hub.retry_triggersBalance p l

theorem Hub.sweepReported_triggersBalance (p : Port) (l : h.TriggersBalance) : (h.sweepReported p).TriggersBalance := by
  unfold Hub.sweepReported
  split
  · exact Hub.retry_triggersBalance p (l.of_trig rfl)
  · exact l

theorem Hub.powerDown_triggersBalance (p : Port) (l : h.TriggersBalance) : (h.powerDown p).TriggersBalance := by
  unfold Hub.powerDown
  split
  · exact Hub.turnOff_triggersBalance p _ _ l
  · exact l

theorem Hub.powerOff_triggersBalance (p : Port) (l : h.TriggersBalance) : (h.powerOff p).TriggersBalance := by
  unfold Hub.powerOff
  split
  · exact l.of_trig rfl
  · exact Hub.turnOff_triggersBalance p _ _ (l.of_trig rfl)
  · exact Hub.turnOff_triggersBalance p _ _ l

theorem Hub.shedToFit_triggersBalance : ∀ (n : Nat) {h : Hub}, h.TriggersBalance → (Hub.shedToFit n h).1.TriggersBalance
  | 0, _, l => l
  | n + 1, h, l => by
    unfold Hub.shedToFit
    split
    · split
      · exact l
      · exact Hub.shedToFit_triggersBalance n (Hub.turnOff_triggersBalance _ _ _ l)
    · exact l

theorem Hub.budgetSet_triggersBalance (budget : Nat) (l : h.TriggersBalance) : (h.budgetSet budget).1.TriggersBalance :=
  Hub.shedToFit_triggersBalance _ (l.of_trig rfl)

theorem Hub.shedUndervolt_triggersBalance (entry : Bool) (l : h.TriggersBalance) : (h.shedUndervolt entry).TriggersBalance := by
  unfold Hub.shedUndervolt
  split
  · exact Hub.turnOff_triggersBalance _ _ _ l
  · split
    · exact l.of_trig (by simp)
    · exact l

theorem Hub.supplySample_triggersBalance (mv : Nat) (l : h.TriggersBalance) : (h.supplySample mv).TriggersBalance := by
  have cell {h : Hub} (f : CellPower → CellPower) (l : h.TriggersBalance) : (h.modCell f).TriggersBalance := l.of_trig rfl
  have sampled := cell (fun c => { c with supplySample := mv }) l
  unfold Hub.supplySample
  dsimp only
  generalize (h.modCell fun c => { c with supplySample := mv }) = k at sampled
  split
  case h_1 =>
    split
    · exact cell _ sampled
    · exact sampled
  case h_2 | h_3 =>
    split
    · exact cell _ sampled
    · split
      · exact Hub.shedUndervolt_triggersBalance _ (cell _ sampled)
      · exact sampled

theorem Hub.isolate_triggersBalance (p : Port) (action : Nat) (l : h.TriggersBalance) : (h.isolate p action).1.TriggersBalance := by
  have set (on : Bool) : (h.setRequestedIso p on).TriggersBalance := by
    unfold Hub.setRequestedIso
    dsimp only
    split
    · exact Hub.isolationRise_triggersBalance p (l.of_trig rfl)
    · exact l.of_trig rfl
  unfold Hub.isolate
  split
  · exact set true
  · exact set false
  · exact l

/-! ## Sweeps -/

theorem Hub.offerEngines_triggersBalance (l : h.TriggersBalance) : h.offerEngines.TriggersBalance := l.of_trig (by simp)

theorem Hub.autoSweep_triggersBalance (p : Port) (o : SweepOrigin) (l : h.TriggersBalance) : (h.autoSweep p o).TriggersBalance := by
  unfold Hub.autoSweep
  split
  · exact l.of_trig rfl
  · exact (Hub.powerDown_triggersBalance p l).of_trig (by simp)

theorem Hub.maySweep_triggersBalance (p : Port) (o : Option SweepOrigin) (l : h.TriggersBalance) :
    (h.maySweep p o).TriggersBalance := by
  cases o with
  | none => exact l
  | some o => exact Hub.autoSweep_triggersBalance p o l

theorem Hub.sweepOver_triggersBalance (p : Port) (l : h.TriggersBalance) : (h.sweepOver p).TriggersBalance :=
  Hub.sweepReported_triggersBalance p (l.of_trig (by simp))

theorem Hub.stopSweep_triggersBalance (e : EngineNo) (p : Port) (l : h.TriggersBalance) : (h.stopSweep e p).TriggersBalance :=
  Hub.offerEngines_triggersBalance (Hub.sweepOver_triggersBalance p (l.of_trig (by rfl)))

theorem Hub.cancelEngine_triggersBalance (p : Port) (e : EngineNo) (l : h.TriggersBalance) :
    (h.cancelEngine p e).TriggersBalance := by
  unfold Hub.cancelEngine
  split
  · split
    · split
      · exact l.of_trig rfl
      · exact Hub.stopSweep_triggersBalance e p l
    · exact l
  · exact l

theorem Hub.cancelSweep_triggersBalance (p : Port) (l : h.TriggersBalance) : (h.cancelSweep p).TriggersBalance := by
  cases status : (h.cb p).sweepStatus with
  | idle => simpa only [Hub.cancelSweep, status] using l
  | queued =>
    simp only [Hub.cancelSweep, status]
    exact Hub.sweepOver_triggersBalance p (l.of_trig rfl)
  | running =>
    rw [Hub.cancelSweep_of_running status]
    exact Hub.cancelEngine_triggersBalance p 1 (Hub.cancelEngine_triggersBalance p 0 l)

theorem Hub.sweepRequest_triggersBalance (p : Port) (sweep : SweepParamsRaw) (first : Nat) (l : h.TriggersBalance) :
    (h.sweepRequest p sweep first).1.TriggersBalance := by
  unfold Hub.sweepRequest
  split
  · split
    · exact l
    · split
      · exact l
      · exact (Hub.powerDown_triggersBalance p l).of_trig (by simp)
  · exact l

theorem Hub.recordPair_triggersBalance (c : SweepContext) (pair : Pair) (l : h.TriggersBalance) :
    (h.recordPair c pair).TriggersBalance := by
  unfold Hub.recordPair
  dsimp only
  split
  · exact l
  · split
    · exact Hub.isolationRise_triggersBalance _ (l.of_trig rfl)
    · exact l.of_trig rfl

theorem Hub.completeSweep_triggersBalance (e : EngineNo) (c : SweepContext) (l : h.TriggersBalance) :
    (h.completeSweep e c).TriggersBalance := by
  have recorded {h : Hub} (pair : Pair) (l : h.TriggersBalance) :
      (if tests c.params.pair pair then h.recordPair c pair else h).TriggersBalance := by
    split
    · exact Hub.recordPair_triggersBalance c pair l
    · exact l
  have both := recorded .power (recorded .data l)
  unfold Hub.completeSweep
  dsimp only
  generalize (if tests c.params.pair .power then _ else _ : Hub) = k at both
  exact Hub.offerEngines_triggersBalance (Hub.sweepReported_triggersBalance _ (both.of_trig (by simp)))

theorem Hub.repeatEnd_triggersBalance (e : EngineNo) (c : SweepContext) (endTime : HubTime) (l : h.TriggersBalance) :
    (h.repeatEnd e c endTime).TriggersBalance := by
  unfold Hub.repeatEnd
  dsimp only
  split
  · exact l.of_trig rfl
  · split
    · exact l.of_trig rfl
    · exact Hub.completeSweep_triggersBalance e _ l

theorem Hub.shotEnd_triggersBalance (e : EngineNo) (c : SweepContext) (trace : List (Nat × Int)) (l : h.TriggersBalance) :
    (h.shotEnd e c trace).TriggersBalance := by
  unfold Hub.shotEnd
  dsimp only
  split
  · exact Hub.stopSweep_triggersBalance e _ l
  · split
    · exact l.of_trig rfl
    · exact Hub.repeatEnd_triggersBalance e _ _ l

/-! ## Protection and training -/

theorem Hub.trip_triggersBalance (p : Port) (cause : OffCause) (l : h.TriggersBalance) : (h.trip p cause).TriggersBalance := by
  unfold Hub.trip
  dsimp only
  exact Hub.maySweep_triggersBalance p _ (Hub.departs_triggersBalance _ _ _ l)

theorem Hub.detected_triggersBalance (p : Port) (load : Nat) (l : h.TriggersBalance) : (h.detected p load).TriggersBalance := by
  have fails (cause : OffCause) : (if ((h.turnOff p cause 0).cb p).onDetectFail then
      (h.turnOff p cause 0).autoSweep p .autoDetect else h.turnOff p cause 0).TriggersBalance := by
    split
    · exact Hub.autoSweep_triggersBalance p _ (Hub.turnOff_triggersBalance p cause 0 l)
    · exact Hub.turnOff_triggersBalance p cause 0 l
  unfold Hub.detected
  dsimp only
  split
  · exact fails _
  · split
    · exact fails _
    · exact l.of_trig (by simp)

theorem Hub.attemptEnd_triggersBalance (p : Port) (l : h.TriggersBalance) : (h.attemptEnd p).TriggersBalance := by
  have failed : ((h.modLink p fun l => { l with state := .down, note := .trainFail, channel := .idle }).flag p
      fLink).TriggersBalance := l.of_trig (by simp)
  unfold Hub.attemptEnd
  dsimp only
  split
  · exact l.of_trig rfl
  · split
    · exact Hub.autoSweep_triggersBalance p _ failed
    · exact failed

theorem Hub.lossOfLock_triggersBalance (p : Port) (l : h.TriggersBalance) : (h.lossOfLock p).TriggersBalance := by
  have dropped : (h.drop p .lossOfLock (LinkCtl.train h.time)).TriggersBalance :=
    Hub.drop_triggersBalance p _ (fun _ => rfl) l
  unfold Hub.lossOfLock
  dsimp only
  split
  · exact Hub.autoSweep_triggersBalance p _ dropped
  · exact dropped

/-- What keeps the balance one item at a time keeps it over a list of them. -/
theorem foldl_triggersBalance {α : Type} {f : Hub → α → Hub}
    (one : ∀ (x : α) {h : Hub}, h.TriggersBalance → (f h x).TriggersBalance) :
    ∀ (xs : List α) {h : Hub}, h.TriggersBalance → (xs.foldl f h).TriggersBalance
  | [], _, l => l
  | x :: xs, _, l => foldl_triggersBalance one xs (one x l)

end

end Sys2Proof.Machine

/-! # Every command keeps the trigger counters in balance -/

namespace Sys2Proof.Machine

/-! ## Requests that leave the triggers as they are -/

section
variable {h : Hub}

theorem Hub.linkSet_trig (p : Port) (degrade drop : Nat) : (h.linkSet p degrade drop).1.trig = h.trig := by
  unfold Hub.linkSet
  split <;> rfl

theorem Hub.linkTest_trig (p : Port) (count : Nat) : (h.linkTest p count).1.trig = h.trig := by
  unfold Hub.linkTest
  (repeat' split) <;> rfl

theorem Hub.passThrough_trig (p : Port) (tag : BitVec 16) (kind : PassKind) (count : Nat) (mk : SlotNo → BitVec 8 → Command) :
    (h.passThrough p tag kind count mk).1.trig = h.trig := by
  unfold Hub.passThrough
  (repeat' split) <;> rfl

theorem Hub.readEvents_trig (p : Option Port) : (h.readEvents p).1.trig = h.trig := by cases p <;> rfl

theorem Hub.noticeSet_trig (kinds : Nat) : (h.noticeSet kinds).1.trig = h.trig := by
  unfold Hub.noticeSet
  split <;> rfl

theorem Hub.portPowerSet_trig (p : Port) (grant limit priority allowance : Nat) :
    (h.portPowerSet p grant limit priority allowance).1.trig = h.trig := by
  unfold Hub.portPowerSet
  (repeat' split) <;> rfl

theorem Hub.powerOn_trig (p : Port) : (h.powerOn p).1.trig = h.trig := by
  unfold Hub.powerOn
  dsimp only
  split
  · simp
  · rfl

theorem Hub.lensProfileLoad_trig (p : Port) (focus zoom iris : ProfileParams) :
    (h.lensProfileLoad p focus zoom iris).1.trig = h.trig := by
  unfold Hub.lensProfileLoad
  (repeat' split) <;> rfl

theorem Hub.focusTableLoad_trig (p : Port) (stop zoom : Nat) (points : List (Nat × Nat)) :
    (h.focusTableLoad p stop zoom points).1.trig = h.trig := by
  unfold Hub.focusTableLoad
  (repeat' split) <;> rfl

theorem Hub.triggerLineSet_trig (line filter : Nat) : (h.triggerLineSet line filter).1.trig = h.trig := by
  unfold Hub.triggerLineSet
  (repeat' split) <;> rfl

theorem Hub.cableTypeSet_trig (type speed polarity threshold : Nat) :
    (h.cableTypeSet type speed polarity threshold).1.trig = h.trig := by
  unfold Hub.cableTypeSet
  (repeat' split) <;> rfl

theorem Hub.portCableSet_trig (p : Port) (type length tolerance offset : Nat) :
    (h.portCableSet p type length tolerance offset).1.trig = h.trig := by
  unfold Hub.portCableSet
  (repeat' split) <;> rfl

theorem Hub.autoSweepSet_trig (p : Port) (flags : Nat) (sweep : SweepParamsRaw) :
    (h.autoSweepSet p flags sweep).1.trig = h.trig := by
  unfold Hub.autoSweepSet
  (repeat' split) <;> rfl

theorem Hub.faultClear_trig (p : Port) : (h.faultClear p).1.trig = h.trig := by
  unfold Hub.faultClear
  split <;> rfl

theorem Hub.ringSet_trig (p : Port) (start length timeout : Nat) : (h.ringSet p start length timeout).1.trig = h.trig := by
  unfold Hub.ringSet
  (repeat' split) <;> rfl

theorem Hub.frameHold_trig (p : Port) (number : Nat) : (h.frameHold p number).1.trig = h.trig := by
  unfold Hub.frameHold
  (repeat' split) <;> rfl

theorem Hub.frameRelease_trig (p : Port) (number : Nat) : (h.frameRelease p number).1.trig = h.trig := by
  unfold Hub.frameRelease
  (repeat' split) <;> simp

theorem Hub.viewLoad_trig (view : Nat) (q : ViewParams) : (h.viewLoad view q).1.trig = h.trig := by
  unfold Hub.viewLoad
  (repeat' split) <;> rfl

theorem Hub.viewBind_trig (p : Port) (view : Nat) : (h.viewBind p view).1.trig = h.trig := by
  unfold Hub.viewBind
  dsimp only
  (repeat' split) <;> rfl

theorem Hub.coefSelect_trig (table : Nat) : (h.coefSelect table).1.trig = h.trig := by
  unfold Hub.coefSelect
  (repeat' split) <;> rfl

theorem Hub.coefWrite_trig (values : List Nat) : (h.coefWrite values).1.trig = h.trig := by
  unfold Hub.coefWrite
  (repeat' split) <;> rfl

theorem Hub.egressSet_trig (settings : EgressParams) (p : Option Port) : (h.egressSet settings p).1.trig = h.trig := by
  cases p <;> unfold Hub.egressSet <;> dsimp only <;> (repeat' split) <;> rfl

theorem Hub.frameResend_trig (m : Memory) (p : Port) (number view : Nat) : (h.frameResend m p number view).1.trig = h.trig := by
  unfold Hub.frameResend
  (repeat' split) <;> simp

/-! ## The Trigger Unit's own requests and events -/

/-- The last fired points of every port are forgotten (R106). -/
theorem Hub.encoderSet_triggersBalance (value : Nat) (l : h.TriggersBalance) : (h.encoderSet value).1.TriggersBalance := fun p => by
  have forgotten : (h.encoderSet value).1.tg p = { h.tg p with lastFired := none } := by
    simp [Hub.encoderSet, Hub.forgetPoints, Hub.tg, vget]
  rw [forgotten]
  exact (l p).of_counts rfl rfl

theorem Hub.triggerSet_triggersBalance (p : Port) (source pitch phase direction policy timeout : Nat) (l : h.TriggersBalance) :
    (h.triggerSet p source pitch phase direction policy timeout).1.TriggersBalance := by
  unfold Hub.triggerSet
  split
  · split
    · exact l.modTrig ((l p).of_counts rfl rfl)
    · exact l
  · exact l

theorem Hub.fireAll_triggersBalance : ∀ (ps : List Port) {h : Hub}, h.TriggersBalance → (h.fireAll ps).1.TriggersBalance
  | [], _, l => l
  | p :: ps, _, l => Hub.fireAll_triggersBalance ps (Hub.fire_triggersBalance p l)

theorem Hub.triggerSoft_triggersBalance (mask : Nat) (l : h.TriggersBalance) : (h.triggerSoft mask).1.TriggersBalance := by
  unfold Hub.triggerSoft
  dsimp only
  split
  · exact l
  · exact Hub.fireAll_triggersBalance _ l

theorem Hub.offerStep_triggersBalance (forward : Bool) (p : Port) (l : h.TriggersBalance) :
    (h.offerStep forward p).TriggersBalance := by
  unfold Hub.offerStep
  dsimp only
  split
  · exact Hub.fire_triggersBalance p (l.modTrig ((l p).of_counts rfl rfl))
  · exact l

theorem Hub.encoderStep_triggersBalance (a b : Bool) (l : h.TriggersBalance) : (h.encoderStep a b).TriggersBalance := by
  have turned (e : Encoder) : ({ h with encoder := e } : Hub).TriggersBalance := l.of_trig rfl
  unfold Hub.encoderStep
  dsimp only
  split
  · exact turned _
  · split
    · exact turned _
    · exact foldl_triggersBalance (fun p _ l => Hub.offerStep_triggersBalance _ p l) allPorts (turned _)

theorem Hub.fireLine_triggersBalance (n : LineNo) (l : h.TriggersBalance) : (h.fireLine n).TriggersBalance := by
  refine foldl_triggersBalance (fun p h l => ?_) allPorts l
  split
  · exact Hub.fire_triggersBalance p l
  · exact l

end

theorem Hub.triggersBalance_ends : Hub.EndsKeep Hub.TriggersBalance where
  settle m l := l.of_trig (by simp)
  reset := Hub.coldReset_triggersBalance
  pop l := l
  due l := l
  trunk _ l := l

/-! ## Events of the trunk and of frames -/

section
variable {h : Hub}

theorem Hub.arrive_trig (pkt : Packet) : (h.arrive pkt).trig = h.trig := by
  unfold Hub.arrive
  split <;> simp

theorem Hub.trunkReturns_trig (m : Memory) : (h.trunkReturns m).trig = h.trig := by
  unfold Hub.trunkReturns
  rw [foldl_keep (fun h : Hub => h.trig) _ fun h p => by simp]
  simp

theorem Hub.pipeTrunkLost_trig (m : Memory) (p : Port) : (h.pipeTrunkLost m p).trig = h.trig := by
  unfold Hub.pipeTrunkLost
  split <;> simp

theorem Hub.trunkLost_triggersBalance (m : Memory) (l : h.TriggersBalance) : (h.trunkLost m).TriggersBalance := by
  have closed : (allPorts.foldl Hub.closesLost h).trig = h.trig := foldl_keep (fun h : Hub => h.trig) _ (fun h p => by simp) _ _
  unfold Hub.trunkLost
  dsimp only
  split
  · exact Hub.coldReset_triggersBalance _
  · refine l.of_trig ?_
    rw [foldl_keep (fun h : Hub => h.trig) _ fun h p => h.pipeTrunkLost_trig m p]
    simpa using closed

theorem Hub.sendEnd_triggersBalance (m : Memory) (l : h.TriggersBalance) : (h.sendEnd m).TriggersBalance := by
  unfold Hub.sendEnd
  split
  · exact l
  · dsimp only
    split
    · exact Hub.coldReset_triggersBalance _
    · split
      · exact l
      · split
        · exact l
        · exact l.of_trig (by simp)

theorem Hub.openFrame_triggersBalance (p : Port) (number width height id : Nat) (l : h.TriggersBalance) :
    (h.openFrame p number width height id).TriggersBalance := by
  have opened : (h.modLink p fun l =>
      { l with context := some { number := number, width := width, height := height, received := [] } }).TriggersBalance :=
    l.of_trig rfl
  exact (Hub.resolveId_triggersBalance p id opened).of_trig (by simp [Hub.openFrame])

theorem State.completeFrame_trig (s : State) (p : Port) (r : FrameRecord) (e : Option (Nat × Nat)) (truncated : Bool)
    (intake : Intake) : (s.completeFrame p r e truncated intake).hub.trig = s.hub.trig := by
  unfold State.completeFrame
  dsimp only
  split
  · simp [Hub.queueLive]
  · rfl

theorem State.frameCutOff_trig (s : State) (p : Port) : (s.frameCutOff p).hub.trig = s.hub.trig := by
  unfold State.frameCutOff
  split
  · exact s.completeFrame_trig p _ _ _ _
  · rfl

theorem State.frameEnded_trig (s : State) (p : Port) (linesSent status : Nat) :
    (s.frameEnded p linesSent status).hub.trig = s.hub.trig := by
  unfold State.frameEnded
  split
  · exact s.completeFrame_trig p _ _ _ _
  · dsimp only
    split <;> rfl

theorem State.frameStart_triggersBalance {s : State} (p : Port) (number width height id : Nat) (l : s.hub.TriggersBalance) :
    (s.frameStart p number width height id).hub.TriggersBalance := by
  unfold State.frameStart
  split
  · exact l.of_trig (by simp [Hub.ignorePacket])
  · refine Hub.openFrame_triggersBalance p _ _ _ _ ?_
    split
    · exact l.of_trig (s.frameCutOff_trig p)
    · exact l

theorem State.line_trig (s : State) (p : Port) (number : Nat) (pixels : List Nat) :
    (s.line p number pixels).hub.trig = s.hub.trig := by
  unfold State.line
  split
  · rfl
  · split
    · rfl
    · unfold State.storeLine
      dsimp only
      split <;> rfl

theorem State.frameEnd_trig (s : State) (p : Port) (linesSent status : Nat) :
    (s.frameEnd p linesSent status).hub.trig = s.hub.trig := by
  unfold State.frameEnd
  split
  · rfl
  · exact State.frameEnded_trig _ p _ _

end

section
variable {s t : State}

theorem execFrameStart_triggersBalance {p : Port} {number width height id : Nat}
    (e : execFrameStart p number width height id s = .next t) (l : s.hub.TriggersBalance) : t.hub.TriggersBalance := by
  unfold execFrameStart at e
  split at e
  · exact Hub.triggersBalance_ends.settled e (State.frameStart_triggersBalance p _ _ _ _ l)
  · cases e; exact l

theorem execLine_triggersBalance {p : Port} {number : Nat} {pixels : List Nat} (e : execLine p number pixels s = .next t)
    (l : s.hub.TriggersBalance) : t.hub.TriggersBalance := by
  unfold execLine at e
  split at e
  · exact Hub.triggersBalance_ends.settled e (l.of_trig (s.line_trig p _ _))
  · cases e; exact l

theorem execFrameEnd_triggersBalance {p : Port} {linesSent status : Nat} (e : execFrameEnd p linesSent status s = .next t)
    (l : s.hub.TriggersBalance) : t.hub.TriggersBalance := by
  unfold execFrameEnd at e
  split at e
  · exact Hub.triggersBalance_ends.settled e (l.of_trig (s.frameEnd_trig p _ _))
  · cases e; exact l

theorem execFillDeadline_triggersBalance {p : Port} (e : execFillDeadline p s = .next t) (l : s.hub.TriggersBalance) :
    t.hub.TriggersBalance := by
  unfold execFillDeadline at e
  split at e
  · exact Hub.triggersBalance_ends.settled e (l.of_trig (s.completeFrame_trig p _ _ _ _))
  · cases e; exact l

/-! ## Engines and currents -/

theorem execSettlingEnd_triggersBalance {n : EngineNo} (e : execSettlingEnd n s = .next t) (l : s.hub.TriggersBalance) :
    t.hub.TriggersBalance := by
  unfold execSettlingEnd at e
  split at e
  · exact Hub.triggersBalance_ends.event e l
  · cases e; exact l

theorem execShot_triggersBalance {n : EngineNo} {trace : List (Nat × Int)} (e : execShot n trace s = .next t)
    (l : s.hub.TriggersBalance) : t.hub.TriggersBalance := by
  unfold execShot at e
  split at e
  · exact Hub.triggersBalance_ends.event e (Hub.shotEnd_triggersBalance n _ trace l)
  · cases e; exact l

theorem execRepeatIntervalEnd_triggersBalance {n : EngineNo} (e : execRepeatIntervalEnd n s = .next t) (l : s.hub.TriggersBalance) :
    t.hub.TriggersBalance := by
  unfold execRepeatIntervalEnd at e
  split at e
  · exact Hub.triggersBalance_ends.event e l
  · cases e; exact l

/-- A current that a row reports trips its port or has that row's own effect (R47). -/
theorem State.senseCurrent_triggersBalance {p : Port} {current : Nat} {own : Hub → Bool} {act : Hub → Hub}
    (e : s.senseCurrent p current own act = .next t) (l : s.hub.TriggersBalance) (acts : (act s.hub).TriggersBalance) :
    t.hub.TriggersBalance := by
  refine Hub.triggersBalance_ends.when e l fun _ => ?_
  split
  · exact Hub.trip_triggersBalance p _ l
  · exact acts

section
variable {p : Port} {current : Nat}

theorem execOvercurrentRise_triggersBalance (e : execOvercurrentRise p current s = .next t) (l : s.hub.TriggersBalance) :
    t.hub.TriggersBalance := State.senseCurrent_triggersBalance e l (l.of_trig rfl)

theorem execOvercurrentFall_triggersBalance (e : execOvercurrentFall p current s = .next t) (l : s.hub.TriggersBalance) :
    t.hub.TriggersBalance := State.senseCurrent_triggersBalance e l (l.of_trig rfl)

theorem execTrip_triggersBalance (e : execTrip p current s = .next t) (l : s.hub.TriggersBalance) : t.hub.TriggersBalance :=
  State.senseCurrent_triggersBalance e l (Hub.trip_triggersBalance p .trip l)

theorem execHardShort_triggersBalance (e : execHardShort p current s = .next t) (l : s.hub.TriggersBalance) :
    t.hub.TriggersBalance := State.senseCurrent_triggersBalance e l l

end

end

/-- Every command keeps the balance: a trigger fired is counted with its outcome, and one in hand is counted as it ends. -/
theorem exec_triggersBalance (i : Instr) (s t : State) (e : exec i s = .next t) (l : s.hub.TriggersBalance) :
    t.hub.TriggersBalance := by
  have ends := Hub.triggersBalance_ends
  cases i with
  | coldReset => exact ends.event e (Hub.coldReset_triggersBalance _)
  | trunkUp => exact ends.when e l fun _ => l.of_trig (Hub.trunkReturns_trig _)
  | trunkLoss => exact ends.when e l fun _ => Hub.trunkLost_triggersBalance _ l
  | requestPacketReceived pkt => exact ends.when e l fun _ => l.of_trig (Hub.arrive_trig pkt)
  | badRequest => exact ends.badRequest (fun l => l) e l
  | packetSendEnd => exact ends.when e l fun _ => Hub.sendEnd_triggersBalance _ l
  | imageQueueTakesPacket p | answeredSlotReplyOffer => exact ends.when e l fun _ => l.of_trig (by simp)
  | identify r | timeRead r | partReset r => exact ends.take (forHub_keeps fun _ l => l) e l
  | readEvents r => exact ends.take (forEither_keeps fun p _ l => l.of_trig (Hub.readEvents_trig p)) e l
  | noticeSet r kinds => exact ends.take (forHub_keeps fun _ l => l.of_trig (Hub.noticeSet_trig kinds)) e l
  | isolate r action => exact ends.take (forPort_keeps fun p _ => Hub.isolate_triggersBalance p action) e l
  | portRead r | dropHistoryRead r | lensRead r | frameList r => exact ends.take (forPort_keeps fun _ _ l => l) e l
  | linkSet r degrade drop => exact ends.take (forPort_keeps fun p _ l => l.of_trig (Hub.linkSet_trig p _ _)) e l
  | linkTest r count => exact ends.take (forPort_keeps fun p _ l => l.of_trig (Hub.linkTest_trig p _)) e l
  | attrRead r address count | attrWrite r address words =>
    exact ends.takeLater (passFor_keeps fun p _ l => l.of_trig (Hub.passThrough_trig p _ _ _ _)) e l
  | passThroughTimeout slot => exact ends.when e l fun _ => l.of_trig (by simp)
  | budgetSet r budget => exact ends.take (forHub_keeps fun _ => Hub.budgetSet_triggersBalance budget) e l
  | portPowerSet r grant limit priority allowance =>
    exact ends.take (forPort_keeps fun p _ l => l.of_trig (Hub.portPowerSet_trig p _ _ _ _)) e l
  | powerOn r => exact ends.take (forPort_keeps fun p _ l => l.of_trig (Hub.powerOn_trig p)) e l
  | powerOff r => exact ends.take (forPort_keeps fun p _ => Hub.powerOff_triggersBalance p) e l
  | detectionEnd p load => exact ends.when e l fun _ => Hub.detected_triggersBalance p load l
  | rampOutputReached p output => exact ends.when e l fun _ => l.of_trig (by simp)
  | rampFail p output => exact ends.when e l fun _ => Hub.trip_triggersBalance p _ l
  | overcurrentRise p current => exact execOvercurrentRise_triggersBalance e l
  | overcurrentFall p current => exact execOvercurrentFall_triggersBalance e l
  | trip p current => exact execTrip_triggersBalance e l
  | hardShort p current => exact execHardShort_triggersBalance e l
  | cooldownEnd p => exact ends.when e l fun _ => Hub.cooldownOver_triggersBalance p l
  | supplySample mv => exact ends.event e (Hub.supplySample_triggersBalance mv l)
  | trainingAttemptEnd p => exact ends.when e l fun _ => Hub.attemptEnd_triggersBalance p l
  | lockReply p | errorWindowEnd p => exact ends.when e l fun _ => l.of_trig (by simp)
  | lossOfLock p => exact ends.when e l fun _ => Hub.lossOfLock_triggersBalance p l
  | badUpstreamPacket p bytes => exact ends.when e l fun _ => l.of_trig (by simp [Hub.badPacket])
  | frameStart p number width height id => exact execFrameStart_triggersBalance e l
  | line p number pixels => exact execLine_triggersBalance e l
  | frameEnd p linesSent status => exact execFrameEnd_triggersBalance e l
  | fillDeadline p => exact execFillDeadline_triggersBalance e l
  | ack p sequence => exact ends.when e l fun _ => Hub.ackTaken_triggersBalance p _ l
  | ackWaitEnd p => exact ends.when e l fun _ => Hub.waitEnds_triggersBalance p l
  | downstreamMessageSent p => exact ends.when e l fun _ => Hub.messageSent_triggersBalance p l
  | attrReply p attr status words => exact ends.when e l fun _ => l.of_trig (by simp)
  | lensReport p axis position kind => exact ends.when e l fun _ => Hub.lensReport_triggersBalance p _ _ _ l
  | lensDeadline p axis => exact ends.when e l fun _ => Hub.axisTimeout_triggersBalance p axis l
  | lensProfileLoad r focus zoom iris =>
    exact ends.take (forPort_keeps fun p _ l => l.of_trig (Hub.lensProfileLoad_trig p _ _ _)) e l
  | lensHome r axis => exact ends.take (forPort_keeps fun p _ => Hub.lensHome_triggersBalance p axis) e l
  | lensMove r axis target => exact ends.take (forPort_keeps fun p _ => Hub.lensMove_triggersBalance p axis target) e l
  | lensStop r axis => exact ends.take (forPort_keeps fun p _ => Hub.lensStop_triggersBalance p axis) e l
  | focusTableLoad r stop zoom points =>
    exact ends.take (forPort_keeps fun p _ l => l.of_trig (Hub.focusTableLoad_trig p _ _ _)) e l
  | lensFocusDistance r d => exact ends.take (forPort_keeps fun p _ => Hub.lensFocusDistance_triggersBalance p d) e l
  | encoderStep a b => exact ends.event e (Hub.encoderStep_triggersBalance a b l)
  | triggerTimeout p => exact ends.when e l fun due => Hub.triggerTimeout_triggersBalance due l
  | triggerLineRise n | triggerLineFall n => exact ends.when e l fun _ => l
  | filterTimeEnd n => exact ends.when e l fun _ => Hub.fireLine_triggersBalance n (l.of_trig rfl)
  | encoderSet r value => exact ends.take (forHub_keeps fun _ => Hub.encoderSet_triggersBalance value) e l
  | triggerLineSet r line filter => exact ends.take (forHub_keeps fun _ l => l.of_trig (Hub.triggerLineSet_trig _ _)) e l
  | triggerSet r source pitch phase direction policy timeout =>
    exact ends.take (forPort_keeps fun p _ => Hub.triggerSet_triggersBalance p _ _ _ _ _ _) e l
  | triggerSoft r mask => exact ends.take (forHub_keeps fun _ => Hub.triggerSoft_triggersBalance mask) e l
  | triggerRead r | faultRead r => exact ends.take (forEither_keeps fun _ _ l => l) e l
  | cableTypeSet r type speed polarity threshold =>
    exact ends.take (forHub_keeps fun _ l => l.of_trig (Hub.cableTypeSet_trig _ _ _ _)) e l
  | portCableSet r type length tolerance offset =>
    exact ends.take (forPort_keeps fun p _ l => l.of_trig (Hub.portCableSet_trig p _ _ _ _)) e l
  | autoSweepSet r flags sweep => exact ends.take (forPort_keeps fun p _ l => l.of_trig (Hub.autoSweepSet_trig p _ _)) e l
  | sweepRequest r sweep first => exact ends.take (forPort_keeps fun p _ => Hub.sweepRequest_triggersBalance p _ _) e l
  | settlingEnd n => exact execSettlingEnd_triggersBalance e l
  | shot n trace => exact execShot_triggersBalance e l
  | repeatIntervalEnd n => exact execRepeatIntervalEnd_triggersBalance e l
  | sweepCancel r => exact ends.take (forPort_keeps fun p _ => Hub.cancelSweep_triggersBalance p) e l
  | faultClear r => exact ends.take (forPort_keeps fun p _ l => l.of_trig (Hub.faultClear_trig p)) e l
  | ringSet r start length timeout => exact ends.take (forPort_keeps fun p _ l => l.of_trig (Hub.ringSet_trig p _ _ _)) e l
  | frameHold r number => exact ends.take (forPort_keeps fun p _ l => l.of_trig (Hub.frameHold_trig p _)) e l
  | frameRelease r number => exact ends.take (forPort_keeps fun p _ l => l.of_trig (Hub.frameRelease_trig p _)) e l
  | viewLoad r view params => exact ends.take (forHub_keeps fun _ l => l.of_trig (Hub.viewLoad_trig _ _)) e l
  | viewBind r view => exact ends.take (forPort_keeps fun p _ l => l.of_trig (Hub.viewBind_trig p _)) e l
  | viewUnbind r | pipeReset r => exact ends.take (forPort_keeps fun _ _ l => l) e l
  | coefSelect r table => exact ends.take (forHub_keeps fun _ l => l.of_trig (Hub.coefSelect_trig _)) e l
  | coefWrite r values => exact ends.take (forHub_keeps fun _ l => l.of_trig (Hub.coefWrite_trig _)) e l
  | frameResend r number view =>
    exact ends.take (forPort_keeps fun p _ l => l.of_trig (Hub.frameResend_trig s.dram p _ _)) e l
  | egressSet r settings => exact ends.take (forEither_keeps fun p _ l => l.of_trig (Hub.egressSet_trig settings p)) e l

/-- Settles O7: every command keeps the counters in balance, and a microsecond of hub time leaves the triggers as they are. -/
theorem triggerCountersBalance : Obligations.TriggerCountersBalance := by
  intro s t l e
  unfold step at e
  split at e
  case h_1 => cases e; exact l
  case h_2 i rest _ => exact exec_triggersBalance i { s with pending := rest } t e l

end Sys2Proof.Machine

/-! # What firings leave as it is (R111 to R115) -/

namespace Sys2Proof.Machine

/-! ## The units beside the triggers -/

/-- The units that firings do not reach. -/
def Hub.besideTriggers (h : Hub) :=
  (h.time, h.requestedIso, h.power, h.cell, h.cable, h.cables, h.lens, h.encoder, h.lines, h.frames, h.view, h.pipe, h.freeCount)

/-- The Trunk Interface but for the reply queue and the count of discarded packets. -/
def Trunk.besideReplies (t : Trunk) : Trunk := { t with replies := [], discarded := 0 }

/-- The Management Unit but for port flags, slots and the count of unsent notices. -/
def Mgmt.besideNotices (m : Mgmt) : Mgmt :=
  { m with portFlags := Vector.replicate 8 0, slots := Vector.replicate 4 .free, answered := [], unsent := 0 }

/-- From h to h', firings have changed triggers and channels, raised TRIG_LOST on some ports, and brought the notices of
those flags; with no flag that rose, reply queue and Management Unit are as they were (R171, R174). -/
structure Hub.FiringsOnly (h h' : Hub) : Prop where
  units : h'.besideTriggers = h.besideTriggers
  trunk : h'.trunk.besideReplies = h.trunk.besideReplies
  mgmt : h'.mgmt.besideNotices = h.mgmt.besideNotices
  slots : h.SlotsPass h' none
  flags : ∀ p, vget h'.mgmt.portFlags p = vget h.mgmt.portFlags p ∨
    vget h'.mgmt.portFlags p = vget h.mgmt.portFlags p ||| fTrigLost
  silent : h'.mgmt.portFlags = h.mgmt.portFlags → h'.trunk = h.trunk ∧ h'.mgmt = h.mgmt

theorem Hub.FiringsOnly.of_same {h h' : Hub} (units : h'.besideTriggers = h.besideTriggers) (trunk : h'.trunk = h.trunk)
    (mgmt : h'.mgmt = h.mgmt) : h.FiringsOnly h' where
  units := units
  trunk := by rw [trunk]
  mgmt := by rw [mgmt]
  slots := .of_same ⟨by rw [trunk], by rw [trunk], by rw [mgmt]⟩
  flags p := .inl (by rw [mgmt])
  silent _ := ⟨trunk, mgmt⟩

theorem Hub.FiringsOnly.refl (h : Hub) : h.FiringsOnly h := .of_same rfl rfl rfl

/-- Like items that agree one by one are the same. -/
theorem vget_ext {α : Type} {n : Nat} {v w : Vector α n} (e : ∀ i, vget v i = vget w i) : v = w :=
  Vector.ext fun i lt => e ⟨i, lt⟩

/-- Flags that may have been set twice, and stand as before, were not set in between. -/
theorem flags_between {a b c f : BitVec 16} (first : b = a ∨ b = a ||| f) (second : c = b ∨ c = b ||| f) (same : c = a) :
    b = a := by
  rcases first with e | rfl
  · exact e
  · rcases second with e | e
    · exact e ▸ same
    · rw [← same, e, BitVec.or_assoc, BitVec.or_self]

theorem Hub.FiringsOnly.trans {a b c : Hub} (h : a.FiringsOnly b) (k : b.FiringsOnly c) : a.FiringsOnly c where
  units := k.units.trans h.units
  trunk := k.trunk.trans h.trunk
  mgmt := k.mgmt.trans h.mgmt
  slots := h.slots.trans k.slots
  flags p := by
    rcases h.flags p with e | e <;> rcases k.flags p with e' | e'
    · exact .inl (e'.trans e)
    · exact .inr (e ▸ e')
    · exact .inr (e'.trans e)
    · exact .inr (by rw [e', e, BitVec.or_assoc, BitVec.or_self])
  silent same := by
    have between : b.mgmt.portFlags = a.mgmt.portFlags :=
      vget_ext fun p => flags_between (h.flags p) (k.flags p) (congrArg (vget · p) same)
    obtain ⟨trunk, mgmt⟩ := h.silent between
    obtain ⟨trunk', mgmt'⟩ := k.silent (same.trans between.symm)
    exact ⟨trunk'.trans trunk, mgmt'.trans mgmt⟩

/-! ## The flag of a loss -/

section
variable {h : Hub} {p : Port}

/-- What an offer to the reply queue leaves of the Trunk Interface (R158). -/
@[simp] theorem Hub.offerReply_besideReplies (pkt : Packet) :
    (h.offerReply pkt).1.trunk.besideReplies = h.trunk.besideReplies := by
  unfold Hub.offerReply
  (repeat' split) <;> rfl

@[simp] theorem Hub.offerDue_besideReplies : h.offerDue.trunk.besideReplies = h.trunk.besideReplies := by
  refine foldl_keep (fun h : Hub => h.trunk.besideReplies) _ (fun h _ => ?_) _ h
  unfold Hub.offerAnswered
  dsimp only
  (repeat' split) <;> simp

@[simp] theorem Hub.noticeFor_besideReplies (rose : BitVec 16) :
    (h.noticeFor rose).trunk.besideReplies = h.trunk.besideReplies := by
  unfold Hub.noticeFor Hub.offerNotice
  dsimp only
  (repeat' split) <;> simp

/-- What a notice, with the kept replies ahead of it, leaves of the Management Unit (R171, R174). -/
@[simp] theorem Hub.noticeFor_besideNotices (rose : BitVec 16) :
    (h.noticeFor rose).mgmt.besideNotices = h.mgmt.besideNotices := by
  unfold Hub.noticeFor Hub.offerNotice
  dsimp only
  (repeat' split) <;> simp [Mgmt.besideNotices]

/-- A flag that is set already brings nothing (R172, R174). -/
theorem Hub.flag_of_set {f : BitVec 16} (set : vget h.mgmt.portFlags p ||| f = vget h.mgmt.portFlags p) : h.flag p f = h := by
  have flags : h.setFlags p f 0 = h := by
    have word : vmod h.mgmt.portFlags p (· ||| f) = h.mgmt.portFlags := vmod_of_fixed set
    have part : h.mgmt.partFlags ||| 0 = h.mgmt.partFlags := BitVec.or_zero
    rw [Hub.setFlags, Hub.modMgmt, word, part]
  have clear : f &&& ~~~vget h.mgmt.portFlags p = 0 := by
    ext i
    have bit := congrArg (·[i]) set
    simpa using bit
  rw [Hub.flag, Hub.raise, flags]
  simp [Hub.rising, clear, Hub.noticeFor]

theorem Hub.flag_firingsOnly : h.FiringsOnly (h.flag p fTrigLost) where
  units := by simp [Hub.besideTriggers]
  trunk := Hub.noticeFor_besideReplies _
  mgmt := by
    refine (Hub.noticeFor_besideNotices _).trans ?_
    simp [Mgmt.besideNotices, Hub.setFlags]
  slots := h.flag_slotsPass p fTrigLost none
  flags q := by
    rw [Hub.flag, Hub.raise_portFlags, vget_vmod]
    split
    case isTrue e => subst e; exact .inr rfl
    case isFalse => exact .inl rfl
  silent same := by
    have set := congrArg (vget · p) same
    simp only [Hub.flag, Hub.raise_portFlags, vget_vmod_same] at set
    rw [Hub.flag_of_set set]
    exact ⟨rfl, rfl⟩

end

end Sys2Proof.Machine

/-! # Firings on several ports in one event (R111 to R113) -/

namespace Sys2Proof.Machine

/-! ## A port that no firing reaches -/

/-- From h to h', the port's trigger, link and flags are as they were. -/
structure Hub.PortStays (h h' : Hub) (p : Port) : Prop where
  tg : h'.tg p = h.tg p
  lk : h'.lk p = h.lk p
  flags : vget h'.mgmt.portFlags p = vget h.mgmt.portFlags p

theorem Hub.PortStays.refl (h : Hub) (p : Port) : h.PortStays h p := ⟨rfl, rfl, rfl⟩

theorem Hub.PortStays.trans {a b c : Hub} {p : Port} (h : a.PortStays b p) (k : b.PortStays c p) : a.PortStays c p :=
  ⟨k.tg.trans h.tg, k.lk.trans h.lk, k.flags.trans h.flags⟩

section
variable {h : Hub} {p : Port}

theorem Hub.modTrig_firingsOnly (f : PortTrigger → PortTrigger) : h.FiringsOnly (h.modTrig p f) := .of_same rfl rfl rfl

theorem Hub.sendTrigger_firingsOnly (fired : FiredAt) (moving : Bool) : h.FiringsOnly (h.sendTrigger p fired moving) :=
  .of_same rfl rfl rfl

/-- What a firing does to the hub: trigger items of its port change, and a flag is raised or a message offered. -/
theorem Hub.fire_cases : ∃ f, (h.fire p).1 = (h.modTrig p f).flag p fTrigLost ∨ (h.fire p).1 = h.modTrig p f ∨
    ∃ fired moving, (h.fire p).1 = (h.modTrig p f).sendTrigger p fired moving := by
  cases up : (h.lk p).established with
  | false => exact ⟨_, .inl (by rw [Hub.fire_of_down up])⟩
  | true =>
    by_cases empty : (h.tg p).hand = .none
    · by_cases defers : (h.ln p).anyMotion = true ∧ (h.tg p).policy = .defer
      · exact ⟨_, .inr (.inl (by rw [Hub.fire_of_deferred up empty defers.1 defers.2]))⟩
      · exact ⟨_, .inr (.inr ⟨_, _, by rw [Hub.fire_of_sent up empty defers]⟩)⟩
    · exact ⟨_, .inl (by rw [Hub.fire_of_held up empty])⟩

/-- Whatever becomes of a trigger, its firing reaches triggers, a channel and the flag of a loss alone (R114). -/
theorem Hub.fire_firingsOnly : h.FiringsOnly (h.fire p).1 := by
  obtain ⟨f, e | e | ⟨fired, moving, e⟩⟩ := h.fire_cases (p := p)
  · exact e ▸ (Hub.modTrig_firingsOnly f).trans Hub.flag_firingsOnly
  · exact e ▸ Hub.modTrig_firingsOnly f
  · exact e ▸ (Hub.modTrig_firingsOnly f).trans (Hub.sendTrigger_firingsOnly fired moving)

theorem Hub.modTrig_portStays (f : PortTrigger → PortTrigger) {q : Port} (e : q ≠ p) : h.PortStays (h.modTrig p f) q :=
  ⟨h.modTrig_tg_ne p f e, rfl, rfl⟩

theorem Hub.fire_portStays {q : Port} (e : q ≠ p) : h.PortStays (h.fire p).1 q := by
  refine ⟨(h.fire_other p e).2, (h.fire_other p e).1, ?_⟩
  obtain ⟨f, fire | fire | ⟨fired, moving, fire⟩⟩ := h.fire_cases (p := p)
  · rw [fire, Hub.flag, Hub.raise_portFlags, vget_vmod_ne _ _ e, Hub.modTrig_mgmt]
  · rw [fire, Hub.modTrig_mgmt]
  · rw [fire]
    rfl

end

/-! ## What a firing has been, seen over the whole event -/

section
variable {h k k' h' : Hub} {p : Port}

theorem Hub.FiringsOnly.same_units (only : h.FiringsOnly k) :
    k.time = h.time ∧ k.lens = h.lens ∧ k.encoder = h.encoder ∧ k.lines = h.lines := by
  have units := only.units
  simp only [Hub.besideTriggers, Prod.mk.injEq] at units
  obtain ⟨time, -, -, -, -, -, lens, encoder, lines, -⟩ := units
  exact ⟨time, lens, encoder, lines⟩

/-- A firing on the port in the midst of an event whose other firings leave the port. -/
theorem Hub.FiredOn.of_stays (fired : k.FiredOn k' p)
    (units : k.time = h.time ∧ k.lens = h.lens ∧ k.encoder = h.encoder ∧ k.lines = h.lines) (before : h.PortStays k p)
    (after : k'.PortStays h' p) : h.FiredOn h' p := by
  obtain ⟨time, lens, encoder, -⟩ := units
  simpa only [Hub.FiredOn, Hub.ln, time, lens, encoder, before.tg, before.lk, ← after.tg, ← after.lk,
    ← after.flags] using fired

/-- Every outcome counts the firing (R120). -/
theorem Hub.FiredOn.requested (fired : h.FiredOn h' p) : (h'.tg p).requested = (h.tg p).requested + 1 := by
  rcases fired.tg_cases with e | e | ⟨-, _, e⟩ | ⟨-, _, _, _, _, _, _, e⟩ <;> rw [e]

theorem Hub.FiredOn.changed (fired : h.FiredOn h' p) : h'.tg p ≠ h.tg p := fun same => by
  have counted := fired.requested
  rw [same] at counted
  exact absurd counted (by simp)

theorem Trunk.eq_of_besideReplies {t t' : Trunk} (e : t'.besideReplies = t.besideReplies) :
    t' = { t with replies := t'.replies, discarded := t'.discarded } :=
  congrArg (fun x : Trunk => { x with replies := t'.replies, discarded := t'.discarded }) e

theorem Mgmt.eq_of_besideNotices {m m' : Mgmt} (e : m'.besideNotices = m.besideNotices) :
    m' = { m with portFlags := m'.portFlags, slots := m'.slots, answered := m'.answered, unsent := m'.unsent } :=
  congrArg (fun x : Mgmt =>
    { x with portFlags := m'.portFlags, slots := m'.slots, answered := m'.answered, unsent := m'.unsent }) e

/-- Firings whose ports either have fired or stay are triggers only. -/
theorem Hub.FiringsOnly.triggersOnly (only : h.FiringsOnly h') (each : ∀ p, h.PortStays h' p ∨ h'.tg p ≠ h.tg p) :
    h.TriggersOnly h' := by
  have units := only.units
  simp only [Hub.besideTriggers, Prod.mk.injEq] at units
  obtain ⟨time, iso, power, cell, cable, cables, lens, -, -, frames, view, pipe, free⟩ := units
  refine ⟨time, iso, power, cell, cable, cables, lens, frames, view, pipe, free, Trunk.eq_of_besideReplies only.trunk, ?_,
    Mgmt.eq_of_besideNotices only.mgmt, fun p => ?_, fun i => ?_, only.silent⟩
  · obtain ⟨more, grows⟩ := only.slots.grows
    rw [← grows, List.take_left]
  · rcases each p with stays | changed
    · exact .inl stays.flags
    · exact (only.flags p).imp id fun set => ⟨changed, set⟩
  · cases only.slots.slot i with
    | same e => exact .inl e
    | freed reply was now => exact .inr ⟨now, reply, was⟩
    | answered _ _ _ _ _ drop => cases drop

end

/-! ## One operation on each port of a list -/

/-- An operation on one port that fires there, or does not. -/
structure FiresAtMost (act : Hub → Port → Hub) : Prop where
  only : ∀ (h : Hub) p, h.FiringsOnly (act h p)
  aside : ∀ (h : Hub) p q, q ≠ p → h.PortStays (act h p) q

section
variable {act : Hub → Port → Hub} (fires : FiresAtMost act)
include fires

theorem FiresAtMost.foldl_only (ps : List Port) (h : Hub) : h.FiringsOnly (ps.foldl act h) := by
  induction ps generalizing h with
  | nil => exact .refl h
  | cons p ps ih => exact (fires.only h p).trans (ih _)

theorem FiresAtMost.foldl_aside {q : Port} (ps : List Port) (h : Hub) (out : q ∉ ps) : h.PortStays (ps.foldl act h) q := by
  induction ps generalizing h with
  | nil => exact .refl h q
  | cons p ps ih =>
    obtain ⟨other, out⟩ := not_or.mp (mt List.mem_cons.mpr out)
    exact (fires.aside h p q other).trans (ih _ out)

/-- A port of the list meets the operation once, on a hub where the port stands as at the start, and keeps what it leaves. -/
theorem FiresAtMost.foldl_at {p : Port} (ps : List Port) (h : Hub) (nodup : ps.Nodup) (m : p ∈ ps) :
    ∃ k, h.FiringsOnly k ∧ h.PortStays k p ∧ (act k p).PortStays (ps.foldl act h) p := by
  induction ps generalizing h with
  | nil => cases m
  | cons q ps ih =>
    obtain ⟨out, nodup⟩ := List.nodup_cons.mp nodup
    by_cases e : p = q
    · subst e
      exact ⟨h, .refl h, .refl h p, fires.foldl_aside ps _ out⟩
    · obtain ⟨k, only, before, after⟩ := ih (act h q) nodup ((List.mem_cons.mp m).resolve_left e)
      exact ⟨k, (fires.only h q).trans only, (fires.aside h q p e).trans before, after⟩

end

theorem allPorts_nodup : allPorts.Nodup := by decide

end Sys2Proof.Machine

/-! # Triggers fire on the ports that a mask, a line or a step reaches (R105, R107, R111 to R113) -/

namespace Sys2Proof.Machine

/-! ## The three operations -/

theorem Hub.fire_firesAtMost : FiresAtMost fun h p => (h.fire p).1 :=
  ⟨fun _ _ => Hub.fire_firingsOnly, fun _ _ _ => Hub.fire_portStays⟩

/-- An operation made under a condition. -/
theorem FiresAtMost.ite {act : Hub → Port → Hub} {c : Hub → Port → Bool} (fires : FiresAtMost act) :
    FiresAtMost fun h p => if c h p then act h p else h where
  only h p := by
    split
    · exact fires.only h p
    · exact .refl h
  aside h p q e := by
    split
    · exact fires.aside h p q e
    · exact .refl h q

section
variable {h k : Hub} {p : Port}

/-! ## TRIGGER_SOFT (R113) -/

theorem Hub.firing_of_stays (only : h.FiringsOnly k) (stays : h.PortStays k p) : k.firing p = h.firing p := by
  obtain ⟨-, lens, -⟩ := only.same_units
  simp only [Hub.firing, stays.tg, stays.lk, Hub.ln, lens]
  rfl

theorem Hub.fireAll_eq (ps : List Port) (h : Hub) (nodup : ps.Nodup) :
    h.fireAll ps = (ps.foldl (fun h p => (h.fire p).1) h, ps.map h.firing) := by
  induction ps generalizing h with
  | nil => rfl
  | cons p ps ih =>
    obtain ⟨out, nodup⟩ := List.nodup_cons.mp nodup
    have later : ps.map (h.fire p).1.firing = ps.map h.firing := List.map_congr_left fun q m =>
      Hub.firing_of_stays Hub.fire_firingsOnly (Hub.fire_portStays fun e => out (e ▸ m))
    simp only [Hub.fireAll, ih _ nodup, later, Hub.fire_snd, List.foldl_cons, List.map_cons]

theorem mem_maskPorts {mask : Nat} : p ∈ maskPorts mask ↔ mask.testBit p.val = true := by
  simp [maskPorts, mem_allPorts]

theorem maskPorts_nodup (mask : Nat) : (maskPorts mask).Nodup := allPorts_nodup.filter _

/-- The hub after a TRIGGER_SOFT with a mask. -/
def Hub.softFired (h : Hub) (mask : Nat) : Hub := (maskPorts mask).foldl (fun h p => (h.fire p).1) h

theorem Hub.triggerSoft_of_none {mask : Nat} (none : ∀ p : Port, mask.testBit p.val = false) :
    h.triggerSoft mask = (h, refuse .range) := by
  have empty : (maskPorts mask).isEmpty = true := by simp [maskPorts, none]
  rw [Hub.triggerSoft, if_pos empty]

theorem Hub.triggerSoft_of_some {mask : Nat} (named : mask.testBit p.val = true) :
    h.triggerSoft mask = (h.softFired mask, okWith (counted fireOutcomeBytes ((maskPorts mask).map h.firing))) := by
  have some : ¬ (maskPorts mask).isEmpty = true := fun empty => by
    have m := mem_maskPorts.mpr named
    rw [List.isEmpty_iff.mp empty] at m
    cases m
  rw [Hub.triggerSoft, if_neg some, Hub.fireAll_eq _ _ (maskPorts_nodup mask), Hub.softFired]

theorem Hub.softFired_firedOn {mask : Nat} (named : mask.testBit p.val = true) : h.FiredOn (h.softFired mask) p := by
  obtain ⟨k, only, before, after⟩ :=
    Hub.fire_firesAtMost.foldl_at (maskPorts mask) h (maskPorts_nodup mask) (mem_maskPorts.mpr named)
  exact Hub.fire_firedOn.of_stays only.same_units before after

theorem Hub.softFired_portStays {mask : Nat} (unnamed : mask.testBit p.val = false) : h.PortStays (h.softFired mask) p :=
  Hub.fire_firesAtMost.foldl_aside (maskPorts mask) h fun m => by simp [mem_maskPorts.mp m] at unnamed

theorem Hub.softFired_only (mask : Nat) : h.FiringsOnly (h.softFired mask) := Hub.fire_firesAtMost.foldl_only _ h

theorem Hub.softFired_triggersOnly (mask : Nat) : h.TriggersOnly (h.softFired mask) :=
  (Hub.softFired_only mask).triggersOnly fun p => by
    cases named : mask.testBit p.val with
    | true => exact .inr (Hub.softFired_firedOn named).changed
    | false => exact .inl (Hub.softFired_portStays named)

/-! ## An accepted edge (R107, R112) -/

section
variable {l : LineNo}

/-- A firing on the line's own ports. -/
theorem Hub.fireLine_firesAtMost (l : LineNo) :
    FiresAtMost fun h p => if decide ((h.tg p).source = .line l) then (h.fire p).1 else h := Hub.fire_firesAtMost.ite

theorem Hub.fireLine_eq :
    h.fireLine l = allPorts.foldl (fun h p => if decide ((h.tg p).source = .line l) then (h.fire p).1 else h) h := by
  simp only [decide_eq_true_eq]
  rfl

theorem Hub.fireLine_firedOn (own : (h.tg p).source = .line l) : h.FiredOn (h.fireLine l) p := by
  obtain ⟨k, only, before, after⟩ := (Hub.fireLine_firesAtMost l).foldl_at allPorts h allPorts_nodup (mem_allPorts p)
  rw [← Hub.fireLine_eq, before.tg, if_pos (by simpa using own)] at after
  exact Hub.fire_firedOn.of_stays only.same_units before after

theorem Hub.fireLine_portStays (other : (h.tg p).source ≠ .line l) : h.PortStays (h.fireLine l) p := by
  obtain ⟨k, -, before, after⟩ := (Hub.fireLine_firesAtMost l).foldl_at allPorts h allPorts_nodup (mem_allPorts p)
  rw [← Hub.fireLine_eq, before.tg, if_neg (by simpa using other)] at after
  exact before.trans after

theorem Hub.fireLine_only : h.FiringsOnly (h.fireLine l) :=
  Hub.fireLine_eq (h := h) ▸ (Hub.fireLine_firesAtMost l).foldl_only allPorts h

theorem Hub.fireLine_triggersOnly : h.TriggersOnly (h.fireLine l) :=
  Hub.fireLine_only.triggersOnly fun p => by
    by_cases own : (h.tg p).source = .line l
    · exact .inr (Hub.fireLine_firedOn own).changed
    · exact .inl (Hub.fireLine_portStays own)

end

/-! ## A step of the encoder (R105, R111) -/

section
variable {forward : Bool}

/-- The step to the counter's value fires on the port (R111). -/
def Hub.stepFires (h : Hub) (forward : Bool) (p : Port) : Bool :=
  decide ((h.tg p).source = .encoder) && (h.tg p).isPoint h.encoder.counter && (h.tg p).allows forward &&
    decide ((h.tg p).lastFired ≠ some h.encoder.counter)

/-- The port's last fired point becomes the counter's value (R111). -/
def Hub.pointMarked (h : Hub) (p : Port) : Hub := h.modTrig p fun t => { t with lastFired := some h.encoder.counter }

theorem Hub.offerStep_eq : h.offerStep forward p = if h.stepFires forward p then ((h.pointMarked p).fire p).1 else h := rfl

theorem Hub.offerStep_firesAtMost (forward : Bool) : FiresAtMost fun h p => h.offerStep forward p :=
  FiresAtMost.ite (act := fun h p => ((h.pointMarked p).fire p).1) (c := fun h p => h.stepFires forward p)
    ⟨fun _ _ => (Hub.modTrig_firingsOnly _).trans Hub.fire_firingsOnly,
      fun _ _ _ e => (Hub.modTrig_portStays _ e).trans (Hub.fire_portStays e)⟩

/-- The hub after a step to the counter's value was offered to every port. -/
def Hub.stepped (h : Hub) (forward : Bool) : Hub := allPorts.foldl (fun h p => h.offerStep forward p) h

theorem Hub.stepFires_of_stays (only : h.FiringsOnly k) (stays : h.PortStays k p) :
    k.stepFires forward p = h.stepFires forward p := by
  obtain ⟨-, -, encoder, -⟩ := only.same_units
  simp only [Hub.stepFires, stays.tg, encoder]

theorem Hub.stepped_firedOn (fires : h.stepFires forward p = true) : (h.pointMarked p).FiredOn (h.stepped forward) p := by
  obtain ⟨k, only, before, after⟩ := (Hub.offerStep_firesAtMost forward).foldl_at allPorts h allPorts_nodup (mem_allPorts p)
  obtain ⟨-, -, encoder, -⟩ := only.same_units
  rw [Hub.offerStep_eq, Hub.stepFires_of_stays only before, if_pos fires] at after
  have marked : (h.pointMarked p).PortStays (k.pointMarked p) p :=
    ⟨by simp [Hub.pointMarked, before.tg, encoder], before.lk, before.flags⟩
  exact Hub.FiredOn.of_stays (k := k.pointMarked p) Hub.fire_firedOn only.same_units marked after

theorem Hub.stepped_portStays (calm : h.stepFires forward p = false) : h.PortStays (h.stepped forward) p := by
  obtain ⟨k, only, before, after⟩ := (Hub.offerStep_firesAtMost forward).foldl_at allPorts h allPorts_nodup (mem_allPorts p)
  rw [Hub.offerStep_eq, Hub.stepFires_of_stays only before, calm] at after
  exact before.trans after

theorem Hub.stepped_only : h.FiringsOnly (h.stepped forward) := (Hub.offerStep_firesAtMost forward).foldl_only allPorts h

theorem Hub.stepped_triggersOnly : h.TriggersOnly (h.stepped forward) :=
  Hub.stepped_only.triggersOnly fun p => by
    cases fires : h.stepFires forward p with
    | true =>
      refine .inr fun same => ?_
      have counted := (Hub.stepped_firedOn fires).requested
      rw [same, Hub.pointMarked, Hub.modTrig_tg_same] at counted
      exact absurd counted (by simp)
    | false => exact .inl (Hub.stepped_portStays fires)

end

end

end Sys2Proof.Machine

/-! # The encoder's steps, accepted edges and TRIGGER_SOFT (R105, R107, R111 to R113): O52 -/

namespace Sys2Proof.Machine

/-! ## The quadrature of the encoder (R105, log entry 13) -/

/-- How far a level change turns in the forward cycle, in quarters of it. -/
def quarters (a b a' b' : Bool) : Nat := (quadrature a b + 4 - quadrature a' b') % 4

/-- The direction of a level change on one of the two inputs. -/
def forwardTo (a b a' : Bool) : Bool := if a = a' then decide (b = a) else decide (a ≠ b)

theorem quarters_same (a b : Bool) : quarters a b a b = 0 := by revert a b; decide

theorem quarters_both {a b a' b' : Bool} (na : a ≠ a') (nb : b ≠ b') : quarters a b a' b' = 2 := by
  revert a b a' b'
  decide

theorem quarters_one {a b a' b' : Bool} (one : a ≠ a' ∧ b = b' ∨ a = a' ∧ b ≠ b') :
    quarters a b a' b' ≠ 0 ∧ quarters a b a' b' ≠ 2 ∧ (quarters a b a' b' = 1 ↔ forwardTo a b a' = true) := by
  revert a b a' b'
  decide

section
variable {h : Hub} {a b : Bool}

/-- The encoder after a step: its new levels and the counter's new value. -/
def Hub.turned (h : Hub) (a b forward : Bool) : Hub :=
  { h with
    encoder := { h.encoder with
      a := a, b := b, counter := if forward then h.encoder.counter + 1 else h.encoder.counter - 1 } }

theorem Hub.encoderStep_of_same (sameA : a = h.encoder.a) (sameB : b = h.encoder.b) : h.encoderStep a b = h := by
  subst sameA sameB
  have still := quarters_same h.encoder.a h.encoder.b
  rw [quarters] at still
  simp only [Hub.encoderStep, still, if_true]

theorem Hub.encoderStep_of_both (na : a ≠ h.encoder.a) (nb : b ≠ h.encoder.b) :
    h.encoderStep a b = { h with encoder := { h.encoder with a := a, b := b, errors := h.encoder.errors + 1 } } := by
  have half := quarters_both na nb
  rw [quarters] at half
  simp only [Hub.encoderStep, half, if_true, OfNat.ofNat_ne_zero, if_false]

theorem Hub.encoderStep_of_one (one : a ≠ h.encoder.a ∧ b = h.encoder.b ∨ a = h.encoder.a ∧ b ≠ h.encoder.b) :
    h.encoderStep a b =
      (h.turned a b (forwardTo a b h.encoder.a)).stepped (forwardTo a b h.encoder.a) := by
  obtain ⟨moves, valid, direction⟩ := quarters_one one
  rw [quarters] at moves valid direction
  unfold Hub.encoderStep
  simp only [if_neg moves, if_neg valid, direction, Bool.decide_eq_true]
  rfl

end

/-- The three tests of a step at a port, and that the step is to a point that was not fired last (R111). -/
theorem Hub.stepFires_iff {h : Hub} {forward : Bool} {p : Port} :
    h.stepFires forward p = true ↔
      (h.tg p).source = .encoder ∧ (h.encoder.counter.toInt - (h.tg p).phase) % ((h.tg p).pitch : Int) = 0 ∧
        ((h.tg p).direction = .both ∨ (h.tg p).direction = .fwd ∧ forward = true ∨
          (h.tg p).direction = .rev ∧ forward = false) ∧
        (h.tg p).lastFired ≠ some h.encoder.counter := by
  have allowed : (h.tg p).allows forward = true ↔ ((h.tg p).direction = .both ∨ (h.tg p).direction = .fwd ∧ forward = true ∨
      (h.tg p).direction = .rev ∧ forward = false) := by
    cases direction : (h.tg p).direction <;> simp [PortTrigger.allows, direction]
  simp only [Hub.stepFires, Bool.and_eq_true, decide_eq_true_eq, allowed, PortTrigger.isPoint, and_assoc]

theorem State.does_encoderStep {s : State} {a b : Bool} {h' : Hub} (e : s.hub.encoderStep a b = h') :
    s.Does (.encoderStep a b) h' := by
  subst e
  rfl

/-- A line whose filter time passed with its input high has an edge to accept (R107). -/
theorem Hub.filterDue_iff {h : Hub} {l : LineNo} : h.filterDue l = true ↔
    ∃ start time, (h.line l).filtering = some (start, time) ∧ (h.line l).input = true ∧ time ≤ elapsed h.time start := by
  unfold Hub.filterDue
  split
  next start time filtering => simp [filtering, passed]
  next idle => simp [idle]

theorem Hub.filterDue_of_idle {h : Hub} {l : LineNo} (idle : (h.line l).filtering = none ∨ (h.line l).input = false) :
    h.filterDue l = false := by
  rw [Bool.eq_false_iff, Ne, Hub.filterDue_iff]
  rintro ⟨start, time, filtering, high, -⟩
  simp [filtering, high] at idle

/-- Settles O52: each event is firings on a list of ports, each port met once, and a firing has one of the four outcomes
on its port and leaves the others. -/
theorem triggersFire : Obligations.TriggersFire := by
  intro s r pkt mask a b l
  refine ⟨fun asked => ⟨fun none => ?unnamed, fun ⟨p, named⟩ => ?soft⟩, fun start time filtering high passed => ?edge,
    fun idle => ?noEdge, fun sameA sameB => ?still, fun na nb => ?error, fun one => ?step⟩
  case unnamed => exact State.answers_forHub rfl rfl asked (Hub.triggerSoft_of_none none)
  case soft =>
    obtain ⟨-, -, encoder, lines⟩ := (Hub.softFired_only (h := s.hub.popRequest) mask).same_units
    exact ⟨s.hub.popRequest.softFired mask, (maskPorts mask).map s.hub.popRequest.firing,
      State.answers_forHub rfl rfl asked (Hub.triggerSoft_of_some named), rfl,
      fun _ named => Hub.softFired_firedOn (h := s.hub.popRequest) named,
      fun _ unnamed => ⟨(Hub.softFired_portStays (h := s.hub.popRequest) unnamed).tg,
        (Hub.softFired_portStays (h := s.hub.popRequest) unnamed).lk⟩, encoder, lines,
      Hub.softFired_triggersOnly mask⟩
  case edge =>
    obtain ⟨-, -, encoder, lines⟩ := (Hub.fireLine_only (h := s.hub.modLine l TriggerLine.accept) (l := l)).same_units
    have line (k : LineNo) : ((s.hub.modLine l TriggerLine.accept).fireLine l).line k =
        (s.hub.modLine l TriggerLine.accept).line k := congrArg (vget · k) lines
    have due := Hub.filterDue_iff.mpr ⟨start, time, filtering, high, passed⟩
    exact ⟨_, State.does_of_when (f := fun h => (h.modLine l TriggerLine.accept).fireLine l) rfl due,
      (line l).trans (Hub.modLine_line_same ..), fun k e => (line k).trans (Hub.modLine_line_ne _ _ _ e),
      fun _ own => Hub.fireLine_firedOn (h := s.hub.modLine l TriggerLine.accept) own,
      fun _ other => ⟨(Hub.fireLine_portStays (h := s.hub.modLine l TriggerLine.accept) other).tg,
        (Hub.fireLine_portStays (h := s.hub.modLine l TriggerLine.accept) other).lk⟩,
      encoder, Hub.fireLine_triggersOnly (h := s.hub.modLine l TriggerLine.accept)⟩
  case noEdge =>
    exact State.next_of_not_when (f := fun h => (h.modLine l TriggerLine.accept).fireLine l) rfl (Hub.filterDue_of_idle idle)
  case still => exact State.does_encoderStep (Hub.encoderStep_of_same sameA sameB)
  case error => exact State.does_encoderStep (Hub.encoderStep_of_both na nb)
  case step =>
    intro forward c h1 fires
    have reaches (p : Port) : h1.stepFires forward p = true ↔ fires p := Hub.stepFires_iff
    obtain ⟨-, -, encoder, lines⟩ := (Hub.stepped_only (h := h1) (forward := forward)).same_units
    refine ⟨h1.stepped forward, State.does_encoderStep (Hub.encoderStep_of_one one), encoder, lines,
      fun p fired => Hub.stepped_firedOn ((reaches p).mpr fired), fun p calm => ?_, Hub.stepped_triggersOnly (h := h1)⟩
    have stays := Hub.stepped_portStays (Bool.eq_false_iff.mpr (mt (reaches p).mp calm))
    exact ⟨stays.tg, stays.lk⟩

end Sys2Proof.Machine

/-! # Encoder, line and trigger settings, line edges and trigger timeouts (R106 to R110, R118): O51 -/

namespace Sys2Proof.Machine

/-! ## The setting requests (R106, R108, R110) -/

/-- A code list whose items' codes are their places: a number read from it is sent back as it came (R177). -/
theorem code_of_read {α : Type} {items : List α} {code : α → List Byte} {n : Nat} {x : α}
    (listed : items.map code = (List.range items.length).map u8) (read : items[n]? = some x) : code x = u8 n := by
  obtain ⟨lt, rfl⟩ := List.getElem?_eq_some_iff.mp read
  have place := congrArg (·[n]?) listed
  simpa [lt] using place

/-- A number that reads is a place in the list. -/
theorem lt_of_read {α : Type} {items : List α} {n : Nat} {x : α} (read : items[n]? = some x) : n < items.length :=
  (List.getElem?_eq_some_iff.mp read).1

theorem w32_ofNat {n : Nat} (lt : n < 4294967296) : w32 (BitVec.ofNat 32 n) = u32 n := by
  rw [w32, BitVec.toNat_ofNat, Nat.mod_eq_of_lt lt]

section
variable {h : Hub}

theorem Hub.encoderSet_eq {value : Nat} (lt : value < 4294967296) :
    h.encoderSet value =
      ({ h with
        encoder := { h.encoder with counter := BitVec.ofNat 32 value }
        trig := h.trig.map fun t => { t with lastFired := none } }, okWith (u32 value)) := by
  rw [← w32_ofNat lt]
  rfl

section
variable {line filter : Nat}

theorem Hub.triggerLineSet_of_bad (bad : ¬ (line < 4 ∧ 1 ≤ filter ∧ filter ≤ 255)) :
    h.triggerLineSet line filter = (h, refuse .range) := by
  by_cases known : line < 4
  · have out : within 1 255 filter = false := by
      simpa only [Bool.eq_false_iff, Ne, within_iff] using fun range => bad ⟨known, range⟩
    simp only [Hub.triggerLineSet, asFin_of_lt known, out, Bool.not_false, if_true]
  · simp only [Hub.triggerLineSet, asFin_of_not_lt known]

theorem Hub.triggerLineSet_of_good {l : LineNo} (low : 1 ≤ filter) (high : filter ≤ 255) :
    h.triggerLineSet l.val filter =
      (h.modLine l fun t => { t with filter := filter },
        okWith (u8 l.val ++ u8 filter ++ yesNo (h.line l).level ++ w32 (h.line l).accepted ++ w32 (h.line l).glitches)) := by
  simp only [Hub.triggerLineSet, asFin_of_lt l.isLt, within_iff.mpr ⟨low, high⟩, Bool.not_true, Bool.false_eq_true, if_false]

end

section
variable {p : Port} {source pitch phase direction policy timeout : Nat}

theorem Hub.triggerSet_of_bad
    (bad : 6 ≤ source ∨ 3 ≤ direction ∨ 2 ≤ policy ∨ ¬ (1 ≤ pitch ∧ pitch ≤ 16777216) ∨ pitch ≤ phase ∨
      ¬ (1 ≤ timeout ∧ timeout ≤ 2000)) :
    h.triggerSet p source pitch phase direction policy timeout = (h, refuse .range) := by
  unfold Hub.triggerSet
  split
  case h_1 src dir pol hasSource hasDirection hasPolicy =>
    have sourceListed : source < 6 := lt_of_read hasSource
    have directionListed : direction < 3 := lt_of_read hasDirection
    have policyListed : policy < 2 := lt_of_read hasPolicy
    refine if_neg fun good => ?_
    simp only [Bool.and_eq_true, within_iff, decide_eq_true_eq] at good
    omega
  case h_2 => rfl

/-- The trigger table with the six values of a TRIGGER_SET, and no last fired point. -/
theorem Hub.triggerSet_of_good {src : TriggerSource} {dir : TriggerDirection} {pol : TriggerPolicy}
    (hasSource : readSource source = some src) (hasDirection : readDirection direction = some dir)
    (hasPolicy : readPolicy policy = some pol) (pitchLow : 1 ≤ pitch) (pitchHigh : pitch ≤ 16777216) (inPitch : phase < pitch)
    (timeoutLow : 1 ≤ timeout) (timeoutHigh : timeout ≤ 2000) :
    h.triggerSet p source pitch phase direction policy timeout =
      (h.modTrig p fun t =>
        { t with
          source := src, pitch := pitch, phase := phase, direction := dir, policy := pol, timeout := timeout
          lastFired := none },
        okWith (u8 source ++ u32 pitch ++ u32 phase ++ u8 direction ++ u8 policy ++ u16 timeout)) := by
  have sourceByte : sourceCode src = u8 source := code_of_read (by rfl) hasSource
  have directionByte : directionCode dir = u8 direction := code_of_read (by rfl) hasDirection
  have policyByte : policyCode pol = u8 policy := code_of_read (by rfl) hasPolicy
  simp only [Hub.triggerSet, hasSource, hasDirection, hasPolicy, within_iff.mpr ⟨pitchLow, pitchHigh⟩, decide_eq_true inPitch,
    within_iff.mpr ⟨timeoutLow, timeoutHigh⟩, Bool.and_true, if_true, Hub.modTrig_tg_same, PortTrigger.tableBytes, sourceByte,
    directionByte, policyByte]

end

end

/-! ## Line edges (R107) -/

section
variable {t : TriggerLine} {now : HubTime}

/-- A rise of an idle low line begins its filter time. -/
theorem TriggerLine.rise_of_idle (idle : t.filtering = none) (low : t.level = false) :
    t.rise now = { t with input := true, filtering := some (now, t.filter) } := by
  simp [TriggerLine.rise, idle, low]

theorem TriggerLine.rise_of_busy (busy : t.filtering ≠ none ∨ t.level = true) : t.rise now = { t with input := true } := by
  have keeps : (t.filtering.isNone && !t.level) = false := by simpa [Bool.and_eq_false_iff, imp_iff_not_or] using busy
  simp only [TriggerLine.rise, keeps, Bool.false_eq_true, if_false]

/-- A fall within the filter time is a glitch. -/
theorem TriggerLine.fall_of_filtering (filtering : t.filtering ≠ none) :
    t.fall = { t with input := false, filtering := none, glitches := t.glitches + 1 } :=
  if_pos (Option.isSome_iff_ne_none.mpr filtering)

theorem TriggerLine.fall_of_idle (idle : t.filtering = none) : t.fall = { t with input := false, level := false } := by
  simp [TriggerLine.fall, idle]

end

section
variable {s : State} {l : LineNo} {f : TriggerLine → TriggerLine}

theorem Hub.modLine_congr {h : Hub} {f g : TriggerLine → TriggerLine} (e : f (h.line l) = g (h.line l)) :
    h.modLine l f = h.modLine l g := by
  simp only [Hub.modLine, vmod_congr e]

theorem State.does_triggerLineRise (low : (s.hub.line l).input = false)
    (rise : (s.hub.line l).rise s.hub.time = f (s.hub.line l)) : s.Does (.triggerLineRise l) (s.hub.modLine l f) := by
  rw [← Hub.modLine_congr (f := fun t => t.rise s.hub.time) rise]
  exact State.does_of_when (f := fun h => h.modLine l fun t => t.rise h.time) rfl (by rw [low]; rfl)

theorem State.does_triggerLineFall (high : (s.hub.line l).input = true) (fall : (s.hub.line l).fall = f (s.hub.line l)) :
    s.Does (.triggerLineFall l) (s.hub.modLine l f) := by
  rw [← Hub.modLine_congr fall]
  exact State.does_of_when (f := fun h => h.modLine l TriggerLine.fall) rfl high

/-- A rise of an input that is high changes nothing. -/
theorem State.next_triggerLineRise (high : (s.hub.line l).input = true) : exec (.triggerLineRise l) s = .next s :=
  State.next_of_not_when (f := fun h => h.modLine l fun t => t.rise h.time) rfl (by rw [high]; rfl)

theorem State.next_triggerLineFall (low : (s.hub.line l).input = false) : exec (.triggerLineFall l) s = .next s :=
  State.next_of_not_when (f := fun h => h.modLine l TriggerLine.fall) rfl low

end

/-! ## The deadline of an outstanding trigger (R118) -/

theorem Hub.triggerDue_iff {h : Hub} {p : Port} : h.triggerDue p = true ↔
    ∃ fired id moving sent deadline, (h.tg p).hand = .outstanding fired id moving sent deadline ∧
      elapsed deadline sent ≤ elapsed h.time sent := by
  unfold Hub.triggerDue
  split
  next outstanding => simp [outstanding, reachedFrom, passed]
  next other =>
    simp only [Bool.false_eq_true, false_iff]
    rintro ⟨fired, id, moving, sent, deadline, hand, -⟩
    exact other _ _ _ _ _ hand

theorem State.next_triggerTimeout {s : State} {p : Port} (early : ¬ s.hub.triggerDue p = true) :
    exec (.triggerTimeout p) s = .next s :=
  State.next_of_not_when (f := fun h => h.triggerTimeout p) rfl (Bool.eq_false_iff.mpr early)

/-- Settles O51: each request and each event has its equation, by what it names or by what it finds. -/
theorem triggerSettingsAndLines : Obligations.TriggerSettingsAndLines := by
  intro s r pkt p l value line filter source pitch phase direction policy timeout src dir pol
  refine ⟨fun asked lt => ?encoder, fun asked => ⟨fun bad => ?lineRefused, fun e low high => ?lineSet⟩,
    fun asked => ⟨fun bad => ?triggerRefused,
      fun hasSource hasDirection hasPolicy pitchLow pitchHigh inPitch timeoutLow timeoutHigh => ?triggerSet⟩,
    fun low => ⟨fun idle level => ?rise, fun busy => ?riseAgain, State.next_triggerLineFall low⟩,
    fun high => ⟨fun filtering => ?glitch, fun idle => ?fall, State.next_triggerLineRise high⟩,
    fun fired id moving sent deadline hand => ⟨fun due => ?timeout, fun early => ?early⟩, fun other => ?other⟩
  case encoder => exact State.answers_forHub rfl rfl asked (Hub.encoderSet_eq lt)
  case lineRefused => exact State.answers_forHub rfl rfl asked (Hub.triggerLineSet_of_bad bad)
  case lineSet =>
    subst e
    exact State.answers_forHub rfl rfl asked (Hub.triggerLineSet_of_good low high)
  case triggerRefused => exact State.answers_forPort rfl rfl asked (Hub.triggerSet_of_bad bad)
  case triggerSet =>
    exact State.answers_forPort rfl rfl asked
      (Hub.triggerSet_of_good hasSource hasDirection hasPolicy pitchLow pitchHigh inPitch timeoutLow timeoutHigh)
  case rise => exact State.does_triggerLineRise low (TriggerLine.rise_of_idle idle level)
  case riseAgain => exact State.does_triggerLineRise low (TriggerLine.rise_of_busy busy)
  case glitch => exact State.does_triggerLineFall high (TriggerLine.fall_of_filtering filtering)
  case fall => exact State.does_triggerLineFall high (TriggerLine.fall_of_idle idle)
  case timeout =>
    have reached : s.hub.triggerDue p = true := Hub.triggerDue_iff.mpr ⟨_, _, _, _, _, hand, due⟩
    exact State.does_of_when (f := fun h => h.triggerTimeout p) rfl reached
  case early =>
    refine State.next_triggerTimeout fun reached => ?_
    obtain ⟨_, _, _, _, _, found, due⟩ := Hub.triggerDue_iff.mp reached
    rw [hand] at found
    cases found
    exact absurd due (not_le.mpr early)
  case other =>
    refine State.next_triggerTimeout fun reached => ?_
    obtain ⟨_, _, _, _, _, found, -⟩ := Hub.triggerDue_iff.mp reached
    exact other _ _ _ _ _ found

end Sys2Proof.Machine

/-! # Frame memory keeps its canonical form (log entry 8) -/

namespace Sys2Proof.Machine

/-! ## What leaves frame memory as it is -/

section
variable {s t : State}

theorem State.when_dram {c : Bool} {f : Hub → Hub} (e : s.when c f = .next t) : t.dram = s.dram := by
  rcases State.when_cases s t c f e with ⟨-, rfl⟩ | ⟨-, rfl⟩ <;> rfl

theorem State.takeLater_dram {c : ReqCode} {r : ReqHeader} {ps : List Byte} {owner : Byte → Hub → Hub × Option Reply}
    (e : s.takeLater c r ps owner = .next t) : t.dram = s.dram := by
  unfold State.takeLater at e
  split at e <;> cases e <;> rfl

theorem State.take_dram {c : ReqCode} {r : ReqHeader} {ps : List Byte} {owner : Byte → Hub → Hub × Reply}
    (e : s.take c r ps owner = .next t) : t.dram = s.dram := State.takeLater_dram e

end

/-! ## The events of a frame: what they write keeps the form -/

section
variable {s t : State} {p : Port} (wf : s.dram.wf = true)
include wf

theorem State.frameCutOff_wf : (s.frameCutOff p).dram.wf = true := by
  unfold State.frameCutOff
  split
  · exact PortFrames.conceal_wf _ _ wf
  · exact wf

theorem State.frameStart_wf (number width height id : Nat) : (s.frameStart p number width height id).dram.wf = true := by
  unfold State.frameStart
  split
  · exact wf
  · show (if _ then _ else _ : State).dram.wf = true
    split
    · exact State.frameCutOff_wf wf
    · exact wf

theorem State.storeLine_wf (c : FrameContext) (number : Nat) (pixels : List Nat) :
    (s.storeLine p c number pixels).dram.wf = true := by
  unfold State.storeLine
  dsimp only
  split
  · exact Memory.wf_writeBytes _ _ _ wf
  · exact wf
  · exact wf

theorem State.line_wf (number : Nat) (pixels : List Nat) : (s.line p number pixels).dram.wf = true := by
  unfold State.line
  split
  · exact wf
  · split
    · exact wf
    · exact State.storeLine_wf wf _ _ _

theorem State.frameEnd_wf (linesSent status : Nat) : (s.frameEnd p linesSent status).dram.wf = true := by
  unfold State.frameEnd
  split
  · exact wf
  · unfold State.frameEnded
    split
    · exact PortFrames.conceal_wf _ _ wf
    · exact wf

theorem execFrameStart_wf {number width height id : Nat} (e : execFrameStart p number width height id s = .next t) :
    t.dram.wf = true := by
  unfold execFrameStart at e
  split at e <;> cases e
  · exact State.frameStart_wf wf _ _ _ _
  · exact wf

theorem execLine_wf {number : Nat} {pixels : List Nat} (e : execLine p number pixels s = .next t) : t.dram.wf = true := by
  unfold execLine at e
  split at e <;> cases e
  · exact State.line_wf wf _ _
  · exact wf

theorem execFrameEnd_wf {linesSent status : Nat} (e : execFrameEnd p linesSent status s = .next t) : t.dram.wf = true := by
  unfold execFrameEnd at e
  split at e <;> cases e
  · exact State.frameEnd_wf wf _ _
  · exact wf

theorem execFillDeadline_wf (e : execFillDeadline p s = .next t) : t.dram.wf = true := by
  unfold execFillDeadline at e
  split at e <;> cases e
  · exact PortFrames.conceal_wf _ _ wf
  · exact wf

end

/-! ## Every command -/

/-- The commands that may write frame memory: the packets of a frame, and its fill deadline (R33 to R35, R129). -/
def writesFrames : Instr → Bool
  | .frameStart .. | .line .. | .frameEnd .. | .fillDeadline .. => true
  | _ => false

/-- Every other command leaves frame memory as it is: it is an event at the hub alone, or the taking of a request. -/
theorem exec_dram {i : Instr} {s t : State} (other : writesFrames i = false) (e : exec i s = .next t) : t.dram = s.dram := by
  cases i with
  | frameStart | line | frameEnd | fillDeadline => simp [writesFrames] at other
  | coldReset | supplySample | encoderStep => cases e; rfl
  | badRequest =>
    simp only [exec, execBadRequest] at e
    split at e <;> cases e <;> rfl
  | settlingEnd =>
    simp only [exec, execSettlingEnd] at e
    split at e <;> cases e <;> rfl
  | shot =>
    simp only [exec, execShot] at e
    split at e <;> cases e <;> rfl
  | repeatIntervalEnd =>
    simp only [exec, execRepeatIntervalEnd] at e
    split at e <;> cases e <;> rfl
  | trunkUp | trunkLoss | requestPacketReceived | packetSendEnd | imageQueueTakesPacket | answeredSlotReplyOffer
  | passThroughTimeout | detectionEnd | rampOutputReached | rampFail | overcurrentRise | overcurrentFall | trip | hardShort
  | cooldownEnd | trainingAttemptEnd | lockReply | lossOfLock | errorWindowEnd | badUpstreamPacket | ack | ackWaitEnd
  | downstreamMessageSent | attrReply | lensReport | lensDeadline | triggerTimeout | triggerLineRise | triggerLineFall
  | filterTimeEnd => exact State.when_dram e
  | attrRead | attrWrite => exact State.takeLater_dram e
  | identify | timeRead | partReset | readEvents | noticeSet | isolate | portRead | linkSet | linkTest | dropHistoryRead
  | budgetSet | portPowerSet | powerOn | powerOff | lensProfileLoad | lensHome | lensMove | lensStop | focusTableLoad
  | lensFocusDistance | lensRead | encoderSet | triggerLineSet | triggerSet | triggerSoft | triggerRead | cableTypeSet
  | portCableSet | autoSweepSet | sweepRequest | sweepCancel | faultClear | faultRead | ringSet | frameHold | frameRelease
  | frameList | viewLoad | viewBind | viewUnbind | coefSelect | coefWrite | frameResend | pipeReset | egressSet =>
    exact State.take_dram e

theorem exec_memoryForm {i : Instr} {s t : State} (wf : s.dram.wf = true) (e : exec i s = .next t) : t.dram.wf = true := by
  cases writes : writesFrames i with
  | false => rwa [exec_dram writes e]
  | true =>
    cases i with
    | frameStart => exact execFrameStart_wf wf e
    | line => exact execLine_wf wf e
    | frameEnd => exact execFrameEnd_wf wf e
    | fillDeadline => exact execFillDeadline_wf wf e
    | _ => simp [writesFrames] at writes

/-- Settles O6: a line and a concealment write bytes within frame memory, and nothing else writes any. -/
theorem memoryFormKept : Obligations.MemoryFormKept := by
  intro s t wf e
  unfold step at e
  split at e
  case h_1 => cases e; exact wf
  case h_2 i rest _ => exact exec_memoryForm (s := { s with pending := rest }) wf e

end Sys2Proof.Machine

/-! # Frame records and work lists (R123, R124, R126, R130, R132, R146): the law at one port, and the relation that keeps it -/

namespace Sys2Proof.Machine

/-! ## Records in their ring -/

/-- A record's place (R124, R126): the serial that names it, its first byte and its size. -/
structure Place where
  serial : Nat
  offset : Nat
  size : Nat

/-- The place of a record. -/
def FrameRecord.place (r : FrameRecord) : Place := ⟨r.serial, r.offset, r.size⟩

/-- Two places share no byte. -/
def Place.apart (a b : Place) : Prop := a.offset + a.size ≤ b.offset ∨ b.offset + b.size ≤ a.offset

/-- At most 8 places, of different serials below the next one, apart from one another in a ring of so many bytes. -/
structure PlacesFit (places : List Place) (next bytes : Nat) : Prop where
  serials : (places.map (·.serial)).Nodup
  older : ∀ x ∈ places, x.serial < next
  few : places.length ≤ 8
  inside : ∀ x ∈ places, x.offset + x.size ≤ bytes
  apart : places.Pairwise Place.apart

theorem PlacesFit.nil {next bytes : Nat} : PlacesFit [] next bytes :=
  ⟨List.nodup_nil, nofun, Nat.zero_le _, nofun, List.Pairwise.nil⟩

theorem PlacesFit.sublist {a b : List Place} {next bytes : Nat} (fit : PlacesFit b next bytes) (sub : a.Sublist b) :
    PlacesFit a next bytes where
  serials := fit.serials.sublist (sub.map _)
  older x m := fit.older x (sub.subset m)
  few := sub.length_le.trans fit.few
  inside x m := fit.inside x (sub.subset m)
  apart := fit.apart.sublist sub

/-- A new place takes the next serial. -/
theorem PlacesFit.append {places : List Place} {new : Place} {next bytes : Nat} (fit : PlacesFit places next bytes)
    (serial : new.serial = next) (room : places.length < 8) (inside : new.offset + new.size ≤ bytes)
    (apart : ∀ x ∈ places, x.apart new) : PlacesFit (places ++ [new]) (next + 1) bytes where
  serials := by
    simp only [List.map_append, List.map_cons, List.map_nil, List.nodup_append, List.mem_map, List.mem_singleton]
    refine ⟨fit.serials, List.nodup_singleton _, ?_⟩
    rintro _ ⟨x, m, rfl⟩ _ rfl
    exact (serial ▸ fit.older x m).ne
  older x m := by
    rcases List.mem_append.mp m with m | m
    · exact Nat.lt_succ_of_lt (fit.older x m)
    · cases List.mem_singleton.mp m; omega
  few := by simp; omega
  inside x m := by
    rcases List.mem_append.mp m with m | m
    · exact fit.inside x m
    · cases List.mem_singleton.mp m; exact inside
  apart := List.pairwise_append.mpr ⟨fit.apart, List.pairwise_singleton _ _, fun x m y n => by
    cases List.mem_singleton.mp n; exact apart x m⟩

theorem PortFrames.placed_iff {f : PortFrames} :
    f.Placed ↔ PlacesFit (f.table.map FrameRecord.place) f.nextSerial f.ringBytes ∧ f.heldCount ≤ 4 := by
  have serials : (f.table.map FrameRecord.place).map (·.serial) = f.table.map (·.serial) := by
    rw [List.map_map]; rfl
  constructor
  · rintro ⟨nodup, older, few, held, inside, apart⟩
    exact ⟨⟨serials ▸ nodup, List.forall_mem_map.mpr older, by rwa [List.length_map], List.forall_mem_map.mpr inside,
      List.pairwise_map.mpr apart⟩, held⟩
  · rintro ⟨⟨nodup, older, few, inside, apart⟩, held⟩
    exact ⟨serials ▸ nodup, List.forall_mem_map.mp older, by rwa [List.length_map] at few, held,
      List.forall_mem_map.mp inside, List.pairwise_map.mp apart⟩

theorem PortFrames.Placed.serials {f : PortFrames} (l : f.Placed) : (f.table.map (·.serial)).Nodup := l.1

/-- Records may go, and those that stay keep their places. -/
theorem PortFrames.Placed.of_sublist {f f' : PortFrames} (l : f.Placed)
    (sub : (f'.table.map FrameRecord.place).Sublist (f.table.map FrameRecord.place))
    (same : f'.ringLength = f.ringLength ∧ f'.nextSerial = f.nextSerial) (held : f'.heldCount ≤ 4) : f'.Placed := by
  obtain ⟨length, next⟩ := same
  obtain ⟨fit, -⟩ := PortFrames.placed_iff.mp l
  refine PortFrames.placed_iff.mpr ⟨?_, held⟩
  rw [next, PortFrames.ringBytes, length]
  exact fit.sublist sub

theorem PortFrames.Placed.held {f : PortFrames} (l : f.Placed) : f.heldCount ≤ 4 := (PortFrames.placed_iff.mp l).2

theorem PortFrames.Placed.eq_of_serial {f : PortFrames} (l : f.Placed) {r x : FrameRecord} (mr : r ∈ f.table)
    (mx : x ∈ f.table) (same : r.serial = x.serial) : r = x := List.inj_on_of_nodup_map l.serials mr mx same

theorem PortFrames.heldCount_eq (f : PortFrames) : f.heldCount = f.table.countP (·.held) :=
  (List.countP_eq_length_filter ..).symm

theorem PortFrames.heldCount_map {f f' : PortFrames} {g : FrameRecord → FrameRecord} (table : f'.table = f.table.map g)
    (held : ∀ r ∈ f.table, (g r).held = true → r.held = true) : f'.heldCount ≤ f.heldCount := by
  rw [f'.heldCount_eq, f.heldCount_eq, table, List.countP_map]
  exact List.countP_mono_left held

theorem PortFrames.heldCount_filter {f f' : PortFrames} {keep : FrameRecord → Bool} (table : f'.table = f.table.filter keep) :
    f'.heldCount ≤ f.heldCount := by
  rw [PortFrames.heldCount, table]
  exact (List.filter_sublist.filter _).length_le

/-! ## Work lists and records -/

/-- A record that an item of a work list may name (R130, R132): not retained, and COMPLETE, SENDING, or SENT where the item
is a resend. -/
def FrameRecord.serves (r : FrameRecord) (item : WorkItem) : Prop :=
  r.retained = false ∧ (r.state = .complete ∨ r.state = .sending ∨ r.state = .sent ∧ item.resend ≠ none)

/-- The resends of a record that a work list holds, in their order (R132, R152). -/
def resendsOf (work : List WorkItem) (serial : Nat) : List (Fin 16) :=
  (work.filter fun item => item.serial = serial).filterMap (·.resend)

/-- A work list and a frame table agree: the law `Hub.WorkHolds` at one port. -/
structure WorkAgrees (q : Pipeline) (f : PortFrames) : Prop where
  idle : q.phase = .idle → q.plan = none
  first : q.work.Pairwise fun a b => b.resend = none → a.serial ≠ b.serial
  named : ∀ item ∈ q.work, ∃ r ∈ f.table, r.serial = item.serial ∧ r.serves item
  aside : ∀ r ∈ f.table, r.retained = true → r.state = .sent
  pending : ∀ r ∈ f.table, resendsOf q.work r.serial = r.resends

theorem Hub.workHolds_iff {h : Hub} : h.WorkHolds ↔ ∀ p, WorkAgrees (h.pl p) (h.fr p) := by
  constructor
  · intro l p
    obtain ⟨idle, first, named, records⟩ := l p
    exact ⟨idle, first, named, fun r m => (records r m).1, fun r m => (records r m).2⟩
  · intro l p
    obtain ⟨idle, first, named, aside, pending⟩ := l p
    exact ⟨idle, first, named, fun r m => ⟨aside r m, pending r m⟩⟩

theorem mem_resendsOf {work : List WorkItem} {item : WorkItem} {v : Fin 16} (m : item ∈ work) (resend : item.resend = some v) :
    v ∈ resendsOf work item.serial :=
  List.mem_filterMap.mpr ⟨item, List.mem_filter.mpr ⟨m, decide_eq_true rfl⟩, resend⟩

theorem resendsOf_append (a b : List WorkItem) (serial : Nat) :
    resendsOf (a ++ b) serial = resendsOf a serial ++ resendsOf b serial := by simp [resendsOf]

theorem resendsOf_cons_same (item : WorkItem) (work : List WorkItem) :
    resendsOf (item :: work) item.serial = item.resend.toList ++ resendsOf work item.serial := by
  cases resend : item.resend <;> simp [resendsOf, resend]

theorem resendsOf_cons_ne {item : WorkItem} {serial : Nat} (other : item.serial ≠ serial) (work : List WorkItem) :
    resendsOf (item :: work) serial = resendsOf work serial := by simp [resendsOf, other]

/-- No item names the serial. -/
theorem resendsOf_eq_nil {work : List WorkItem} {serial : Nat} (none : ∀ item ∈ work, item.serial ≠ serial) :
    resendsOf work serial = [] := by
  have empty : (work.filter fun item => item.serial = serial) = [] := by simpa using none
  rw [resendsOf, empty]
  rfl

section
variable {q : Pipeline} {f : PortFrames} (l : f.Placed) (w : WorkAgrees q f)
include l w

/-- A record whose serial an item carries is the one that the item names. -/
theorem WorkAgrees.serves {item : WorkItem} {r : FrameRecord} (m : item ∈ q.work) (mr : r ∈ f.table)
    (same : item.serial = r.serial) : r.serves item := by
  obtain ⟨x, mx, serial, serves⟩ := w.named item m
  cases l.eq_of_serial mx mr (serial.trans same)
  exact serves

/-- An item names no record that is set aside, is being filled, or is SENT with no pending resend. -/
theorem WorkAgrees.unnamed {r : FrameRecord} (mr : r ∈ f.table)
    (free : r.retained = true ∨ r.state = .filling ∨ r.state = .sent ∧ r.resends = []) :
    ∀ item ∈ q.work, item.serial ≠ r.serial := by
  intro item m same
  obtain ⟨retained, state⟩ := WorkAgrees.serves l w m mr same
  rcases free with free | free | ⟨sent, empty⟩
  · simp [free] at retained
  · simp [free] at state
  · obtain ⟨v, resend⟩ := Option.ne_none_iff_exists'.mp (show item.resend ≠ none by simpa [sent] using state)
    have pending := mem_resendsOf m resend
    rw [same, w.pending r mr, empty] at pending
    exact List.not_mem_nil pending

end

/-! ## The relation -/

/-- From one state of a port's frames and pipeline to another, the ring is the same, the records stay placed, and the work list
still agrees with them. -/
structure FramesPass (f : PortFrames) (q : Pipeline) (f' : PortFrames) (q' : Pipeline) : Prop where
  ring : f'.ringStart = f.ringStart ∧ f'.ringLength = f.ringLength
  placed : f.Placed → f'.Placed
  work : f.Placed → WorkAgrees q f → WorkAgrees q' f'

/-- From h to h', every port's rings, records and work list keep their laws. -/
structure Hub.FramesKept (h h' : Hub) : Prop where
  ports : ∀ p, FramesPass (h.fr p) (h.pl p) (h'.fr p) (h'.pl p)

theorem FramesPass.refl (f : PortFrames) (q : Pipeline) : FramesPass f q f q := ⟨⟨rfl, rfl⟩, id, fun _ => id⟩

theorem FramesPass.trans {f f' f'' : PortFrames} {q q' q'' : Pipeline} (a : FramesPass f q f' q') (b : FramesPass f' q' f'' q'') :
    FramesPass f q f'' q'' where
  ring := ⟨b.ring.1.trans a.ring.1, b.ring.2.trans a.ring.2⟩
  placed := b.placed ∘ a.placed
  work l w := b.work (a.placed l) (a.work l w)

theorem WorkAgrees.of_table {q : Pipeline} {f f' : PortFrames} (w : WorkAgrees q f) (table : f'.table = f.table) : WorkAgrees q f' :=
  ⟨w.idle, w.first, table ▸ w.named, table ▸ w.aside, table ▸ w.pending⟩

/-- A pipeline with the same items: its phase, its plan or its taken FRAME_CLOSEs have changed. -/
theorem FramesPass.of_work {f : PortFrames} {q q' : Pipeline} (work : q'.work = q.work)
    (idle : (q.phase = .idle → q.plan = none) → q'.phase = .idle → q'.plan = none) : FramesPass f q f q' where
  ring := ⟨rfl, rfl⟩
  placed := id
  work _ w := ⟨idle w.idle, work ▸ w.first, work ▸ w.named, w.aside, work ▸ w.pending⟩

/-- Items of the frame unit that the laws do not read have changed. -/
theorem FramesPass.of_table {f f' : PortFrames} {q : Pipeline} (table : f'.table = f.table) (next : f'.nextSerial = f.nextSerial)
    (ring : f'.ringStart = f.ringStart ∧ f'.ringLength = f.ringLength) : FramesPass f q f' q where
  ring := ring
  placed l := l.of_sublist (by rw [table]) ⟨ring.2, next⟩ (by
    rw [PortFrames.heldCount, table]
    exact l.held)
  work _ w := w.of_table table

/-- Items of records that the laws do not read have changed. -/
theorem FramesPass.map {f f' : PortFrames} {q : Pipeline} {g : FrameRecord → FrameRecord} (table : f'.table = f.table.map g)
    (next : f'.nextSerial = f.nextSerial) (ring : f'.ringStart = f.ringStart ∧ f'.ringLength = f.ringLength)
    (place : ∀ r, (g r).place = r.place)
    (alike : ∀ r, (g r).held = r.held ∧ (g r).retained = r.retained ∧ (g r).state = r.state ∧ (g r).resends = r.resends) :
    FramesPass f q f' q where
  ring := ring
  placed l := by
    refine l.of_sublist ?_ ⟨ring.2, next⟩ ?_
    · rw [table, List.map_map, show FrameRecord.place ∘ g = FrameRecord.place from funext place]
    · have held := PortFrames.heldCount_map table fun r _ h => (alike r).1 ▸ h
      exact held.trans l.held
  work _ w := by
    have serial (r : FrameRecord) : (g r).serial = r.serial := congrArg Place.serial (place r)
    refine ⟨w.idle, w.first, fun item m => ?_, ?_, ?_⟩
    · obtain ⟨r, mr, same, serves⟩ := w.named item m
      obtain ⟨-, retained, state, -⟩ := alike r
      exact ⟨g r, table ▸ List.mem_map_of_mem mr, (serial r).trans same, by rwa [FrameRecord.serves, retained, state]⟩
    all_goals
      rw [table, List.forall_mem_map]
      intro r mr
      obtain ⟨-, retained, state, resends⟩ := alike r
    · rw [retained, state]
      exact w.aside r mr
    · rw [serial, resends]
      exact w.pending r mr

/-- Records that no item names have left the table. -/
theorem FramesPass.filter {f f' : PortFrames} {q : Pipeline} {keep : FrameRecord → Bool} (table : f'.table = f.table.filter keep)
    (next : f'.nextSerial = f.nextSerial) (ring : f'.ringStart = f.ringStart ∧ f'.ringLength = f.ringLength)
    (unnamed : f.Placed → WorkAgrees q f → ∀ r ∈ f.table, keep r = false → ∀ item ∈ q.work, item.serial ≠ r.serial) :
    FramesPass f q f' q where
  ring := ring
  placed l := by
    refine l.of_sublist ?_ ⟨ring.2, next⟩ ((PortFrames.heldCount_filter table).trans l.held)
    rw [table]
    exact List.filter_sublist.map _
  work l w := by
    have stays {r : FrameRecord} (m : r ∈ f'.table) : r ∈ f.table := (List.mem_filter.mp (table ▸ m)).1
    refine ⟨w.idle, w.first, fun item m => ?_, fun r m => w.aside r (stays m), fun r m => w.pending r (stays m)⟩
    obtain ⟨r, mr, same, serves⟩ := w.named item m
    refine ⟨r, ?_, same, serves⟩
    rw [table, List.mem_filter]
    refine ⟨mr, ?_⟩
    by_contra gone
    exact unnamed l w r mr (by simpa using gone) item m same.symm

/-! ## The relation over the hub -/

theorem Hub.FramesKept.of_same {h h' : Hub} (frames : h'.frames = h.frames) (pipe : h'.pipe = h.pipe) : h.FramesKept h' := by
  refine ⟨fun p => ?_⟩
  rw [show h'.fr p = h.fr p by rw [Hub.fr, frames, Hub.fr], show h'.pl p = h.pl p by rw [Hub.pl, pipe, Hub.pl]]
  exact .refl _ _

theorem Hub.FramesKept.refl (h : Hub) : h.FramesKept h := .of_same rfl rfl

theorem Hub.FramesKept.trans {a b c : Hub} (h : a.FramesKept b) (k : b.FramesKept c) : a.FramesKept c :=
  ⟨fun p => (h.ports p).trans (k.ports p)⟩

/-- An operation that keeps the laws comes after one that leaves frames and pipelines as they are. -/
theorem Hub.FramesKept.after {h k h' : Hub} (kept : k.FramesKept h') (frames : k.frames = h.frames) (pipe : k.pipe = h.pipe) :
    h.FramesKept h' := (Hub.FramesKept.of_same frames pipe).trans kept

theorem Hub.FramesKept.modFrames {h : Hub} {p : Port} {f : PortFrames → PortFrames}
    (own : FramesPass (h.fr p) (h.pl p) (f (h.fr p)) (h.pl p)) : h.FramesKept (h.modFrames p f) := by
  refine ⟨fun q => ?_⟩
  by_cases e : q = p
  · subst e; simpa using own
  · rw [Hub.modFrames_fr_ne _ _ _ e]; exact .refl _ _

theorem Hub.FramesKept.modPipe {h : Hub} {p : Port} {f : Pipeline → Pipeline}
    (own : FramesPass (h.fr p) (h.pl p) (h.fr p) (f (h.pl p))) : h.FramesKept (h.modPipe p f) := by
  refine ⟨fun q => ?_⟩
  by_cases e : q = p
  · subst e; simpa using own
  · rw [Hub.modPipe_pl_ne _ _ _ e]; exact .refl _ _

/-- A port's frames and its pipeline change together. -/
theorem Hub.FramesKept.modBoth {h : Hub} {p : Port} {f : PortFrames → PortFrames} {g : Pipeline → Pipeline}
    (own : FramesPass (h.fr p) (h.pl p) (f (h.fr p)) (g (h.pl p))) : h.FramesKept ((h.modFrames p f).modPipe p g) := by
  refine ⟨fun q => ?_⟩
  by_cases e : q = p
  · subst e; simpa using own
  · rw [Hub.modPipe_pl_ne _ _ _ e, Hub.modPipe_fr, Hub.modFrames_fr_ne _ _ _ e]; exact .refl _ _

/-- The law of the rings and their records, and where it is asked for, that of the work lists. -/
structure Hub.FrameLaws (work : Prop) (h : Hub) : Prop where
  frames : h.FramesHold
  agree : work → h.WorkHolds

theorem Hub.FramesKept.laws {h h' : Hub} {work : Prop} (k : h.FramesKept h') (l : h.FrameLaws work) : h'.FrameLaws work := by
  obtain ⟨⟨apart, placed⟩, agree⟩ := l
  refine ⟨⟨fun p q other => ?_, fun p => (k.ports p).placed (placed p)⟩, fun asked => Hub.workHolds_iff.mpr fun p =>
    (k.ports p).work (placed p) (Hub.workHolds_iff.mp (agree asked) p)⟩
  obtain ⟨startP, lengthP⟩ := (k.ports p).ring
  obtain ⟨startQ, lengthQ⟩ := (k.ports q).ring
  rw [startP, lengthP, startQ, lengthQ]
  exact apart p q other

theorem Hub.FrameLaws.of_same {h h' : Hub} {work : Prop} (l : h.FrameLaws work) (frames : h'.frames = h.frames)
    (pipe : h'.pipe = h.pipe) : h'.FrameLaws work := (Hub.FramesKept.of_same frames pipe).laws l

end Sys2Proof.Machine

/-! # The operations on records and work lists keep their laws -/

namespace Sys2Proof.Machine

/-! ## Records marked, and records gone -/

theorem Hub.degradeFilling_framesKept (h : Hub) (p : Port) : h.FramesKept (h.degradeFilling p) := by
  refine .modFrames (.map rfl rfl ⟨rfl, rfl⟩ (fun r => ?_) fun r => ?_) <;> split <;> trivial

theorem Hub.closesLost_framesKept (h : Hub) (p : Port) : h.FramesKept (h.closesLost p) := by
  refine Hub.FramesKept.trans (.modFrames (.map rfl rfl ⟨rfl, rfl⟩ (fun r => ?_) fun r => ?_))
    (.modPipe (.of_work rfl fun idle => idle)) <;> split <;> trivial

theorem Hub.checkRelease_framesKept (h : Hub) (p : Port) (serial : Nat) : h.FramesKept (h.checkRelease p serial) := by
  refine .modFrames (.filter rfl rfl ⟨rfl, rfl⟩ fun l w r m gone => WorkAgrees.unnamed l w m (.inr (.inr ?_)))
  simp only [FrameRecord.releasable, Bool.not_eq_eq_eq_not, Bool.not_false, Bool.and_eq_true, decide_eq_true_eq] at gone
  obtain ⟨-, ⟨⟨sent, -⟩, empty⟩, -⟩ := gone
  exact ⟨sent, by simpa using empty⟩

theorem PortFrames.releaseRetained_pass (f : PortFrames) (q : Pipeline) : FramesPass f q f.releaseRetained q := by
  refine .filter rfl rfl ⟨rfl, rfl⟩ fun l w r m gone => WorkAgrees.unnamed l w m (.inl ?_)
  simp only [Bool.not_eq_eq_eq_not, Bool.not_false, Bool.and_eq_true] at gone
  exact gone.1.1

/-- The record being filled is removed at a drop (R131); no item names it. -/
theorem Hub.dropFrame_framesKept (h : Hub) (p : Port) : h.FramesKept (h.dropFrame p) := by
  unfold Hub.dropFrame
  split
  · exact .modFrames (.of_table rfl rfl ⟨rfl, rfl⟩)
  case h_2 x filling =>
    have filled : x.state = .filling := by simpa using List.find?_some filling
    have flagged (k : Hub) : k.FramesKept (k.flag p fFrameDrop) := .of_same (by simp) (by simp)
    refine Hub.FramesKept.trans (.modFrames (.filter rfl rfl ⟨rfl, rfl⟩ fun l w r m gone =>
      WorkAgrees.unnamed l w m (.inr (.inl ?_)))) (flagged _)
    rwa [l.eq_of_serial m (List.mem_of_find?_eq_some filling) (by simpa using gone)]

/-! ## One record replaced -/

/-- From f to f', the record of a serial is changed by g, and the ring and the other records stay. -/
structure PortFrames.Replaced (f f' : PortFrames) (serial : Nat) (g : FrameRecord → FrameRecord) : Prop where
  table : f'.table = f.table.map fun r => if r.serial = serial then g r else r
  next : f'.nextSerial = f.nextSerial
  ring : f'.ringStart = f.ringStart ∧ f'.ringLength = f.ringLength

theorem PortFrames.modRecord_replaced (f : PortFrames) (serial : Nat) (g : FrameRecord → FrameRecord) :
    f.Replaced (f.modRecord serial g) serial g := ⟨rfl, rfl, rfl, rfl⟩

section
variable {f f' : PortFrames} {g : FrameRecord → FrameRecord}

theorem PortFrames.Replaced.placed {serial : Nat} (t : f.Replaced f' serial g)
    (place : ∀ r ∈ f.table, r.serial = serial → (g r).place = r.place) (held : f'.heldCount ≤ 4) (l : f.Placed) :
    f'.Placed := by
  have same : f'.table.map FrameRecord.place = f.table.map FrameRecord.place := by
    rw [t.table, List.map_map]
    refine List.map_congr_left fun r m => ?_
    rw [Function.comp_apply]
    split
    next e => exact place r m e
    next => rfl
  exact l.of_sublist (same ▸ List.Sublist.refl _) ⟨t.ring.2, t.next⟩ held

theorem PortFrames.Replaced.heldCount_le {serial : Nat} (t : f.Replaced f' serial g)
    (held : ∀ r ∈ f.table, r.serial = serial → (g r).held = true → r.held = true) : f'.heldCount ≤ f.heldCount :=
  PortFrames.heldCount_map t.table fun r m h => by
    split at h
    next e => exact held r m e h
    next => exact h

variable {x : FrameRecord} (t : f.Replaced f' x.serial g) (l : f.Placed) (mx : x ∈ f.table)
include t l mx

theorem PortFrames.Replaced.mem {r : FrameRecord} : r ∈ f'.table ↔ r = g x ∨ r ∈ f.table ∧ r.serial ≠ x.serial := by
  rw [t.table, List.mem_map]
  constructor
  · rintro ⟨y, my, rfl⟩
    by_cases e : y.serial = x.serial
    · rw [if_pos e, l.eq_of_serial my mx e]; exact .inl rfl
    · rw [if_neg e]; exact .inr ⟨my, e⟩
  · rintro (rfl | ⟨mr, e⟩)
    · exact ⟨x, mx, if_pos rfl⟩
    · exact ⟨r, mr, if_neg e⟩

/-- The work list agrees with the changed table where its items of the other records are as they were, and those of the changed
one agree with what it has become. -/
theorem WorkAgrees.replaced {q q' : Pipeline} (w : WorkAgrees q f) (serial : (g x).serial = x.serial)
    (idle : q'.phase = .idle → q'.plan = none) (first : q'.work.Pairwise fun a b => b.resend = none → a.serial ≠ b.serial)
    (others : ∀ item ∈ q'.work, item.serial ≠ x.serial → item ∈ q.work)
    (same : ∀ serial, serial ≠ x.serial → resendsOf q'.work serial = resendsOf q.work serial)
    (own : ∀ item ∈ q'.work, item.serial = x.serial → (g x).serves item) (aside : (g x).retained = true → (g x).state = .sent)
    (pending : resendsOf q'.work x.serial = (g x).resends) : WorkAgrees q' f' := by
  refine ⟨idle, first, fun item m => ?_, fun r m => ?_, fun r m => ?_⟩
  · by_cases e : item.serial = x.serial
    · exact ⟨g x, (t.mem l mx).mpr (.inl rfl), serial.trans e.symm, own item m e⟩
    · obtain ⟨r, mr, named, serves⟩ := w.named item (others item m e)
      exact ⟨r, (t.mem l mx).mpr (.inr ⟨mr, named ▸ e⟩), named, serves⟩
  all_goals obtain rfl | ⟨mr, e⟩ := (t.mem l mx).mp m
  · exact aside
  · exact w.aside r mr
  · rw [serial]; exact pending
  · rw [same _ e]; exact w.pending r mr

end

/-! ## Items -/

/-- A record whose output begins (R147). -/
def FrameRecord.outputBegun (r : FrameRecord) (cropEmpty : Bool) : FrameRecord :=
  { r with state := .sending, flags := r.flags ||| (if cropEmpty then flagCropEmpty else 0) }

theorem Hub.beginItem_eq (h : Hub) (p : Port) (item : WorkItem) (r : FrameRecord) :
    let plan := h.planFor (itemView item r) r
    h.beginItem p item r = { (h.modRecord p item.serial fun r => r.outputBegun plan.empty).modPipe p fun q =>
        { q with phase := .running, plan := some plan } with
      freeCount := if plan.empty then h.freeCount + 1 else h.freeCount } := by
  simp only [Hub.beginItem, FrameRecord.outputBegun]
  split <;> rfl

/-- The head item's record goes to SENDING as its output begins (R147). -/
theorem Hub.beginItem_framesKept {h : Hub} {p : Port} {item : WorkItem} {rest : List WorkItem} {x : FrameRecord}
    (work : (h.pl p).work = item :: rest) (record : (h.fr p).record item.serial = some x) :
    h.FramesKept (h.beginItem p item x) := by
  have mx : x ∈ (h.fr p).table := List.mem_of_find?_eq_some record
  have serial : item.serial = x.serial := by simpa [eq_comm] using List.find?_some record
  rw [Hub.beginItem_eq]
  dsimp only
  rw [serial]
  generalize h.planFor (itemView item x) x = plan
  have t := (h.fr p).modRecord_replaced x.serial fun r => r.outputBegun plan.empty
  have begun : h.FramesKept ((h.modRecord p x.serial fun r => r.outputBegun plan.empty).modPipe p fun q =>
      { q with phase := .running, plan := some plan }) := by
    refine .modBoth ⟨t.ring, fun l => t.placed (fun _ _ _ => rfl) ((t.heldCount_le fun _ _ _ h => h).trans l.held) l,
      fun l w => WorkAgrees.replaced t l mx w rfl (fun idle => nomatch idle) w.first (fun _ m _ => m) (fun _ _ => rfl)
        (fun i m e => ?_) (fun retained => ?_) (w.pending x mx)⟩
    · exact ⟨(WorkAgrees.serves l w m mx e).1, .inr (.inl rfl)⟩
    · have free := (WorkAgrees.serves l w (work ▸ List.mem_cons_self) mx serial).1
      simp [show x.retained = true from retained] at free
  exact begun.trans (.of_same rfl rfl)

/-- The head item ends: its record is SENT, and loses the resend that the item stood for (R132). -/
theorem Hub.endItem_framesKept (h : Hub) (p : Port) (flag : BitVec 32) : h.FramesKept (h.endItem p flag) := by
  unfold Hub.endItem
  split
  · exact .modPipe (.of_work rfl fun _ _ => rfl)
  case h_2 item rest work =>
    refine Hub.FramesKept.trans ?_ (Hub.checkRelease_framesKept _ p item.serial)
    have t := (h.fr p).modRecord_replaced item.serial fun r => r.outputEnded item flag
    refine .modBoth (g := fun q => { q with phase := .idle, work := rest, plan := none })
      ⟨t.ring, fun l => t.placed (fun _ _ _ => rfl) ((t.heldCount_le fun _ _ _ h => h).trans l.held) l, fun l w => ?_⟩
    have head : item ∈ (h.pl p).work := work ▸ List.mem_cons_self
    have tail {i : WorkItem} (m : i ∈ rest) : i ∈ (h.pl p).work := work ▸ List.mem_cons_of_mem _ m
    obtain ⟨x, mx, serial, -⟩ := w.named item head
    obtain ⟨behind, first⟩ := List.pairwise_cons.mp (work ▸ w.first)
    rw [← serial] at t ⊢
    have pending := w.pending x mx
    rw [serial, work, resendsOf_cons_same] at pending
    refine WorkAgrees.replaced (q' := { h.pl p with phase := .idle, work := rest, plan := none })
      t l mx w rfl (fun _ => rfl) first (fun i m _ => tail m) (fun n other => ?_) (fun i m e => ?_)
      (fun _ => rfl) ?_
    · rw [work, resendsOf_cons_ne (serial ▸ other.symm)]
    · refine ⟨(WorkAgrees.serves l w (tail m) mx e).1, .inr (.inr ⟨rfl, fun live => ?_⟩)⟩
      exact behind i m live (serial.symm.trans e.symm)
    · cases resend : item.resend with
      | none => simpa [FrameRecord.outputEnded, resend, serial] using pending
      | some v => simp [FrameRecord.outputEnded, resend, serial, ← pending]

/-! ## A pipeline's progress -/

section
variable {h : Hub} {p : Port}

theorem Hub.placeImage_framesKept (pkt : Packet) : h.FramesKept (h.placeImage p pkt) := .of_same rfl rfl

theorem Hub.planTaken_framesKept (f : OutputPlan → OutputPlan) : h.FramesKept (h.planTaken p f) :=
  .modPipe (.of_work rfl fun _ idle => nomatch idle)

theorem Hub.closeTaken_framesKept (serial : Nat) : h.FramesKept (h.closeTaken p serial) :=
  .modPipe (.of_work rfl fun idle => idle)

theorem Hub.pipeRun_framesKept (m : Memory) (p : Port) : ∀ (n : Nat) (h : Hub), h.FramesKept (Hub.pipeRun m p n h)
  | 0, h => .refl h
  | n + 1, h => by
    have later {k : Hub} (kept : h.FramesKept k) : h.FramesKept (Hub.pipeRun m p n k) :=
      kept.trans (Hub.pipeRun_framesKept m p n k)
    unfold Hub.pipeRun
    split
    · exact .refl h
    case h_2 item rest work =>
      split
      · exact later (h.endItem_framesKept p 0)
      case h_2 record =>
        split
        · split
          · exact later (Hub.beginItem_framesKept work record)
          · exact later (h.endItem_framesKept p flagTrunkLost)
        · split
          · exact .refl h
          · dsimp only
            split
            · have taken := Hub.placeImage_framesKept (h := h) (p := p)
              split
              · split
                · exact later ((taken _).trans (Hub.planTaken_framesKept _))
                · exact (taken _).trans (Hub.planTaken_framesKept _)
              · exact (taken _).trans (Hub.planTaken_framesKept _)
              · exact later (((taken _).trans (Hub.closeTaken_framesKept _)).trans (Hub.endItem_framesKept _ p 0))
            · exact .modPipe (.of_work rfl fun _ idle => nomatch idle)

theorem Hub.pipeAct_framesKept (h : Hub) (m : Memory) (p : Port) : h.FramesKept (h.pipeAct m p) :=
  Hub.pipeRun_framesKept m p _ h

theorem Hub.pipeWake_framesKept (h : Hub) (m : Memory) (p : Port) : h.FramesKept (h.pipeWake m p) := by
  unfold Hub.pipeWake
  split
  · exact h.pipeAct_framesKept m p
  · exact .refl h

theorem Hub.pipeTrunkLost_framesKept (h : Hub) (m : Memory) (p : Port) : h.FramesKept (h.pipeTrunkLost m p) := by
  unfold Hub.pipeTrunkLost
  dsimp only
  split
  · exact h.pipeWake_framesKept m p
  · exact (h.endItem_framesKept p flagTrunkLost).trans (Hub.pipeWake_framesKept _ m p)

theorem Hub.FramesKept.foldl {f : Hub → Port → Hub} (one : ∀ (h : Hub) (p : Port), h.FramesKept (f h p)) :
    ∀ (ps : List Port) (h : Hub), h.FramesKept (ps.foldl f h)
  | [], h => .refl h
  | p :: ps, h => (one h p).trans (Hub.FramesKept.foldl one ps (f h p))

end

/-! ## The arbiter and the trunk -/

section
variable {h : Hub}

theorem Hub.beginSend_framesKept (m : Memory) : h.FramesKept (h.beginSend m) := by
  unfold Hub.beginSend
  split
  · exact .refl h
  · split
    · exact .refl h
    · dsimp only
      split
      · split
        · exact (Hub.pipeAct_framesKept _ m _).after rfl rfl
        · exact .of_same rfl rfl
      · exact .of_same rfl rfl

theorem Hub.grantDecision_framesKept : h.FramesKept h.grantDecision := by
  unfold Hub.grantDecision
  dsimp only
  split
  · exact .refl h
  · exact .of_same rfl rfl

theorem Hub.settle_framesKept (m : Memory) : h.FramesKept (h.settle m) := by
  have arbitrated : h.FramesKept (h.arbitrate m) := by
    unfold Hub.arbitrate
    split
    · exact Hub.grantDecision_framesKept.trans (Hub.beginSend_framesKept m)
    · exact .refl h
  exact arbitrated.trans (.of_same rfl rfl)

theorem Hub.trunkReturns_framesKept (m : Memory) : h.FramesKept (h.trunkReturns m) := by
  have up : h.FramesKept ((h.modTrunk fun t => { t with up := true }).flagPart fTrunk) := .of_same (by simp) (by simp)
  unfold Hub.trunkReturns
  exact up.trans (.foldl (fun h p => h.pipeWake_framesKept m p) allPorts _)

/-- What a loss of the trunk does at the ports, before a part reset: the closes, the queues, and every pipeline (R164). -/
theorem Hub.drained_framesKept (m : Memory) : h.FramesKept
    (allPorts.foldl (fun h p => h.pipeTrunkLost m p) ((allPorts.foldl Hub.closesLost h).modTrunk Trunk.lose).offerDue) := by
  have closed : h.FramesKept (allPorts.foldl Hub.closesLost h) := .foldl (fun h p => h.closesLost_framesKept p) allPorts h
  generalize allPorts.foldl Hub.closesLost h = k at closed
  have emptied : k.FramesKept (k.modTrunk Trunk.lose).offerDue := .of_same (by simp) (by simp)
  exact (closed.trans emptied).trans (.foldl (fun h p => h.pipeTrunkLost_framesKept m p) allPorts _)

end

/-! ## Admission (R125 to R127) -/

section
variable {f : PortFrames} {w ht : Nat}

/-- A frame that no reason drops fits the ring, has a place in the table, and overlaps no record. -/
theorem PortFrames.room_of_admitted (admitted : f.dropReason w ht = none) :
    frameSize w ht ≤ f.ringBytes ∧ f.table.length < 8 ∧ ∀ r ∈ f.table,
      r.place.apart ⟨f.nextSerial, f.placement (frameSize w ht), frameSize w ht⟩ := by
  unfold PortFrames.dropReason at admitted
  dsimp only at admitted
  repeat' split at admitted
  iterate 4 contradiction
  next large few overlaps =>
    simp only [Bool.or_eq_true, decide_eq_true_eq, not_or, not_lt] at large
    refine ⟨large.2, by omega, fun r m => ?_⟩
    have apart : ¬ (f.placement (frameSize w ht) < r.offset + r.size ∧ r.offset < f.placement (frameSize w ht) + frameSize w ht) :=
      fun both => overlaps (PortFrames.overlaps_iff.mpr ⟨r, m, both⟩)
    simp only [FrameRecord.place, Place.apart]
    omega

theorem PortFrames.placement_inside {size : Nat} (fits : size ≤ f.ringBytes) : f.placement size + size ≤ f.ringBytes := by
  unfold PortFrames.placement
  split <;> omega

/-- An admitted frame's record is placed in the ring apart from the others, and no item names it. -/
theorem PortFrames.admitted_pass {f' : PortFrames} {q : Pipeline} {new : FrameRecord} (admitted : f.dropReason w ht = none)
    (table : f'.table = f.table ++ [new]) (next : f'.nextSerial = f.nextSerial + 1)
    (ring : f'.ringStart = f.ringStart ∧ f'.ringLength = f.ringLength)
    (place : new.place = ⟨f.nextSerial, f.placement (frameSize w ht), frameSize w ht⟩)
    (fresh : new.held = false ∧ new.retained = false ∧ new.resends = []) : FramesPass f q f' q where
  ring := ring
  placed l := by
    obtain ⟨fits, few, apart⟩ := PortFrames.room_of_admitted admitted
    obtain ⟨fit, held⟩ := PortFrames.placed_iff.mp l
    refine PortFrames.placed_iff.mpr ⟨?_, ?_⟩
    · rw [table, next, List.map_append, PortFrames.ringBytes, ring.2]
      refine fit.append (new := new.place) ?_ (by rwa [List.length_map]) ?_ ?_ <;> rw [place]
      · exact PortFrames.placement_inside fits
      · exact List.forall_mem_map.mpr apart
    · rw [PortFrames.heldCount, table, List.filter_append, List.length_append]
      simpa [fresh.1, PortFrames.heldCount] using held
  work l w := by
    obtain ⟨-, retained, resends⟩ := fresh
    have serial : new.serial = f.nextSerial := congrArg Place.serial place
    have mem {r : FrameRecord} : r ∈ f'.table ↔ r ∈ f.table ∨ r = new := by rw [table]; simp
    refine ⟨w.idle, w.first, fun item m => ?_, fun r m => ?_, fun r m => ?_⟩
    · obtain ⟨r, mr, named, serves⟩ := w.named item m
      exact ⟨r, mem.mpr (.inl mr), named, serves⟩
    all_goals obtain mr | rfl := mem.mp m
    · exact w.aside r mr
    · exact fun kept => by simp [retained] at kept
    · exact w.pending r mr
    · rw [resends]
      refine resendsOf_eq_nil fun item mi e => ?_
      obtain ⟨x, mx, named, -⟩ := w.named item mi
      have older := (PortFrames.placed_iff.mp l).1.older _ (List.mem_map_of_mem (f := FrameRecord.place) mx)
      simp only [FrameRecord.place] at older
      omega

theorem Hub.admitFrame_framesKept (h : Hub) (p : Port) (number w ht id : Nat) (res : Resolution) :
    h.FramesKept (h.admitFrame p number w ht id res) := by
  have released := (h.fr p).releaseRetained_pass (h.pl p)
  cases found : (h.fr p).releaseRetained.dropReason w ht with
  | some reason =>
    have flagged (k : Hub) : k.FramesKept (k.flag p fFrameDrop) := .of_same (by simp) (by simp)
    rw [Hub.admitFrame_of_drop found]
    refine Hub.FramesKept.trans (.modFrames (released.trans ?_)) (flagged _)
    cases reason <;> exact .of_table rfl rfl ⟨rfl, rfl⟩
  | none =>
    rw [Hub.admitFrame_of_admitted found]
    exact .modFrames (released.trans (PortFrames.admitted_pass found rfl rfl ⟨rfl, rfl⟩ rfl ⟨rfl, rfl, rfl⟩))

end

/-! ## Completion (R129, R130) -/

/-- A record that is set aside when its frame is completed becomes SENT and retained; another becomes COMPLETE. -/
theorem FrameRecord.completed_cases (r : FrameRecord) (cameraEnd : Option (Nat × Nat)) (truncated : Bool) :
    (r.completed cameraEnd truncated).state = .sent ∨
      (r.completed cameraEnd truncated).state = .complete ∧ (r.completed cameraEnd truncated).retained = r.retained := by
  simp only [FrameRecord.completed]
  generalize r.flags ||| (if truncated then flagTruncated else 0) ||| (if 0 < r.missing then flagConcealed else 0) = flags
  cases hasFlag flags flagSkipped || hasFlag flags flagNoView
  · exact .inr ⟨rfl, rfl⟩
  · exact .inl rfl

theorem resendsOf_live (serial other : Nat) : resendsOf [{ serial := serial, resend := none }] other = [] := by
  by_cases e : serial = other <;> simp [resendsOf, e]

/-- The FILLING record of a port is completed; one that is COMPLETE has its live item queued (R130). -/
theorem State.completeFrame_framesKept (s : State) (p : Port) {x : FrameRecord} (cameraEnd : Option (Nat × Nat))
    (truncated : Bool) (intake : Intake) (filling : (s.hub.fr p).filling = some x) :
    s.hub.FramesKept (s.completeFrame p x cameraEnd truncated intake).hub := by
  have mx : x ∈ (s.hub.fr p).table := List.mem_of_find?_eq_some filling
  have filled : x.state = .filling := by simpa using List.find?_some filling
  have outcome := x.completed_cases cameraEnd truncated
  obtain ⟨place, held, resends⟩ : (x.completed cameraEnd truncated).place = x.place ∧
    (x.completed cameraEnd truncated).held = x.held ∧ (x.completed cameraEnd truncated).resends = x.resends := ⟨rfl, rfl, rfl⟩
  unfold State.completeFrame
  dsimp only
  generalize x.completed cameraEnd truncated = done at outcome place held resends ⊢
  have t : (s.hub.fr p).Replaced { (s.hub.fr p).modRecord x.serial fun _ => done with intake := intake } x.serial
    fun _ => done := ⟨rfl, rfl, rfl, rfl⟩
  have placed (l : (s.hub.fr p).Placed) := t.placed (fun r m e => by rw [l.eq_of_serial m mx e, place])
    ((t.heldCount_le fun r m e h => by rwa [l.eq_of_serial m mx e, ← held]).trans l.held) l
  have serial : done.serial = x.serial := congrArg Place.serial place
  have unnamed (l : (s.hub.fr p).Placed) (w : WorkAgrees (s.hub.pl p) (s.hub.fr p)) :=
    WorkAgrees.unnamed l w mx (.inr (.inl filled))
  have fresh (w : WorkAgrees (s.hub.pl p) (s.hub.fr p)) : x.retained = false :=
    Bool.eq_false_iff.mpr fun kept => by simp [w.aside x mx kept] at filled
  split
  case isFalse other =>
    have sent : done.state = .sent := outcome.resolve_right fun complete => other complete.1
    exact .modFrames ⟨t.ring, placed, fun l w => WorkAgrees.replaced t l mx w serial w.idle w.first (fun _ m _ => m)
      (fun _ _ => rfl) (fun i m e => absurd e (unnamed l w i m)) (fun _ => sent) (resends ▸ w.pending x mx)⟩
  case isTrue complete =>
    have queued : s.hub.FramesKept ((s.hub.modFrames p fun f =>
        { f.modRecord x.serial fun _ => done with intake := intake }).modPipe p fun q =>
        { q with work := q.work ++ [{ serial := x.serial, resend := none }] }) := by
      refine .modBoth ⟨t.ring, placed, fun l w => ?_⟩
      have retained : done.retained = false := by
        rcases outcome with sent | ⟨-, same⟩
        · simp [sent] at complete
        · exact same.trans (fresh w)
      refine WorkAgrees.replaced (q' := { s.hub.pl p with work := _ ++ [⟨x.serial, none⟩] }) t l mx w serial w.idle ?_
        (fun i m e => ?_) (fun n _ => ?_) (fun i m e => ?_) (fun kept => ?_) ?_
      · refine List.pairwise_append.mpr ⟨w.first, List.pairwise_singleton _ _, fun a ma b mb _ => ?_⟩
        rw [List.mem_singleton.mp mb]
        exact unnamed l w a ma
      · rcases List.mem_append.mp m with m | m
        · exact m
        · exact absurd (by rw [List.mem_singleton.mp m]) e
      · rw [resendsOf_append, resendsOf_live, List.append_nil]
      · exact ⟨retained, .inl complete⟩
      · simp [retained] at kept
      · rw [resendsOf_append, resendsOf_live, List.append_nil, resends]
        exact w.pending x mx
    exact queued.trans (Hub.pipeWake_framesKept _ _ p)

end Sys2Proof.Machine

/-! # The requests and the packets of frames keep the laws of records and work lists -/

namespace Sys2Proof.Machine

/-! ## The table around one record -/

/-- The other records of a table have other serials. -/
theorem serial_ne_of_split {older newer : List FrameRecord} {x : FrameRecord}
    (serials : ((older ++ x :: newer).map (·.serial)).Nodup) : ∀ r ∈ older ++ newer, r.serial ≠ x.serial := by
  rw [List.map_append, List.map_cons, List.nodup_middle, List.nodup_cons, ← List.map_append] at serials
  exact fun r m same => serials.1 (List.mem_map.mpr ⟨r, m, same⟩)

/-- Of records with different serials, the change of one is at its place. -/
theorem map_serial_split {older newer : List FrameRecord} {x : FrameRecord} (g : FrameRecord → FrameRecord)
    (serials : ((older ++ x :: newer).map (·.serial)).Nodup) :
    ((older ++ x :: newer).map fun r => if r.serial = x.serial then g r else r) = older ++ g x :: newer := by
  have others := serial_ne_of_split serials
  have stays {l : List FrameRecord} (sub : l ⊆ older ++ newer) :
      (l.map fun r => if r.serial = x.serial then g r else r) = l := by
    conv_rhs => rw [← List.map_id l]
    exact List.map_congr_left fun r m => if_neg (others r (sub m))
  rw [List.map_append, List.map_cons, if_pos rfl, stays (List.subset_append_left _ _), stays (List.subset_append_right _ _)]

/-! ## RING_SET (R123) -/

theorem ringsOverlap_comm (a b c d : Nat) : ringsOverlap a b c d = ringsOverlap c d a b := by
  simp only [ringsOverlap]
  rw [Bool.and_comm (decide (0 < b)), Bool.and_right_comm _ (decide (a < c + d))]

/-- RING_SET replaces the ring of a port without records, apart from every other port's ring. -/
theorem Hub.ringSet_laws {h : Hub} {work : Prop} (p : Port) (start length timeout : Nat) (l : h.FrameLaws work) :
    (h.ringSet p start length timeout).1.FrameLaws work := by
  unfold Hub.ringSet
  split
  · exact l
  · split
    · exact l
    · split
      · exact l
      case isFalse busy shared =>
        have empty : (h.fr p).table = [] := by simpa using busy
        have apart (q : Port) (other : q ≠ p) :
            ringsOverlap start length (h.fr q).ringStart (h.fr q).ringLength = false := by
          by_contra overlap
          exact shared (List.any_eq_true.mpr ⟨q, mem_allPorts q, by simpa [other] using overlap⟩)
        obtain ⟨⟨rings, placed⟩, agree⟩ := l
        refine ⟨⟨fun a b other => ?_, fun q => ?_⟩, fun asked => Hub.workHolds_iff.mpr fun q => ?_⟩
        · rw [Hub.modFrames_fr, Hub.modFrames_fr]
          split <;> split
          next ea eb => exact absurd (ea.trans eb.symm) other
          next ea eb => exact apart b eb
          next ea eb => exact (ringsOverlap_comm ..).trans (apart a ea)
          next => exact rings a b other
        all_goals
          rw [Hub.modFrames_fr]
          split
        · refine PortFrames.placed_iff.mpr ⟨?_, ?_⟩
          · simpa [empty] using PlacesFit.nil
          · simp [PortFrames.heldCount, empty]
        · exact placed q
        · next e => exact (Hub.workHolds_iff.mp (agree asked) q).of_table (by rw [e])
        · exact Hub.workHolds_iff.mp (agree asked) q

/-! ## FRAME_HOLD and FRAME_RELEASE (R134, R135) -/

section
variable {h : Hub} {p : Port}

theorem PortFrames.mem_of_named {f : PortFrames} {number : Nat} {x : FrameRecord} (found : f.named number = some x) :
    x ∈ f.table := List.mem_reverse.mp (List.mem_of_find?_eq_some found)

/-- A record that becomes held adds one to those held. -/
theorem PortFrames.Replaced.heldCount_succ {f f' : PortFrames} {x : FrameRecord} {g : FrameRecord → FrameRecord}
    (t : f.Replaced f' x.serial g) (l : f.Placed) (mx : x ∈ f.table) : f'.heldCount ≤ f.heldCount + 1 := by
  obtain ⟨older, newer, split⟩ := List.append_of_mem mx
  have table := map_serial_split g (split ▸ l.serials)
  rw [← split, ← t.table] at table
  rw [f'.heldCount_eq, f.heldCount_eq, table, split, List.countP_append, List.countP_append, List.countP_cons, List.countP_cons]
  split <;> split <;> omega

theorem Hub.frameHold_framesKept (h : Hub) (p : Port) (number : Nat) : h.FramesKept (h.frameHold p number).1 := by
  unfold Hub.frameHold
  split
  · exact .refl h
  case h_2 x found =>
    have mx := PortFrames.mem_of_named found
    split
    · exact .refl h
    · split
      · exact .refl h
      · split
        · exact .refl h
        case isFalse few =>
          have t := (h.fr p).modRecord_replaced x.serial fun r => { r with held := true, retained := false }
          exact .modFrames ⟨t.ring, fun l => t.placed (fun _ _ _ => rfl) ((t.heldCount_succ l mx).trans (by omega)) l,
            fun l w => WorkAgrees.replaced t l mx w rfl w.idle w.first (fun _ m _ => m) (fun _ _ => rfl)
              (fun i m e => ⟨rfl, (WorkAgrees.serves l w m mx e).2⟩) nofun (w.pending x mx)⟩

theorem Hub.frameRelease_framesKept (h : Hub) (p : Port) (number : Nat) : h.FramesKept (h.frameRelease p number).1 := by
  unfold Hub.frameRelease
  split
  · exact .refl h
  case h_2 x found =>
    have mx := PortFrames.mem_of_named found
    split
    · have t := (h.fr p).modRecord_replaced x.serial fun r => { r with held := false }
      have given : h.FramesKept (h.modRecord p x.serial fun r => { r with held := false }) := .modFrames
        ⟨t.ring, fun l => t.placed (fun _ _ _ => rfl) ((t.heldCount_le fun _ _ _ => nofun).trans l.held) l,
          fun l w => WorkAgrees.replaced t l mx w rfl w.idle w.first (fun _ m _ => m) (fun _ _ => rfl)
            (fun i m e => (WorkAgrees.serves l w m mx e :)) (w.aside x mx) (w.pending x mx)⟩
      exact given.trans (Hub.checkRelease_framesKept _ p x.serial)
    · exact .refl h

/-! ## FRAME_RESEND and PIPE_RESET (R152, R153) -/

/-- An accepted resend joins the record's pending resends and the work list together. -/
theorem Hub.frameResend_framesKept (h : Hub) (m : Memory) (p : Port) (number view : Nat) :
    h.FramesKept (h.frameResend m p number view).1 := by
  unfold Hub.frameResend
  split
  · exact .refl h
  case h_2 v _ =>
    split
    · exact .refl h
    case h_2 x found =>
      split
      · exact .refl h
      case isFalse idle =>
        split
        · exact .refl h
        · split
          · exact .refl h
          · have mx := PortFrames.mem_of_named found
            have t := (h.fr p).modRecord_replaced x.serial fun r => { r with resends := r.resends ++ [v], retained := false }
            have queued : h.FramesKept
                ((h.modRecord p x.serial fun r => { r with resends := r.resends ++ [v], retained := false }).modPipe p fun q =>
                  { q with work := q.work ++ [{ serial := x.serial, resend := some v }] }) := by
              refine .modBoth ⟨t.ring, fun l => t.placed (fun _ _ _ => rfl) ((t.heldCount_le fun _ _ _ h => h).trans l.held) l,
                fun l w => WorkAgrees.replaced (q' := { h.pl p with work := _ ++ [⟨x.serial, some v⟩] }) t l mx w rfl w.idle ?_
                  (fun i m e => ?_) (fun n other => ?_) (fun i m e => ⟨rfl, ?_⟩) nofun ?_⟩
              · refine List.pairwise_append.mpr ⟨w.first, List.pairwise_singleton _ _, fun a _ b mb live => ?_⟩
                rw [List.mem_singleton.mp mb] at live
                cases live
              · rcases List.mem_append.mp m with m | m
                · exact m
                · exact absurd (by rw [List.mem_singleton.mp m]) e
              · rw [resendsOf_append, resendsOf_cons_ne other.symm]
                exact List.append_nil _
              · rcases List.mem_append.mp m with m | m
                · exact (WorkAgrees.serves l w m mx e).2
                · rw [List.mem_singleton.mp m]
                  cases state : x.state <;> simp [state] at idle ⊢
              · rw [resendsOf_append, w.pending x mx]
                exact congrArg (x.resends ++ ·) (resendsOf_cons_same ⟨x.serial, some v⟩ [])
            exact queued.trans (Hub.pipeWake_framesKept _ m p)

/-- What a PIPE_RESET leaves of a record: it keeps its place and its holder, and is SENT where its output ended. -/
theorem FrameRecord.aborted_cases (r : FrameRecord) (ended : List WorkItem) :
    (r.aborted ended).place = r.place ∧ (r.aborted ended).held = r.held ∧ (r.aborted ended).resends = [] ∧
      ((r.aborted ended).state = .sent ∨ (r.aborted ended).state = r.state ∧ (r.aborted ended).retained = r.retained) := by
  unfold FrameRecord.aborted
  split
  · exact ⟨rfl, rfl, rfl, .inl rfl⟩
  · exact ⟨rfl, rfl, rfl, .inr ⟨rfl, rfl⟩⟩

theorem Hub.pipeReset_framesKept (h : Hub) (p : Port) : h.FramesKept (h.pipeReset p).1 := by
  have cleared (ended : List WorkItem) :
      h.FramesKept ((h.modFrames p fun f => f.pipeReset ended).modPipe p fun _ => {}) := by
    refine .modBoth ⟨⟨rfl, rfl⟩, fun l => l.of_sublist ?_ ⟨rfl, rfl⟩ ?_, fun _ w => ⟨fun _ => rfl, .nil, nofun, ?_, ?_⟩⟩
    · rw [PortFrames.pipeReset, List.map_map,
        show FrameRecord.place ∘ (FrameRecord.aborted · ended) = FrameRecord.place from funext fun r => (r.aborted_cases ended).1]
      exact List.filter_sublist.map _
    · rw [PortFrames.heldCount_eq, PortFrames.pipeReset, List.countP_map,
        show FrameRecord.held ∘ (FrameRecord.aborted · ended) = FrameRecord.held from
          funext fun r => (r.aborted_cases ended).2.1]
      exact List.filter_sublist.countP_le.trans ((h.fr p).heldCount_eq ▸ l.held)
    all_goals
      refine List.forall_mem_map.mpr fun r m => ?_
      obtain ⟨-, -, resends, state⟩ := r.aborted_cases ended
    · intro kept
      rcases state with sent | ⟨state, retained⟩
      · exact sent
      · exact state.trans (w.aside r (List.mem_filter.mp m).1 (retained ▸ kept))
    · exact resends.symm
  exact (cleared _).trans (.of_same rfl rfl)

end

/-! ## The packets of a frame, and its fill deadline (R33 to R35, R129) -/

section
variable {s : State} {p : Port}

theorem Hub.setIntake_framesKept (h : Hub) (p : Port) (i : Intake) : h.FramesKept (h.setIntake p i) :=
  .modFrames (.of_table rfl rfl ⟨rfl, rfl⟩)

theorem Hub.countLate_framesKept (h : Hub) (p : Port) : h.FramesKept (h.countLate p) :=
  .modFrames (.of_table rfl rfl ⟨rfl, rfl⟩)

theorem Hub.linkError_framesKept (h : Hub) (p : Port) : h.FramesKept (h.linkError p) := by
  have degraded (k : Hub) (f : LinkCtl → LinkCtl) : k.FramesKept ((k.modLink p f).flag p fDegrade) := .of_same (by simp) (by simp)
  unfold Hub.linkError
  dsimp only
  refine Hub.FramesKept.trans (b := h.modLink p fun l => { l with windowErrors := Nat.min 65535 (l.windowErrors + 1) })
    (.of_same rfl rfl) ?_
  split
  · exact (degraded _ _).trans (Hub.degradeFilling_framesKept _ p)
  · exact .refl _

theorem State.frameCutOff_framesKept (s : State) (p : Port) : s.hub.FramesKept (s.frameCutOff p).hub := by
  unfold State.frameCutOff
  split
  case h_1 filling => exact s.completeFrame_framesKept p _ _ _ filling
  case h_2 => exact s.hub.setIntake_framesKept p _

theorem Hub.openFrame_framesKept (h : Hub) (p : Port) (number width height id : Nat) :
    h.FramesKept (h.openFrame p number width height id) :=
  (Hub.admitFrame_framesKept _ p _ _ _ _ _).after (by simp) (by simp)

theorem State.frameStart_framesKept (s : State) (p : Port) (number width height id : Nat) :
    s.hub.FramesKept (s.frameStart p number width height id).hub := by
  unfold State.frameStart
  split
  · exact (Hub.linkError_framesKept _ p).after rfl rfl
  · refine Hub.FramesKept.trans ?_ (Hub.openFrame_framesKept _ p _ _ _ _)
    split
    · exact s.frameCutOff_framesKept p
    · exact .refl _

theorem State.line_framesKept (s : State) (p : Port) (number : Nat) (pixels : List Nat) :
    s.hub.FramesKept (s.line p number pixels).hub := by
  have counted (f : LinkCtl → LinkCtl) : s.hub.FramesKept (s.hub.modLink p f) := .of_same rfl rfl
  unfold State.line
  split
  · exact counted _
  · split
    · exact counted _
    · unfold State.storeLine
      dsimp only
      split
      · refine (counted _).trans (.modFrames (.map rfl rfl ⟨rfl, rfl⟩ (fun r => ?_) fun r => ?_)) <;> split <;> trivial
      · exact (counted _).trans (Hub.countLate_framesKept _ p)
      · exact counted _

theorem State.frameEnd_framesKept (s : State) (p : Port) (linesSent status : Nat) :
    s.hub.FramesKept (s.frameEnd p linesSent status).hub := by
  have closed : s.hub.FramesKept (s.hub.closeContext p) := .of_same rfl rfl
  unfold State.frameEnd
  split
  · exact .of_same rfl rfl
  · refine closed.trans ?_
    unfold State.frameEnded
    split
    case h_1 filling => exact State.completeFrame_framesKept { s with hub := s.hub.closeContext p } p _ _ _ filling
    case h_2 =>
      dsimp only
      split
      · exact (Hub.countLate_framesKept _ p).trans (Hub.setIntake_framesKept _ p _)
      · exact Hub.setIntake_framesKept _ p _

end

end Sys2Proof.Machine

/-! # The operations that drop a link or turn power off keep the laws of records and work lists (R131) -/

namespace Sys2Proof.Machine

/-! ## Completions and message boundaries -/

theorem Hub.modLink_framesKept (h : Hub) (p : Port) (f : LinkCtl → LinkCtl) : h.FramesKept (h.modLink p f) := .of_same rfl rfl

theorem Hub.completeCommand_framesKept (h : Hub) (p : Port) (c : Command) (how : Completion) :
    h.FramesKept (h.completeCommand p c how) := .of_same (by simp) (by simp)

theorem Hub.ackTaken_framesKept (h : Hub) (p : Port) (sequence : Bool) : h.FramesKept (h.ackTaken p sequence) := by
  unfold Hub.ackTaken
  dsimp only
  split
  · split
    · exact ((Hub.completeCommand_framesKept _ p _ _).after (by rfl) (by rfl)).trans (Hub.modLink_framesKept _ p _)
    · exact h.modLink_framesKept p _
  · exact h.modLink_framesKept p _

theorem Hub.waitOver_framesKept (h : Hub) (p : Port) : h.FramesKept (h.waitOver p) := by
  unfold Hub.waitOver
  dsimp only
  split
  · exact .refl h
  · split
    · exact h.modLink_framesKept p _
    · exact (((Hub.completeCommand_framesKept _ p _ _).after (by rfl) (by rfl)).trans (Hub.linkError_framesKept _ p)).trans
        (Hub.modLink_framesKept _ p _)

theorem Hub.boundary_framesKept (h : Hub) (p : Port) : h.FramesKept (h.boundary p) := by
  have pumped := h.modLink_framesKept p LinkCtl.pump
  unfold Hub.boundary
  dsimp only
  split
  · exact .refl h
  · split
    · exact h.waitOver_framesKept p
    · split
      · exact pumped.trans (Hub.waitOver_framesKept _ p)
      · exact pumped

theorem Hub.messageSent_framesKept (h : Hub) (p : Port) : h.FramesKept (h.messageSent p) := by
  have changed (f : LinkCtl → LinkCtl) : h.FramesKept ((h.modLink p f).boundary p) :=
    (Hub.boundary_framesKept _ p).after (by rfl) (by rfl)
  unfold Hub.messageSent
  split
  · exact changed _
  · exact changed _
  · exact .refl h

theorem Hub.waitEnds_framesKept (h : Hub) (p : Port) : h.FramesKept (h.waitEnds p) :=
  (Hub.boundary_framesKept _ p).after (by rfl) (by rfl)

/-! ## Drops and departures from ON -/

theorem Hub.drop_framesKept (h : Hub) (p : Port) (cause : DropCause) (enter : LinkCtl → LinkCtl) :
    h.FramesKept (h.drop p cause enter) := by
  have before : h.FramesKept (((h.dropStart p cause enter).dropLens p).dropTrigger p) :=
    .of_same (by simp) (by simp [Hub.dropStart])
  rw [Hub.drop_eq]
  exact (before.trans (Hub.dropFrame_framesKept _ p)).trans (.of_same (by simp) (by simp))

theorem Hub.leftOn_framesKept (h : Hub) (p : Port) : h.FramesKept (h.leftOn p) := by
  have lost : h.FramesKept (h.linkPowerLost p) := by
    unfold Hub.linkPowerLost
    split
    · exact h.drop_framesKept p _ _
    · exact h.drop_framesKept p _ _
    · exact .of_same (by simp) (by simp)
    · exact .refl h
  have lens (k : Hub) : k.FramesKept (k.lensPowerLost p) := .of_same (by simp) (by simp)
  exact lost.trans (lens _)

/-- A port whose power state changes, with the flags of the event; from ON, it then leaves it (R50). -/
theorem Hub.departs_framesKept {h : Hub} {p : Port} (f : PortPower → PortPower) (port part : BitVec 16) :
    h.FramesKept (if (h.pw p).state = .on then ((h.modPower p f).raise p port part).leftOn p
      else (h.modPower p f).raise p port part) := by
  have cut : h.FramesKept ((h.modPower p f).raise p port part) := .of_same (by simp) (by simp)
  split
  · exact cut.trans (Hub.leftOn_framesKept _ p)
  · exact cut

/-! ## Camera power -/

theorem Hub.turnOff_framesKept (h : Hub) (p : Port) (cause : OffCause) (part : BitVec 16) :
    h.FramesKept (h.turnOff p cause part) := Hub.departs_framesKept _ _ _

theorem Hub.isolationRise_framesKept (h : Hub) (p : Port) : h.FramesKept (h.isolationRise p) := by
  unfold Hub.isolationRise
  split
  case h_5 | h_6 => exact .refl h
  all_goals exact h.turnOff_framesKept p _ _

theorem Hub.retry_framesKept (h : Hub) (p : Port) : h.FramesKept (h.retry p) := by
  unfold Hub.retry
  split
  · exact h.turnOff_framesKept p _ _
  · split
    · exact .of_same (by simp) (by simp)
    · exact h.turnOff_framesKept p _ _

theorem Hub.cooldownOver_framesKept (h : Hub) (p : Port) : h.FramesKept (h.cooldownOver p) := by
  unfold Hub.cooldownOver
  split
  · exact .of_same rfl rfl
  · exact h.retry_framesKept p

theorem Hub.sweepReported_framesKept (h : Hub) (p : Port) : h.FramesKept (h.sweepReported p) := by
  unfold Hub.sweepReported
  split
  · exact (Hub.retry_framesKept _ p).after (by rfl) (by rfl)
  · exact .refl h

theorem Hub.powerDown_framesKept (h : Hub) (p : Port) : h.FramesKept (h.powerDown p) := by
  unfold Hub.powerDown
  split
  · exact h.turnOff_framesKept p _ _
  · exact .refl h

theorem Hub.powerOff_framesKept (h : Hub) (p : Port) : h.FramesKept (h.powerOff p) := by
  unfold Hub.powerOff
  split
  · exact .of_same rfl rfl
  · exact (Hub.turnOff_framesKept _ p _ _).after (by rfl) (by rfl)
  · exact h.turnOff_framesKept p _ _

theorem Hub.shedToFit_framesKept : ∀ (n : Nat) (h : Hub), h.FramesKept (Hub.shedToFit n h).1
  | 0, h => .refl h
  | n + 1, h => by
    unfold Hub.shedToFit
    split
    · split
      · exact .refl h
      · exact (h.turnOff_framesKept _ _ _).trans (Hub.shedToFit_framesKept n _)
    · exact .refl h

theorem Hub.budgetSet_framesKept (h : Hub) (budget : Nat) : h.FramesKept (h.budgetSet budget).1 :=
  (Hub.shedToFit_framesKept _ _).after (by rfl) (by rfl)

theorem Hub.supplySample_framesKept (h : Hub) (mv : Nat) : h.FramesKept (h.supplySample mv) := by
  have cell (h : Hub) (f : CellPower → CellPower) : h.FramesKept (h.modCell f) := .of_same rfl rfl
  have shed (h : Hub) (entry : Bool) : h.FramesKept (h.shedUndervolt entry) := by
    unfold Hub.shedUndervolt
    split
    · exact h.turnOff_framesKept _ _ _
    · split
      · exact .of_same (by simp) (by simp)
      · exact .refl h
  unfold Hub.supplySample
  dsimp only
  refine (cell h fun c => { c with supplySample := mv }).trans ?_
  generalize (h.modCell fun c => { c with supplySample := mv }) = k
  split
  case h_1 =>
    split
    · exact cell k _
    · exact .refl k
  case h_2 | h_3 =>
    split
    · exact cell k _
    · split
      · exact (cell k _).trans (shed _ _)
      · exact .refl k

theorem Hub.isolate_framesKept (h : Hub) (p : Port) (action : Nat) : h.FramesKept (h.isolate p action).1 := by
  have set (on : Bool) : h.FramesKept (h.setRequestedIso p on) := by
    unfold Hub.setRequestedIso
    dsimp only
    split
    · exact (Hub.isolationRise_framesKept _ p).after (by rfl) (by rfl)
    · exact .of_same rfl rfl
  unfold Hub.isolate
  split
  · exact set true
  · exact set false
  · exact .refl h

/-! ## Sweeps -/

theorem Hub.offerEngines_framesKept (h : Hub) : h.FramesKept h.offerEngines := .of_same (by simp) (by simp)

theorem Hub.autoSweep_framesKept (h : Hub) (p : Port) (o : SweepOrigin) : h.FramesKept (h.autoSweep p o) := by
  unfold Hub.autoSweep
  split
  · exact .of_same rfl rfl
  · exact (h.powerDown_framesKept p).trans (.of_same (by simp) (by simp))

theorem Hub.maySweep_framesKept (h : Hub) (p : Port) (o : Option SweepOrigin) : h.FramesKept (h.maySweep p o) := by
  cases o with
  | none => exact .refl h
  | some o => exact h.autoSweep_framesKept p o

theorem Hub.sweepOver_framesKept (h : Hub) (p : Port) : h.FramesKept (h.sweepOver p) :=
  (Hub.sweepReported_framesKept _ p).after (by simp) (by simp)

theorem Hub.stopSweep_framesKept (h : Hub) (e : EngineNo) (p : Port) : h.FramesKept (h.stopSweep e p) :=
  ((Hub.sweepOver_framesKept _ p).after (by rfl) (by rfl)).trans (Hub.offerEngines_framesKept _)

theorem Hub.cancelEngine_framesKept (h : Hub) (p : Port) (e : EngineNo) : h.FramesKept (h.cancelEngine p e) := by
  unfold Hub.cancelEngine
  split
  · split
    · split
      · exact .of_same rfl rfl
      · exact h.stopSweep_framesKept e p
    · exact .refl h
  · exact .refl h

theorem Hub.cancelSweep_framesKept (h : Hub) (p : Port) : h.FramesKept (h.cancelSweep p) := by
  cases status : (h.cb p).sweepStatus with
  | idle => simpa only [Hub.cancelSweep, status] using .refl h
  | queued =>
    simp only [Hub.cancelSweep, status]
    exact (Hub.sweepOver_framesKept _ p).after (by rfl) (by rfl)
  | running =>
    rw [Hub.cancelSweep_of_running status]
    exact (h.cancelEngine_framesKept p 0).trans (Hub.cancelEngine_framesKept _ p 1)

theorem Hub.sweepRequest_framesKept (h : Hub) (p : Port) (sweep : SweepParamsRaw) (first : Nat) :
    h.FramesKept (h.sweepRequest p sweep first).1 := by
  unfold Hub.sweepRequest
  split
  · split
    · exact .refl h
    · split
      · exact .refl h
      · exact (h.powerDown_framesKept p).trans (.of_same (by simp) (by simp))
  · exact .refl h

theorem Hub.recordPair_framesKept (h : Hub) (c : SweepContext) (pair : Pair) : h.FramesKept (h.recordPair c pair) := by
  unfold Hub.recordPair
  dsimp only
  split
  · exact .refl h
  · split
    · exact (Hub.isolationRise_framesKept _ _).after (by rfl) (by rfl)
    · exact .of_same rfl rfl

theorem Hub.recordTested_framesKept (h : Hub) (c : SweepContext) (pair : Pair) : h.FramesKept (h.recordTested c pair) := by
  unfold Hub.recordTested
  split
  · exact h.recordPair_framesKept c pair
  · exact .refl h

theorem Hub.completeSweep_framesKept (h : Hub) (e : EngineNo) (c : SweepContext) : h.FramesKept (h.completeSweep e c) := by
  have recorded : h.FramesKept (h.recordBoth c) :=
    (h.recordTested_framesKept c .data).trans (Hub.recordTested_framesKept _ c .power)
  have closed (k : Hub) (rose : BitVec 16) : k.FramesKept (k.closeSweep e c rose) :=
    .of_same (by simp [Hub.closeSweep]) (by simp [Hub.closeSweep])
  rw [Hub.completeSweep_eq]
  exact (recorded.trans (closed _ _)).trans ((Hub.sweepReported_framesKept _ _).trans (Hub.offerEngines_framesKept _))

theorem Hub.repeatEnd_framesKept (h : Hub) (e : EngineNo) (c : SweepContext) (endTime : HubTime) :
    h.FramesKept (h.repeatEnd e c endTime) := by
  unfold Hub.repeatEnd
  dsimp only
  split
  · exact .of_same rfl rfl
  · split
    · exact .of_same rfl rfl
    · exact h.completeSweep_framesKept e _

theorem Hub.shotEnd_framesKept (h : Hub) (e : EngineNo) (c : SweepContext) (trace : List (Nat × Int)) :
    h.FramesKept (h.shotEnd e c trace) := by
  unfold Hub.shotEnd
  dsimp only
  split
  · exact h.stopSweep_framesKept e _
  · split
    · exact .of_same rfl rfl
    · exact h.repeatEnd_framesKept e _ _

/-! ## Protection and training -/

theorem Hub.trip_framesKept (h : Hub) (p : Port) (cause : OffCause) : h.FramesKept (h.trip p cause) := by
  unfold Hub.trip
  dsimp only
  exact (Hub.departs_framesKept _ _ _).trans (Hub.maySweep_framesKept _ p _)

theorem Hub.detected_framesKept (h : Hub) (p : Port) (load : Nat) : h.FramesKept (h.detected p load) := by
  have fails (cause : OffCause) : h.FramesKept (if ((h.turnOff p cause 0).cb p).onDetectFail then
      (h.turnOff p cause 0).autoSweep p .autoDetect else h.turnOff p cause 0) := by
    split
    · exact (h.turnOff_framesKept p cause 0).trans (Hub.autoSweep_framesKept _ p _)
    · exact h.turnOff_framesKept p cause 0
  unfold Hub.detected
  dsimp only
  split
  · exact fails _
  · split
    · exact fails _
    · exact .of_same (by simp) (by simp)

theorem Hub.attemptEnd_framesKept (h : Hub) (p : Port) : h.FramesKept (h.attemptEnd p) := by
  have failed : h.FramesKept
      ((h.modLink p fun l => { l with state := .down, note := .trainFail, channel := .idle }).flag p fLink) :=
    .of_same (by simp) (by simp)
  unfold Hub.attemptEnd
  dsimp only
  split
  · exact .of_same rfl rfl
  · split
    · exact failed.trans (Hub.autoSweep_framesKept _ p _)
    · exact failed

theorem Hub.lossOfLock_framesKept (h : Hub) (p : Port) : h.FramesKept (h.lossOfLock p) := by
  have dropped := h.drop_framesKept p .lossOfLock (LinkCtl.train h.time)
  unfold Hub.lossOfLock
  dsimp only
  split
  · exact dropped.trans (Hub.autoSweep_framesKept _ p _)
  · exact dropped

theorem Hub.badPacket_framesKept (h : Hub) (p : Port) : h.FramesKept (h.badPacket p) :=
  (Hub.linkError_framesKept _ p).after (by rfl) (by rfl)

end Sys2Proof.Machine

/-! # Every command keeps the laws of records and work lists -/

namespace Sys2Proof.Machine

/-! ## Requests that leave frames and pipelines as they are -/

section
variable {h : Hub}

/-- The frame unit and the pipelines. -/
def Hub.frameItems (h : Hub) : Vector PortFrames 8 × Vector Pipeline 8 := (h.frames, h.pipe)

theorem Hub.FrameLaws.of_items {h' : Hub} {work : Prop} (l : h.FrameLaws work) (same : h'.frameItems = h.frameItems) :
    h'.FrameLaws work := by
  simp only [Hub.frameItems, Prod.mk.injEq] at same
  exact l.of_same same.1 same.2

theorem Hub.linkSet_frameItems (p : Port) (degrade drop : Nat) : (h.linkSet p degrade drop).1.frameItems = h.frameItems := by
  unfold Hub.linkSet
  split <;> rfl

theorem Hub.linkTest_frameItems (p : Port) (count : Nat) : (h.linkTest p count).1.frameItems = h.frameItems := by
  unfold Hub.linkTest
  (repeat' split) <;> rfl

theorem Hub.passThrough_frameItems (p : Port) (tag : BitVec 16) (kind : PassKind) (count : Nat)
    (mk : SlotNo → BitVec 8 → Command) : (h.passThrough p tag kind count mk).1.frameItems = h.frameItems := by
  unfold Hub.passThrough
  (repeat' split) <;> rfl

theorem Hub.readEvents_frameItems (p : Option Port) : (h.readEvents p).1.frameItems = h.frameItems := by cases p <;> rfl

theorem Hub.noticeSet_frameItems (kinds : Nat) : (h.noticeSet kinds).1.frameItems = h.frameItems := by
  unfold Hub.noticeSet
  split <;> rfl

theorem Hub.portPowerSet_frameItems (p : Port) (grant limit priority allowance : Nat) :
    (h.portPowerSet p grant limit priority allowance).1.frameItems = h.frameItems := by
  unfold Hub.portPowerSet
  (repeat' split) <;> rfl

theorem Hub.powerOn_frameItems (p : Port) : (h.powerOn p).1.frameItems = h.frameItems := by
  unfold Hub.powerOn
  dsimp only
  split
  · simp [Hub.frameItems]
  · rfl

theorem Hub.lensProfileLoad_frameItems (p : Port) (focus zoom iris : ProfileParams) :
    (h.lensProfileLoad p focus zoom iris).1.frameItems = h.frameItems := by
  unfold Hub.lensProfileLoad
  (repeat' split) <;> rfl

theorem Hub.focusTableLoad_frameItems (p : Port) (stop zoom : Nat) (points : List (Nat × Nat)) :
    (h.focusTableLoad p stop zoom points).1.frameItems = h.frameItems := by
  unfold Hub.focusTableLoad
  (repeat' split) <;> rfl

theorem Hub.lensCommand_frameItems (p : Port) (c : Command) : (h.lensCommand p c).1.frameItems = h.frameItems := by
  simp [Hub.frameItems]

theorem Hub.homeAxis_frameItems (p : Port) (x : AxisId) : (h.homeAxis p x).1.frameItems = h.frameItems := by
  have sent := h.lensCommand_frameItems p (.lensHome x)
  unfold Hub.homeAxis
  dsimp only
  split
  · rfl
  · split
    · rfl
    · split
      · rfl
      · split <;> exact sent

theorem Hub.sendMove_frameItems (p : Port) (x : AxisId) (target : Nat) (status : Status) (f : Axis → Axis) :
    (h.sendMove p x target status f).1.frameItems = h.frameItems := by
  have sent := h.lensCommand_frameItems p (.lensMove x target)
  unfold Hub.sendMove
  dsimp only
  split <;> exact sent

theorem Hub.moveAxis_frameItems (p : Port) (x : AxisId) (wanted : Nat) : (h.moveAxis p x wanted).1.frameItems = h.frameItems := by
  unfold Hub.moveAxis
  dsimp only
  split
  · rfl
  · split
    · rfl
    · split
      case h_1 | h_2 | h_3 => rfl
      case h_4 | h_5 =>
        split
        · rfl
        · exact Hub.sendMove_frameItems p x _ _ _

theorem Hub.stopAxis_frameItems (p : Port) (x : AxisId) : (h.stopAxis p x).1.frameItems = h.frameItems := by
  have sent := h.lensCommand_frameItems p (.lensStop x)
  unfold Hub.stopAxis
  dsimp only
  split
  · rfl
  · split
    · rfl
    · split <;> exact sent

theorem Hub.lensHome_frameItems (p : Port) (axis : Nat) : (h.lensHome p axis).1.frameItems = h.frameItems := by
  unfold Hub.lensHome
  split
  · rfl
  · exact Hub.homeAxis_frameItems p _

theorem Hub.lensMove_frameItems (p : Port) (axis target : Nat) : (h.lensMove p axis target).1.frameItems = h.frameItems := by
  unfold Hub.lensMove
  split
  · rfl
  · exact Hub.moveAxis_frameItems p _ target

theorem Hub.lensStop_frameItems (p : Port) (axis : Nat) : (h.lensStop p axis).1.frameItems = h.frameItems := by
  unfold Hub.lensStop
  split
  · rfl
  · exact Hub.stopAxis_frameItems p _

theorem Hub.lensFocusDistance_frameItems (p : Port) (d : Nat) : (h.lensFocusDistance p d).1.frameItems = h.frameItems := by
  unfold Hub.lensFocusDistance
  dsimp only
  split
  · rfl
  · split
    · rfl
    · split
      · rfl
      · split
        · rfl
        · split
          · rfl
          · exact Hub.moveAxis_frameItems p .focus _

theorem Hub.triggerLineSet_frameItems (line filter : Nat) : (h.triggerLineSet line filter).1.frameItems = h.frameItems := by
  unfold Hub.triggerLineSet
  (repeat' split) <;> rfl

theorem Hub.triggerSet_frameItems (p : Port) (source pitch phase direction policy timeout : Nat) :
    (h.triggerSet p source pitch phase direction policy timeout).1.frameItems = h.frameItems := by
  unfold Hub.triggerSet
  (repeat' split) <;> rfl

theorem Hub.fireAll_frameItems : ∀ (ps : List Port) (h : Hub), (h.fireAll ps).1.frameItems = h.frameItems
  | [], _ => rfl
  | p :: ps, h => (Hub.fireAll_frameItems ps (h.fire p).1).trans (by simp [Hub.frameItems])

theorem Hub.triggerSoft_frameItems (mask : Nat) : (h.triggerSoft mask).1.frameItems = h.frameItems := by
  unfold Hub.triggerSoft
  dsimp only
  split
  · rfl
  · exact Hub.fireAll_frameItems _ h

theorem Hub.cableTypeSet_frameItems (type speed polarity threshold : Nat) :
    (h.cableTypeSet type speed polarity threshold).1.frameItems = h.frameItems := by
  unfold Hub.cableTypeSet
  (repeat' split) <;> rfl

theorem Hub.portCableSet_frameItems (p : Port) (type length tolerance offset : Nat) :
    (h.portCableSet p type length tolerance offset).1.frameItems = h.frameItems := by
  unfold Hub.portCableSet
  (repeat' split) <;> rfl

theorem Hub.autoSweepSet_frameItems (p : Port) (flags : Nat) (sweep : SweepParamsRaw) :
    (h.autoSweepSet p flags sweep).1.frameItems = h.frameItems := by
  unfold Hub.autoSweepSet
  (repeat' split) <;> rfl

theorem Hub.faultClear_frameItems (p : Port) : (h.faultClear p).1.frameItems = h.frameItems := by
  unfold Hub.faultClear
  split <;> rfl

theorem Hub.viewLoad_frameItems (view : Nat) (q : ViewParams) : (h.viewLoad view q).1.frameItems = h.frameItems := by
  unfold Hub.viewLoad
  (repeat' split) <;> rfl

theorem Hub.viewBind_frameItems (p : Port) (view : Nat) : (h.viewBind p view).1.frameItems = h.frameItems := by
  unfold Hub.viewBind
  dsimp only
  (repeat' split) <;> rfl

theorem Hub.coefSelect_frameItems (table : Nat) : (h.coefSelect table).1.frameItems = h.frameItems := by
  unfold Hub.coefSelect
  (repeat' split) <;> rfl

theorem Hub.coefWrite_frameItems (values : List Nat) : (h.coefWrite values).1.frameItems = h.frameItems := by
  unfold Hub.coefWrite
  (repeat' split) <;> rfl

theorem Hub.egressSet_frameItems (settings : EgressParams) (p : Option Port) :
    (h.egressSet settings p).1.frameItems = h.frameItems := by
  cases p <;> unfold Hub.egressSet <;> dsimp only <;> (repeat' split) <;> rfl

/-! ## Events that leave frames and pipelines as they are -/

theorem Hub.fireLine_frameItems (n : LineNo) : (h.fireLine n).frameItems = h.frameItems :=
  foldl_keep Hub.frameItems _ (fun h p => by split <;> simp [Hub.frameItems]) allPorts h

theorem Hub.triggerTimeout_frameItems (p : Port) : (h.triggerTimeout p).frameItems = h.frameItems := by
  simp [Hub.triggerTimeout, Hub.frameItems]

theorem Hub.arrive_frameItems (pkt : Packet) : (h.arrive pkt).frameItems = h.frameItems := by
  unfold Hub.arrive
  split <;> simp [Hub.frameItems]

end

/-! ## The ends of takings and events -/

variable {work : Prop}

theorem Hub.coldReset_frameLaws (h : Hub) : h.coldReset.FrameLaws work := by
  refine ⟨⟨fun p q _ => ?_, fun p => ?_⟩, fun _ => Hub.workHolds_iff.mpr fun p => ?_⟩
  · rw [Hub.coldReset_fr, Hub.coldReset_fr]; rfl
  · rw [Hub.coldReset_fr]
    exact PortFrames.placed_iff.mpr ⟨.nil, Nat.zero_le _⟩
  · rw [Hub.coldReset_fr, Hub.coldReset_pl]
    exact ⟨fun _ => rfl, .nil, nofun, nofun, nofun⟩

theorem Hub.frameLaws_ends : Hub.EndsKeep (Hub.FrameLaws work) where
  settle m l := (Hub.settle_framesKept m).laws l
  reset := Hub.coldReset_frameLaws
  pop l := l.of_items rfl
  due l := l.of_items rfl
  trunk _ l := l.of_items rfl

theorem Hub.trunkLost_frameLaws {h : Hub} (m : Memory) (l : h.FrameLaws work) : (h.trunkLost m).FrameLaws work := by
  unfold Hub.trunkLost
  dsimp only
  split
  · exact Hub.coldReset_frameLaws _
  · exact (h.drained_framesKept m).laws l

theorem Hub.sendEnd_frameLaws {h : Hub} (m : Memory) (l : h.FrameLaws work) : (h.sendEnd m).FrameLaws work := by
  unfold Hub.sendEnd
  split
  · exact l
  · dsimp only
    split
    · exact Hub.coldReset_frameLaws _
    · split
      · exact l.of_items rfl
      · split
        · exact l.of_items rfl
        · exact (Hub.beginSend_framesKept m).laws (l.of_items rfl)

theorem Hub.tick_frameLaws {h : Hub} (l : h.FrameLaws work) : h.tick.FrameLaws work := by
  refine Hub.FramesKept.laws ⟨fun p => ?_⟩ l
  rw [Hub.tick_fr, Hub.tick_pl]
  exact .of_work rfl fun idle => idle

/-! ## Events that are not of the form of `State.when` -/

section
variable {s t : State}

theorem execFrameStart_frameLaws {p : Port} {number width height id : Nat}
    (e : execFrameStart p number width height id s = .next t) (l : s.hub.FrameLaws work) : t.hub.FrameLaws work := by
  unfold execFrameStart at e
  split at e
  · exact Hub.frameLaws_ends.settled e ((s.frameStart_framesKept p _ _ _ _).laws l)
  · cases e; exact l

theorem execLine_frameLaws {p : Port} {number : Nat} {pixels : List Nat} (e : execLine p number pixels s = .next t)
    (l : s.hub.FrameLaws work) : t.hub.FrameLaws work := by
  unfold execLine at e
  split at e
  · exact Hub.frameLaws_ends.settled e ((s.line_framesKept p _ _).laws l)
  · cases e; exact l

theorem execFrameEnd_frameLaws {p : Port} {linesSent status : Nat} (e : execFrameEnd p linesSent status s = .next t)
    (l : s.hub.FrameLaws work) : t.hub.FrameLaws work := by
  unfold execFrameEnd at e
  split at e
  · exact Hub.frameLaws_ends.settled e ((s.frameEnd_framesKept p _ _).laws l)
  · cases e; exact l

theorem Hub.filling_of_dueFrame {h : Hub} {p : Port} {x : FrameRecord} (due : h.dueFrame p = some x) :
    (h.fr p).filling = some x := by
  unfold Hub.dueFrame at due
  split at due
  next filling =>
    split at due
    · cases due; exact filling
    · cases due
  next => cases due

theorem execFillDeadline_frameLaws {p : Port} (e : execFillDeadline p s = .next t) (l : s.hub.FrameLaws work) :
    t.hub.FrameLaws work := by
  unfold execFillDeadline at e
  split at e
  next due =>
    exact Hub.frameLaws_ends.settled e ((s.completeFrame_framesKept p _ _ _ (Hub.filling_of_dueFrame due)).laws l)
  · cases e; exact l

theorem execSettlingEnd_frameLaws {n : EngineNo} (e : execSettlingEnd n s = .next t) (l : s.hub.FrameLaws work) :
    t.hub.FrameLaws work := by
  unfold execSettlingEnd at e
  split at e
  · exact Hub.frameLaws_ends.event e (l.of_items rfl)
  · cases e; exact l

theorem execShot_frameLaws {n : EngineNo} {trace : List (Nat × Int)} (e : execShot n trace s = .next t)
    (l : s.hub.FrameLaws work) : t.hub.FrameLaws work := by
  unfold execShot at e
  split at e
  · exact Hub.frameLaws_ends.event e ((s.hub.shotEnd_framesKept n _ trace).laws l)
  · cases e; exact l

theorem execRepeatIntervalEnd_frameLaws {n : EngineNo} (e : execRepeatIntervalEnd n s = .next t) (l : s.hub.FrameLaws work) :
    t.hub.FrameLaws work := by
  unfold execRepeatIntervalEnd at e
  split at e
  · exact Hub.frameLaws_ends.event e (l.of_items rfl)
  · cases e; exact l

/-- A current that a row reports trips its port or has that row's own effect (R47). -/
theorem State.senseCurrent_frameLaws {p : Port} {current : Nat} {own : Hub → Bool} {act : Hub → Hub}
    (e : s.senseCurrent p current own act = .next t) (l : s.hub.FrameLaws work) (acts : s.hub.FramesKept (act s.hub)) :
    t.hub.FrameLaws work := by
  refine Hub.frameLaws_ends.when e l fun _ => ?_
  split
  · exact (s.hub.trip_framesKept p _).laws l
  · exact acts.laws l

variable {p : Port} {current : Nat}

theorem execOvercurrentRise_frameLaws (e : execOvercurrentRise p current s = .next t) (l : s.hub.FrameLaws work) :
    t.hub.FrameLaws work := State.senseCurrent_frameLaws e l (.of_same rfl rfl)

theorem execOvercurrentFall_frameLaws (e : execOvercurrentFall p current s = .next t) (l : s.hub.FrameLaws work) :
    t.hub.FrameLaws work := State.senseCurrent_frameLaws e l (.of_same rfl rfl)

theorem execTrip_frameLaws (e : execTrip p current s = .next t) (l : s.hub.FrameLaws work) : t.hub.FrameLaws work :=
  State.senseCurrent_frameLaws e l (s.hub.trip_framesKept p .trip)

theorem execHardShort_frameLaws (e : execHardShort p current s = .next t) (l : s.hub.FrameLaws work) :
    t.hub.FrameLaws work := State.senseCurrent_frameLaws e l (.refl _)

end

/-- Every command keeps the laws: only RING_SET moves a ring, only admission places a record, and work lists change together
with the records that their items name. -/
theorem exec_frameLaws (i : Instr) (s t : State) (e : exec i s = .next t) (l : s.hub.FrameLaws work) :
    t.hub.FrameLaws work := by
  have ends := Hub.frameLaws_ends (work := work)
  cases i with
  | coldReset => exact ends.event e (Hub.coldReset_frameLaws _)
  | trunkUp => exact ends.when e l fun _ => (Hub.trunkReturns_framesKept _).laws l
  | trunkLoss => exact ends.when e l fun _ => Hub.trunkLost_frameLaws _ l
  | requestPacketReceived pkt => exact ends.when e l fun _ => l.of_items (Hub.arrive_frameItems pkt)
  | badRequest => exact ends.badRequest (fun l => l.of_items rfl) e l
  | packetSendEnd => exact ends.when e l fun _ => Hub.sendEnd_frameLaws _ l
  | imageQueueTakesPacket p => exact ends.when e l fun _ => (s.hub.pipeAct_framesKept _ p).laws l
  | answeredSlotReplyOffer => exact ends.when e l fun _ => l.of_items (by simp [Hub.frameItems])
  | identify r | timeRead r => exact ends.take (forHub_keeps fun _ l => l.of_items rfl) e l
  | partReset r => exact ends.take (forHub_keeps fun _ l => l.of_items rfl) e l
  | readEvents r => exact ends.take (forEither_keeps fun p _ l => l.of_items (Hub.readEvents_frameItems p)) e l
  | noticeSet r kinds => exact ends.take (forHub_keeps fun _ l => l.of_items (Hub.noticeSet_frameItems kinds)) e l
  | isolate r action => exact ends.take (forPort_keeps fun p h => (h.isolate_framesKept p action).laws) e l
  | portRead r | dropHistoryRead r | lensRead r | frameList r => exact ends.take (forPort_keeps fun _ _ l => l.of_items rfl) e l
  | linkSet r degrade drop => exact ends.take (forPort_keeps fun p _ l => l.of_items (Hub.linkSet_frameItems p _ _)) e l
  | linkTest r count => exact ends.take (forPort_keeps fun p _ l => l.of_items (Hub.linkTest_frameItems p _)) e l
  | attrRead r address count | attrWrite r address words =>
    exact ends.takeLater (passFor_keeps fun p _ l => l.of_items (Hub.passThrough_frameItems p _ _ _ _)) e l
  | passThroughTimeout slot => exact ends.when e l fun _ => l.of_items (by simp [Hub.frameItems])
  | budgetSet r budget => exact ends.take (forHub_keeps fun h => (h.budgetSet_framesKept budget).laws) e l
  | portPowerSet r grant limit priority allowance =>
    exact ends.take (forPort_keeps fun p _ l => l.of_items (Hub.portPowerSet_frameItems p _ _ _ _)) e l
  | powerOn r => exact ends.take (forPort_keeps fun p _ l => l.of_items (Hub.powerOn_frameItems p)) e l
  | powerOff r => exact ends.take (forPort_keeps fun p h => (h.powerOff_framesKept p).laws) e l
  | detectionEnd p load => exact ends.when e l fun _ => (s.hub.detected_framesKept p load).laws l
  | rampOutputReached p output => exact ends.when e l fun _ => l.of_items (by simp [Hub.frameItems])
  | rampFail p output => exact ends.when e l fun _ => (s.hub.trip_framesKept p _).laws l
  | overcurrentRise p current => exact execOvercurrentRise_frameLaws e l
  | overcurrentFall p current => exact execOvercurrentFall_frameLaws e l
  | trip p current => exact execTrip_frameLaws e l
  | hardShort p current => exact execHardShort_frameLaws e l
  | cooldownEnd p => exact ends.when e l fun _ => (s.hub.cooldownOver_framesKept p).laws l
  | supplySample mv => exact ends.event e ((s.hub.supplySample_framesKept mv).laws l)
  | trainingAttemptEnd p => exact ends.when e l fun _ => (s.hub.attemptEnd_framesKept p).laws l
  | lockReply p => exact ends.when e l fun _ => l.of_items (by simp [Hub.frameItems])
  | lossOfLock p => exact ends.when e l fun _ => (s.hub.lossOfLock_framesKept p).laws l
  | errorWindowEnd p => exact ends.when e l fun _ => l.of_items (by simp [Hub.frameItems])
  | badUpstreamPacket p bytes => exact ends.when e l fun _ => (s.hub.badPacket_framesKept p).laws l
  | frameStart p number width height id => exact execFrameStart_frameLaws e l
  | line p number pixels => exact execLine_frameLaws e l
  | frameEnd p linesSent status => exact execFrameEnd_frameLaws e l
  | fillDeadline p => exact execFillDeadline_frameLaws e l
  | ack p sequence => exact ends.when e l fun _ => (s.hub.ackTaken_framesKept p _).laws l
  | ackWaitEnd p => exact ends.when e l fun _ => (s.hub.waitEnds_framesKept p).laws l
  | downstreamMessageSent p => exact ends.when e l fun _ => (s.hub.messageSent_framesKept p).laws l
  | attrReply p attr status words => exact ends.when e l fun _ => l.of_items (by simp [Hub.frameItems])
  | lensReport p axis position kind => exact ends.when e l fun _ => l.of_items (by simp [Hub.frameItems])
  | lensDeadline p axis => exact ends.when e l fun _ => l.of_items (by simp [Hub.frameItems, Hub.axisTimeout, Hub.modAxis])
  | lensProfileLoad r focus zoom iris =>
    exact ends.take (forPort_keeps fun p _ l => l.of_items (Hub.lensProfileLoad_frameItems p _ _ _)) e l
  | lensHome r axis => exact ends.take (forPort_keeps fun p _ l => l.of_items (Hub.lensHome_frameItems p axis)) e l
  | lensMove r axis target => exact ends.take (forPort_keeps fun p _ l => l.of_items (Hub.lensMove_frameItems p axis target)) e l
  | lensStop r axis => exact ends.take (forPort_keeps fun p _ l => l.of_items (Hub.lensStop_frameItems p axis)) e l
  | focusTableLoad r stop zoom points =>
    exact ends.take (forPort_keeps fun p _ l => l.of_items (Hub.focusTableLoad_frameItems p _ _ _)) e l
  | lensFocusDistance r d => exact ends.take (forPort_keeps fun p _ l => l.of_items (Hub.lensFocusDistance_frameItems p d)) e l
  | encoderStep a b => exact ends.event e (l.of_items (by simp [Hub.frameItems]))
  | triggerTimeout p => exact ends.when e l fun _ => l.of_items (Hub.triggerTimeout_frameItems p)
  | triggerLineRise n | triggerLineFall n => exact ends.when e l fun _ => l.of_items rfl
  | filterTimeEnd n => exact ends.when e l fun _ => l.of_items (Hub.fireLine_frameItems n)
  | encoderSet r value => exact ends.take (forHub_keeps fun _ l => l.of_items rfl) e l
  | triggerLineSet r line filter =>
    exact ends.take (forHub_keeps fun _ l => l.of_items (Hub.triggerLineSet_frameItems _ _)) e l
  | triggerSet r source pitch phase direction policy timeout =>
    exact ends.take (forPort_keeps fun p _ l => l.of_items (Hub.triggerSet_frameItems p _ _ _ _ _ _)) e l
  | triggerSoft r mask => exact ends.take (forHub_keeps fun _ l => l.of_items (Hub.triggerSoft_frameItems mask)) e l
  | triggerRead r | faultRead r => exact ends.take (forEither_keeps fun _ _ l => l.of_items rfl) e l
  | cableTypeSet r type speed polarity threshold =>
    exact ends.take (forHub_keeps fun _ l => l.of_items (Hub.cableTypeSet_frameItems _ _ _ _)) e l
  | portCableSet r type length tolerance offset =>
    exact ends.take (forPort_keeps fun p _ l => l.of_items (Hub.portCableSet_frameItems p _ _ _ _)) e l
  | autoSweepSet r flags sweep =>
    exact ends.take (forPort_keeps fun p _ l => l.of_items (Hub.autoSweepSet_frameItems p _ _)) e l
  | sweepRequest r sweep first => exact ends.take (forPort_keeps fun p h => (h.sweepRequest_framesKept p _ _).laws) e l
  | settlingEnd n => exact execSettlingEnd_frameLaws e l
  | shot n trace => exact execShot_frameLaws e l
  | repeatIntervalEnd n => exact execRepeatIntervalEnd_frameLaws e l
  | sweepCancel r => exact ends.take (forPort_keeps fun p h => (h.cancelSweep_framesKept p).laws) e l
  | faultClear r => exact ends.take (forPort_keeps fun p _ l => l.of_items (Hub.faultClear_frameItems p)) e l
  | ringSet r start length timeout => exact ends.take (forPort_keeps fun p _ l => Hub.ringSet_laws p _ _ _ l) e l
  | frameHold r number => exact ends.take (forPort_keeps fun p h => (h.frameHold_framesKept p _).laws) e l
  | frameRelease r number => exact ends.take (forPort_keeps fun p h => (h.frameRelease_framesKept p _).laws) e l
  | viewLoad r view params => exact ends.take (forHub_keeps fun _ l => l.of_items (Hub.viewLoad_frameItems _ _)) e l
  | viewBind r view => exact ends.take (forPort_keeps fun p _ l => l.of_items (Hub.viewBind_frameItems p _)) e l
  | viewUnbind r => exact ends.take (forPort_keeps fun _ _ l => l.of_items rfl) e l
  | coefSelect r table => exact ends.take (forHub_keeps fun _ l => l.of_items (Hub.coefSelect_frameItems _)) e l
  | coefWrite r values => exact ends.take (forHub_keeps fun _ l => l.of_items (Hub.coefWrite_frameItems _)) e l
  | frameResend r number view => exact ends.take (forPort_keeps fun p h => (h.frameResend_framesKept s.dram p _ _).laws) e l
  | pipeReset r => exact ends.take (forPort_keeps fun p h => (h.pipeReset_framesKept p).laws) e l
  | egressSet r settings => exact ends.take (forEither_keeps fun p _ l => l.of_items (Hub.egressSet_frameItems settings p)) e l

/-- Settles O14: every command keeps the laws, and a microsecond of hub time changes neither rings, records nor work lists. -/
theorem frameRecordsStayApart : Obligations.FrameRecordsStayApart := by
  intro s t l e
  have before : s.hub.FrameLaws s.hub.WorkHolds := ⟨l, id⟩
  have after : t.hub.FrameLaws s.hub.WorkHolds := by
    unfold step at e
    split at e
    case h_1 => cases e; exact Hub.tick_frameLaws before
    case h_2 i rest _ => exact exec_frameLaws i { s with pending := rest } t e before
  exact ⟨after.frames, after.agree⟩

end Sys2Proof.Machine

/-! # RING_SET, FRAME_HOLD and FRAME_RELEASE (R123, R133 to R135) -/

namespace Sys2Proof.Machine

/-! ## Rings that share a unit (R123) -/

theorem ringsOverlap_iff {start length start' length' : Nat} : ringsOverlap start length start' length' = true ↔
    ∃ unit, start ≤ unit ∧ unit < start + length ∧ start' ≤ unit ∧ unit < start' + length' := by
  simp only [ringsOverlap, Bool.and_eq_true, decide_eq_true_eq]
  constructor
  · rintro ⟨⟨⟨some, some'⟩, before⟩, before'⟩
    exact ⟨max start start', by omega, by omega, by omega, by omega⟩
  · rintro ⟨unit, low, high, low', high'⟩
    omega

/-- The parameters of a ring are in their ranges (R123). -/
def RingFits (start length timeout : Nat) : Prop :=
  start ≤ 4095 ∧ length ≤ 4096 ∧ 1 ≤ timeout ∧ timeout ≤ 2000 ∧ start + length ≤ 4096

/-- Another port's ring shares a unit with the region (R123). -/
def Hub.ringShared (h : Hub) (p : Port) (start length : Nat) : Prop :=
  ∃ q, q ≠ p ∧ ∃ unit, start ≤ unit ∧ unit < start + length ∧
    (h.fr q).ringStart ≤ unit ∧ unit < (h.fr q).ringStart + (h.fr q).ringLength

section
variable {h : Hub} {p : Port} {start length timeout : Nat}

theorem ringFits_iff : (within 0 4095 start && within 0 4096 length && within 1 2000 timeout && decide (start + length ≤ 4096)) =
    true ↔ RingFits start length timeout := by
  simp only [within, Bool.and_eq_true, decide_eq_true_eq, RingFits]
  omega

theorem Hub.ringShared_iff : (allPorts.any fun q =>
    decide (q ≠ p) && ringsOverlap start length (h.fr q).ringStart (h.fr q).ringLength) = true ↔ h.ringShared p start length := by
  simp [Hub.ringShared, ← ringsOverlap_iff, mem_allPorts]

theorem Hub.ringSet_of_range (bad : ¬ RingFits start length timeout) :
    h.ringSet p start length timeout = (h, refuse .range) := by
  rw [← ringFits_iff] at bad
  simp only [Hub.ringSet, Bool.eq_false_iff.mpr bad, Bool.not_false, if_true]

theorem Hub.ringSet_of_fits (fits : RingFits start length timeout) :
    h.ringSet p start length timeout =
      if !(h.fr p).table.isEmpty then (h, refuse .busy)
      else if allPorts.any fun q =>
        decide (q ≠ p) && ringsOverlap start length (h.fr q).ringStart (h.fr q).ringLength then (h, refuse .inUse)
      else (h.modFrames p fun f => { f with ringStart := start, ringLength := length, timeout := timeout, cursor := 0 },
        okWith (u16 start ++ u16 length)) := by
  rw [Hub.ringSet, ringFits_iff.mpr fits]
  rfl

theorem Hub.ringSet_of_busy (fits : RingFits start length timeout) (busy : (h.fr p).table ≠ []) :
    h.ringSet p start length timeout = (h, refuse .busy) := by
  rw [Hub.ringSet_of_fits fits, if_pos (by simpa using busy)]

theorem Hub.ringSet_of_shared (fits : RingFits start length timeout) (empty : (h.fr p).table = [])
    (shared : h.ringShared p start length) : h.ringSet p start length timeout = (h, refuse .inUse) := by
  rw [Hub.ringSet_of_fits fits, if_neg (by simp [empty]), if_pos (Hub.ringShared_iff.mpr shared)]

theorem Hub.ringSet_of_free (fits : RingFits start length timeout) (empty : (h.fr p).table = [])
    (free : ¬ h.ringShared p start length) : h.ringSet p start length timeout =
      (h.modFrames p fun f => { f with ringStart := start, ringLength := length, timeout := timeout, cursor := 0 },
        okWith (u16 start ++ u16 length)) := by
  rw [Hub.ringSet_of_fits fits, if_neg (by simp [empty]), if_neg fun shared => free (Hub.ringShared_iff.mp shared)]

end

/-! ## The record of a number that arrived last (R124) -/

section
variable {f : PortFrames} {number : Nat} {x : FrameRecord} {older newer : List FrameRecord}

theorem PortFrames.named_of_none (none : ∀ y ∈ f.table, y.number ≠ number) : f.named number = .none := by
  simpa [PortFrames.named] using none

theorem PortFrames.named_of_split (split : f.table = older ++ x :: newer) (is : x.number = number)
    (last : ∀ y ∈ newer, y.number ≠ number) : f.named number = some x := by
  have later : newer.reverse.find? (fun r => decide (r.number = number)) = none := by simpa using last
  simp [PortFrames.named, split, List.find?_append, later, is]

theorem PortFrames.modRecord_of_split (g : FrameRecord → FrameRecord) (split : f.table = older ++ x :: newer)
    (serials : (f.table.map (·.serial)).Nodup) : f.modRecord x.serial g = { f with table := older ++ g x :: newer } := by
  rw [split] at serials
  rw [PortFrames.modRecord, split, map_serial_split g serials]

/-- A record checked for release leaves the table where nothing keeps it (R133). -/
theorem PortFrames.checkRelease_of_split (split : f.table = older ++ x :: newer) (serials : (f.table.map (·.serial)).Nodup) :
    f.checkRelease x.serial = { f with table := if x.releasable then older ++ newer else f.table } := by
  rw [split] at serials
  have others := serial_ne_of_split serials
  have stays {l : List FrameRecord} (sub : l ⊆ older ++ newer) :
      (l.filter fun r => !(r.serial = x.serial && r.releasable)) = l :=
    List.filter_eq_self.mpr fun r m => by simp [others r (sub m)]
  rw [PortFrames.checkRelease, split, List.filter_append, List.filter_cons, stays (List.subset_append_left _ _),
    stays (List.subset_append_right _ _)]
  cases x.releasable <;> simp

theorem PortFrames.record_of_split (split : f.table = older ++ x :: newer) (serials : (f.table.map (·.serial)).Nodup) :
    f.record x.serial = some x := by
  rw [split] at serials
  have others := serial_ne_of_split serials
  have before : older.find? (fun r => decide (r.serial = x.serial)) = none := by
    simpa using fun r m => others r (List.mem_append_left _ m)
  simp [PortFrames.record, split, List.find?_append, before]

theorem PortFrames.record_of_gone {serial : Nat} (gone : ∀ r ∈ f.table, r.serial ≠ serial) : f.record serial = none := by
  simpa [PortFrames.record] using gone

end

/-! ## Holds and releases -/

section
variable {h : Hub} {p : Port} {number : Nat} {x : FrameRecord} {older newer : List FrameRecord}

theorem Hub.frameHold_of_none (none : ∀ y ∈ (h.fr p).table, y.number ≠ number) :
    h.frameHold p number = (h, refuse .noFrame) := by
  rw [Hub.frameHold, PortFrames.named_of_none none]

theorem Hub.frameRelease_of_none (none : ∀ y ∈ (h.fr p).table, y.number ≠ number) :
    h.frameRelease p number = (h, refuse .noFrame) := by
  rw [Hub.frameRelease, PortFrames.named_of_none none]

theorem Hub.frameHold_of_filling (named : (h.fr p).named number = some x) (filling : x.state = .filling) :
    h.frameHold p number = (h, refuse .busy) := by
  simp only [Hub.frameHold, named, filling, if_true]

theorem Hub.frameHold_of_held (named : (h.fr p).named number = some x) (filled : x.state ≠ .filling) (held : x.held = true) :
    h.frameHold p number = (h, okWith (frameStateCode x.state ++ u8 (h.fr p).heldCount)) := by
  simp only [Hub.frameHold, named, if_neg filled, held, if_true, holdResults]

theorem Hub.frameHold_of_limit (named : (h.fr p).named number = some x) (filled : x.state ≠ .filling) (free : x.held = false)
    (full : 4 ≤ (h.fr p).heldCount) : h.frameHold p number = (h, refuse .limit) := by
  simp only [Hub.frameHold, named, if_neg filled, free, Bool.false_eq_true, if_false, if_pos full]

theorem Hub.frameRelease_of_free (named : (h.fr p).named number = some x) (free : x.held = false) :
    h.frameRelease p number = (h, okWith (u8 0 ++ frameStateCode x.state)) := by
  simp only [Hub.frameRelease, named, free, Bool.false_eq_true, if_false, yesNo_false]

variable (split : (h.fr p).table = older ++ x :: newer) (serials : ((h.fr p).table.map (·.serial)).Nodup)
include split serials

theorem Hub.modRecord_of_split (g : FrameRecord → FrameRecord) :
    h.modRecord p x.serial g = h.modFrames p fun f => { f with table := older ++ g x :: newer } :=
  Hub.modFrames_congr (PortFrames.modRecord_of_split g split serials)

theorem Hub.frameHold_of_room (named : (h.fr p).named number = some x) (filled : x.state ≠ .filling) (free : x.held = false)
    (room : (h.fr p).heldCount < 4) : h.frameHold p number =
      (h.modFrames p fun f => { f with table := older ++ { x with held := true, retained := false } :: newer },
        okWith (frameStateCode x.state ++ u8 ((h.fr p).heldCount + 1))) := by
  simp only [Hub.frameHold, named, if_neg filled, free, Bool.false_eq_true, if_false, if_neg (Nat.not_le.mpr room), holdResults,
    Hub.modRecord_of_split split serials, Hub.modFrames_fr_same, Prod.mk.injEq, true_and]
  have count : PortFrames.heldCount { h.fr p with table := older ++ { x with held := true, retained := false } :: newer } =
      (h.fr p).heldCount + 1 := by
    rw [PortFrames.heldCount_eq, PortFrames.heldCount_eq, split]
    simp [free, Nat.add_assoc]
  rw [count]

/-- The table after a held record is given up: without it where nothing else keeps it. -/
theorem Hub.givenUp_eq : (h.modRecord p x.serial fun r => { r with held := false }).checkRelease p x.serial =
    h.modFrames p fun f => { f with
      table := if FrameRecord.releasable { x with held := false } then older ++ newer
        else older ++ { x with held := false } :: newer } := by
  rw [Hub.modRecord_of_split split serials, Hub.checkRelease, Hub.modFrames_modFrames]
  refine Hub.modFrames_congr ?_
  have again : ((older ++ { x with held := false } :: newer).map (·.serial)).Nodup := by
    rw [split] at serials
    simpa using serials
  exact PortFrames.checkRelease_of_split (f := { h.fr p with table := older ++ { x with held := false } :: newer }) rfl again

theorem Hub.frameRelease_of_released (named : (h.fr p).named number = some x) (held : x.held = true) (sent : x.state = .sent)
    (none : x.resends = []) (dropped : x.retained = false) : h.frameRelease p number =
      (h.modFrames p fun f => { f with table := older ++ newer }, okWith (u8 1 ++ frameStateCode x.state)) := by
  have goes : FrameRecord.releasable { x with held := false } = true := by simp [FrameRecord.releasable, sent, none, dropped]
  have gone : PortFrames.record { h.fr p with table := older ++ newer } x.serial = .none :=
    PortFrames.record_of_gone (serial_ne_of_split (split ▸ serials))
  simp only [Hub.frameRelease, named, held, if_true, Hub.givenUp_eq split serials, goes, Hub.modFrames_fr_same, gone,
    Option.isNone_none, yesNo_true]

theorem Hub.frameRelease_of_kept (named : (h.fr p).named number = some x) (held : x.held = true)
    (kept : x.state ≠ .sent ∨ x.resends ≠ [] ∨ x.retained = true) : h.frameRelease p number =
      (h.modFrames p fun f => { f with table := older ++ { x with held := false } :: newer },
        okWith (u8 0 ++ frameStateCode x.state)) := by
  have stays : FrameRecord.releasable { x with held := false } = false := by
    rcases kept with kept | kept | kept <;> simp [FrameRecord.releasable, kept]
  have again : ((older ++ { x with held := false } :: newer).map (·.serial)).Nodup := by
    rw [split] at serials
    simpa using serials
  have found := PortFrames.record_of_split (f := { h.fr p with table := older ++ { x with held := false } :: newer }) rfl again
  simp only [Hub.frameRelease, named, held, if_true, Hub.givenUp_eq split serials, stays, Bool.false_eq_true, if_false,
    Hub.modFrames_fr_same, show _ = _ from found, Option.isNone_some, yesNo_false]

end

/-- Settles O56: each outcome is the owner's answer on the hub whose head request is taken. -/
theorem frameRequestsAct : Obligations.FrameRequestsAct := by
  intro s r pkt p start length timeout number x older newer
  refine ⟨fun asked => ⟨fun bad => ?range, fun fits busy => ?busy, fun fits empty shared => ?shared,
      fun fits empty free => ?set⟩,
    fun asked => ⟨fun none => ?holdNone, fun split is last serials => ?hold⟩,
    fun asked => ⟨fun none => ?releaseNone, fun split is last serials => ?release⟩⟩
  case range => exact State.answers_forPort rfl rfl asked (Hub.ringSet_of_range bad)
  case busy => exact State.answers_forPort rfl rfl asked (Hub.ringSet_of_busy fits busy)
  case shared => exact State.answers_forPort rfl rfl asked (Hub.ringSet_of_shared fits empty shared)
  case set => exact State.answers_forPort rfl rfl asked (Hub.ringSet_of_free fits empty free)
  case holdNone => exact State.answers_forPort rfl rfl asked (Hub.frameHold_of_none none)
  case hold =>
    have named := PortFrames.named_of_split split is last
    exact ⟨fun filling => State.answers_forPort rfl rfl asked (Hub.frameHold_of_filling named filling),
      fun filled held => State.answers_forPort rfl rfl asked (Hub.frameHold_of_held named filled held),
      fun filled free full => State.answers_forPort rfl rfl asked (Hub.frameHold_of_limit named filled free full),
      fun filled free room => State.answers_forPort rfl rfl asked (Hub.frameHold_of_room split serials named filled free room)⟩
  case releaseNone => exact State.answers_forPort rfl rfl asked (Hub.frameRelease_of_none none)
  case release =>
    have named := PortFrames.named_of_split split is last
    exact ⟨fun free => State.answers_forPort rfl rfl asked (Hub.frameRelease_of_free named free),
      fun held sent none dropped =>
        State.answers_forPort rfl rfl asked (Hub.frameRelease_of_released split serials named held sent none dropped),
      fun held kept => State.answers_forPort rfl rfl asked (Hub.frameRelease_of_kept split serials named held kept)⟩

end Sys2Proof.Machine

/-! # The trunk's loss and return at the pipelines (R154, R156, R164) -/

namespace Sys2Proof.Machine

/-! ## An act on every port in turn -/

/-- What an act on each of several ports leaves at one of them: its own act is the only one that reaches it. -/
theorem foldl_own {α : Type} {view : Hub → Port → α} {act : Hub → Port → Hub} {effect : Port → α → α} {Inv : Hub → Prop}
    (keeps : ∀ k p, Inv k → Inv (act k p)) (own : ∀ k p, Inv k → view (act k p) p = effect p (view k p))
    (other : ∀ k p o, Inv k → o ≠ p → view (act k p) o = view k o) :
    ∀ (l : List Port) (k : Hub), Inv k → l.Nodup →
      ∀ p, view (l.foldl act k) p = if p ∈ l then effect p (view k p) else view k p
  | [], k, _, _, p => by simp
  | a :: l, k, inv, distinct, p => by
    obtain ⟨fresh, distinct⟩ := List.nodup_cons.mp distinct
    rw [List.foldl_cons, foldl_own keeps own other l _ (keeps k a inv) distinct p]
    by_cases e : p = a
    · subst e
      simp [fresh, own k p inv]
    · simp [e, other k a p inv e]

theorem foldl_inv {act : Hub → Port → Hub} {Inv : Hub → Prop} (keeps : ∀ k p, Inv k → Inv (act k p)) :
    ∀ (l : List Port) (k : Hub), Inv k → Inv (l.foldl act k)
  | [], _, inv => inv
  | a :: l, k, inv => foldl_inv keeps l _ (keeps k a inv)

theorem foldl_allPorts {α : Type} {view : Hub → Port → α} {act : Hub → Port → Hub} {effect : Port → α → α} {Inv : Hub → Prop}
    (keeps : ∀ k p, Inv k → Inv (act k p)) (own : ∀ k p, Inv k → view (act k p) p = effect p (view k p))
    (other : ∀ k p o, Inv k → o ≠ p → view (act k p) o = view k o) {k : Hub} (inv : Inv k) (p : Port) :
    view (allPorts.foldl act k) p = effect p (view k p) := by
  rw [foldl_own keeps own other allPorts k inv (by decide) p, if_pos (mem_allPorts p)]

/-- The hub without what the pipelines' loss of the trunk changes: frame records and pipelines. -/
def Hub.besideFrames (h : Hub) : Hub := { h with frames := Vector.replicate 8 {}, pipe := Vector.replicate 8 {} }

theorem Hub.units_of_beside {h h' : Hub} (same : h'.besideFrames = h.besideFrames) :
    h'.trunk = h.trunk ∧ h'.mgmt = h.mgmt ∧ h'.power = h.power ∧ h'.link = h.link ∧ h'.lens = h.lens ∧ h'.trig = h.trig ∧
      h'.view = h.view ∧ h'.cable = h.cable ∧ h'.cables = h.cables := by
  simp only [Hub.besideFrames, Hub.mk.injEq] at same
  simp only [same, and_self]

/-! ## A record whose output is lost (R132, R133, R154) -/

/-- A record SENT with TRUNK_LOST, n of its pending resends being ended. -/
def FrameRecord.lost (n : Nat) (x : FrameRecord) : FrameRecord :=
  { x with state := .sent, flags := x.flags ||| flagTrunkLost, resends := x.resends.drop n }

/-- A record that is SENT stays in the table. -/
def FrameRecord.stays (x : FrameRecord) : Bool := x.held || x.retained || !x.resends.isEmpty

/-- The resends among some items. -/
def resendCount (items : List WorkItem) : Nat := (items.filter fun item => item.resend.isSome).length

/-- The items of a work list that name a record. -/
def itemsOf (work : List WorkItem) (x : FrameRecord) : List WorkItem := work.filter fun item => item.serial = x.serial

theorem FrameRecord.lost_lost (a b : Nat) (x : FrameRecord) : (x.lost a).lost b = x.lost (a + b) := by
  simp [FrameRecord.lost, BitVec.or_assoc, List.drop_drop]

theorem FrameRecord.lost_releasable (n : Nat) (x : FrameRecord) : (x.lost n).releasable = !(x.lost n).stays := by
  simp only [FrameRecord.releasable, FrameRecord.stays, FrameRecord.lost, decide_true, Bool.true_and, Bool.not_or, Bool.not_not]
  cases x.held <;> cases x.retained <;> simp

theorem FrameRecord.stays_of_lost_add {a b : Nat} {x : FrameRecord} (stays : (x.lost (a + b)).stays = true) :
    (x.lost a).stays = true := by
  simp only [FrameRecord.stays, FrameRecord.lost, Bool.or_eq_true, Bool.not_eq_true', List.isEmpty_eq_false_iff, ne_eq,
    List.drop_eq_nil_iff] at stays ⊢
  exact stays.imp_right fun more less => more (by omega)

theorem FrameRecord.outputEnded_lost (x : FrameRecord) (item : WorkItem) :
    x.outputEnded item flagTrunkLost = x.lost (resendCount [item]) := by
  cases resend : item.resend <;> simp [FrameRecord.outputEnded, FrameRecord.lost, resendCount, resend]

/-- What the end of an item leaves of a record (R132): itself where the item names another; nothing where it is released. -/
def FrameRecord.afterItem (flag : BitVec 32) (item : WorkItem) (x : FrameRecord) : Option FrameRecord :=
  if x.serial = item.serial then
    if (x.outputEnded item flag).releasable then none else some (x.outputEnded item flag)
  else some x

/-- What the loss of every item of a work list leaves of a record. -/
def lostThrough : List WorkItem → FrameRecord → Option FrameRecord
  | [], x => some x
  | item :: rest, x => (x.afterItem flagTrunkLost item).bind (lostThrough rest)

/-- The items that name a record act on it together. -/
theorem lostThrough_eq : ∀ (work : List WorkItem) (x : FrameRecord), lostThrough work x =
    if itemsOf work x = [] then some x
    else if (x.lost (resendCount (itemsOf work x))).stays then some (x.lost (resendCount (itemsOf work x))) else none
  | [], x => by simp [lostThrough, itemsOf]
  | item :: rest, x => by
    by_cases named : item.serial = x.serial
    case neg =>
      have items : itemsOf (item :: rest) x = itemsOf rest x := List.filter_cons_of_neg (by simpa using named)
      rw [items, ← lostThrough_eq rest x, lostThrough, FrameRecord.afterItem, if_neg (Ne.symm named)]
      rfl
    case pos =>
      have items : itemsOf (item :: rest) x = item :: itemsOf rest x := List.filter_cons_of_pos (by simpa using named)
      have count : resendCount (itemsOf (item :: rest) x) = resendCount [item] + resendCount (itemsOf rest x) := by
        rw [items, resendCount, resendCount, resendCount, ← List.length_append, ← List.filter_append]
        rfl
      have later : itemsOf rest (x.lost (resendCount [item])) = itemsOf rest x := rfl
      rw [count, items, if_neg (List.cons_ne_nil _ _), lostThrough, FrameRecord.afterItem, if_pos named.symm,
        FrameRecord.outputEnded_lost, FrameRecord.lost_releasable]
      by_cases stays : (x.lost (resendCount [item])).stays = true
      · simp only [stays, Bool.not_true, Bool.false_eq_true, if_false, Option.bind_some]
        rw [lostThrough_eq rest, later, FrameRecord.lost_lost]
        by_cases none : itemsOf rest x = []
        · simp [none, resendCount] at stays ⊢
          simp [stays]
        · rw [if_neg none]
      · have gone : ¬ (x.lost (resendCount [item] + resendCount (itemsOf rest x))).stays = true :=
          fun h => stays (FrameRecord.stays_of_lost_add h)
        simp [stays, gone]

/-! ## Items end while the trunk is DOWN (R154) -/

theorem PortFrames.record_eq_none {f : PortFrames} {serial : Nat} (none : f.record serial = none) :
    ∀ r ∈ f.table, r.serial ≠ serial := by simpa [PortFrames.record] using none

theorem PortFrames.checkRelease_modRecord (f : PortFrames) (item : WorkItem) (flag : BitVec 32) :
    (f.modRecord item.serial fun r => r.outputEnded item flag).checkRelease item.serial =
      { f with table := f.table.filterMap (FrameRecord.afterItem flag item) } := by
  simp only [PortFrames.checkRelease, PortFrames.modRecord, PortFrames.mk.injEq, true_and, and_true]
  rw [← List.filterMap_eq_filter, List.filterMap_map]
  refine List.filterMap_congr fun x _ => ?_
  by_cases named : x.serial = item.serial
  · have same : (x.outputEnded item flag).serial = item.serial := named
    by_cases gone : (x.outputEnded item flag).releasable = true <;>
      simp [FrameRecord.afterItem, Option.guard, named, same, gone]
  · simp [FrameRecord.afterItem, Option.guard, named]

section
variable {h : Hub} {m : Memory} {p : Port} {item : WorkItem} {rest : List WorkItem}

/-- The head item ended: what is left of the records, and an IDLE pipeline with the items behind it. -/
def Hub.headEnded (h : Hub) (p : Port) (item : WorkItem) (rest : List WorkItem) (flag : BitVec 32) : Hub :=
  (h.modFrames p fun f => { f with table := f.table.filterMap (FrameRecord.afterItem flag item) }).modPipe p fun q =>
    { q with phase := .idle, work := rest, plan := none }

theorem Hub.endItem_of_cons (work : (h.pl p).work = item :: rest) (flag : BitVec 32) :
    h.endItem p flag = h.headEnded p item rest flag := by
  have frames : ((h.modRecord p item.serial fun r => r.outputEnded item flag).checkRelease p item.serial) =
      h.modFrames p fun f => { f with table := f.table.filterMap (FrameRecord.afterItem flag item) } := by
    rw [Hub.modRecord, Hub.checkRelease, Hub.modFrames_modFrames]
    exact congrArg _ (funext fun f => f.checkRelease_modRecord item flag)
  rw [Hub.headEnded, ← frames, Hub.endItem, work]
  rfl

theorem Hub.headEnded_of_absent (absent : (h.fr p).record item.serial = none) (flag flag' : BitVec 32) :
    h.headEnded p item rest flag = h.headEnded p item rest flag' := by
  have same (x : FrameRecord) (m : x ∈ (h.fr p).table) : x.afterItem flag item = x.afterItem flag' item := by
    rw [FrameRecord.afterItem, FrameRecord.afterItem, if_neg (PortFrames.record_eq_none absent x m),
      if_neg (PortFrames.record_eq_none absent x m)]
  have frames : h.modFrames p (fun f => { f with table := f.table.filterMap (FrameRecord.afterItem flag item) }) =
      h.modFrames p fun f => { f with table := f.table.filterMap (FrameRecord.afterItem flag' item) } :=
    Hub.modFrames_congr (by simp only [List.filterMap_congr same])
  rw [Hub.headEnded, frames, Hub.headEnded]

/-- A pipeline whose work list has drained (R154). -/
def Hub.drained (h : Hub) (p : Port) : Hub :=
  (h.modFrames p fun f => { f with table := f.table.filterMap (lostThrough (h.pl p).work) }).modPipe p fun q =>
    { q with phase := .idle, work := [], plan := none }

theorem Hub.drained_of_nil (work : (h.pl p).work = []) (idle : (h.pl p).phase = .idle) (plan : (h.pl p).plan = none) :
    h.drained p = h := by
  have frames : vmod h.frames p (fun f => { f with table := f.table.filterMap (lostThrough (h.pl p).work) }) = h.frames := by
    refine vmod_of_fixed ?_
    rw [work, show lostThrough [] = some from rfl, List.filterMap_some]
  have pipe : vmod h.pipe p (fun q => { q with phase := .idle, work := [], plan := none }) = h.pipe := by
    refine vmod_of_fixed ?_
    change { h.pl p with phase := .idle, work := [], plan := none } = h.pl p
    rw [← work, ← idle, ← plan]
  rw [Hub.drained, Hub.modPipe, Hub.modFrames, frames, pipe]

theorem Hub.drained_headEnded (work : (h.pl p).work = item :: rest) :
    (h.headEnded p item rest flagTrunkLost).drained p = h.drained p := by
  have left : ((h.headEnded p item rest flagTrunkLost).pl p).work = rest := by simp [Hub.headEnded]
  have through : lostThrough (item :: rest) = fun x => (x.afterItem flagTrunkLost item).bind (lostThrough rest) := rfl
  rw [Hub.drained, Hub.drained, left, work, Hub.headEnded]
  simp only [Hub.modPipe, Hub.modFrames, vmod_vmod, List.filterMap_filterMap, through]

/-- While the trunk is DOWN, an IDLE pipeline ends its items one after the other (R154). -/
theorem Hub.pipeRun_drains (m : Memory) (p : Port) : ∀ (n : Nat) (h : Hub), h.trunk.up = false →
    (h.pl p).phase = .idle → (h.pl p).plan = none → (h.pl p).work.length ≤ n → Hub.pipeRun m p n h = h.drained p
  | 0, h, _, idle, plan, fuel => (Hub.drained_of_nil (List.length_eq_zero_iff.mp (by omega)) idle plan).symm
  | n + 1, h, down, idle, plan, fuel => by
    match work : (h.pl p).work with
    | [] => rw [Hub.pipeRun, work, Hub.drained_of_nil work idle plan]
    | item :: rest =>
      have later : Hub.pipeRun m p n (h.headEnded p item rest flagTrunkLost) = h.drained p := by
        have left : ((h.headEnded p item rest flagTrunkLost).pl p).work.length ≤ n := by
          simpa [Hub.headEnded, work] using fuel
        rw [Hub.pipeRun_drains m p n (h.headEnded p item rest flagTrunkLost) down (by simp [Hub.headEnded])
          (by simp [Hub.headEnded]) left, Hub.drained_headEnded work]
      rw [Hub.pipeRun, work]
      dsimp only
      match record : (h.fr p).record item.serial with
      | none => rw [Hub.endItem_of_cons work, Hub.headEnded_of_absent record 0 flagTrunkLost, later]
      | some x =>
        simp only [idle, if_true, down, Bool.false_eq_true, if_false]
        rw [Hub.endItem_of_cons work, later]

/-- The loss at one pipeline: every item ends with TRUNK_LOST (R154). -/
theorem Hub.pipeTrunkLost_eq (m : Memory) (down : h.trunk.up = false) (idle : (h.pl p).phase = .idle → (h.pl p).plan = none) :
    h.pipeTrunkLost m p = h.drained p := by
  have drains (k : Hub) (off : k.trunk.up = false) (still : (k.pl p).phase = .idle) (none : (k.pl p).plan = none) :
      k.pipeWake m p = k.drained p := by
    rw [Hub.pipeWake, if_pos still, Hub.pipeAct,
      Hub.pipeRun_drains m p _ k off still none (by rw [Hub.pipeFuel]; omega)]
  rw [Hub.pipeTrunkLost]
  by_cases still : (h.pl p).phase = .idle
  · rw [if_pos still]
    exact drains h down still (idle still)
  · rw [if_neg still]
    match work : (h.pl p).work with
    | [] =>
      have ended : h.endItem p flagTrunkLost = h.modPipe p fun q => { q with phase := .idle, plan := none } := by
        rw [Hub.endItem, work]
      have left : ((h.modPipe p fun q => { q with phase := .idle, plan := none }).pl p).work = (h.pl p).work := by simp
      rw [ended, drains _ (by exact down) (by simp) (by simp), Hub.drained, Hub.drained, left]
      simp only [Hub.modPipe, Hub.modFrames, vmod_vmod]
    | item :: rest =>
      rw [Hub.endItem_of_cons work, drains _ (by exact down) (by simp [Hub.headEnded]) (by simp [Hub.headEnded]),
        Hub.drained_headEnded work]

end

end Sys2Proof.Machine

/-! # The trunk's loss and return (R156, R164, R165, R171) -/

namespace Sys2Proof.Machine

/-! ## The FRAME_CLOSEs that a loss finds (R164) -/

/-- A record marked TRUNK_LOST where its FRAME_CLOSE came at the time of the loss. -/
def FrameRecord.markLate (late : List Nat) (x : FrameRecord) : FrameRecord :=
  if x.serial ∈ late then { x with flags := x.flags ||| flagTrunkLost } else x

section
variable {h : Hub}

/-- At each port the loss marks the records of its own late FRAME_CLOSEs. -/
theorem Hub.allClosesLost (h : Hub) : (allPorts.foldl Hub.closesLost h).besideFrames = h.besideFrames ∧ ∀ p,
    (allPorts.foldl Hub.closesLost h).fr p =
      { h.fr p with table := (h.fr p).table.map (FrameRecord.markLate (h.closesAtLoss p)) } ∧
    (allPorts.foldl Hub.closesLost h).pl p = { h.pl p with closed := [] } := by
  refine ⟨foldl_keep Hub.besideFrames Hub.closesLost (fun _ _ => rfl) allPorts h, fun p => ?_⟩
  have each := foldl_allPorts (view := fun k p => (k.fr p, k.pl p)) (act := Hub.closesLost) (Inv := fun k => k.trunk = h.trunk)
    (effect := fun p (f, q) =>
      let late := q.closed.drop (q.closed.length - h.heldCloses p)
      ({ f with table := f.table.map (FrameRecord.markLate late) }, { q with closed := [] }))
    (fun _ _ same => same) ?own ?other (k := h) rfl p
  case own =>
    intro k p same
    have held : k.heldCloses p = h.heldCloses p := by rw [Hub.heldCloses, same, ← Hub.heldCloses]
    dsimp only
    rw [← held]
    simp only [Hub.closesLost, Hub.closesAtLoss, Hub.modPipe_fr, Hub.modFrames_fr_same, Hub.modPipe_pl_same, Hub.modFrames_pl]
    rfl
  case other =>
    intro k p o _ e
    simp [Hub.closesLost, Hub.modPipe_pl_ne _ _ _ e, Hub.modFrames_fr_ne _ _ _ e]
  exact Prod.mk.inj each

/-! ## The pipelines at a loss (R154) -/

/-- Every pipeline drains, and the rest of the hub stays. -/
theorem Hub.allPipesLost (m : Memory) (down : h.trunk.up = false) (idle : ∀ p, (h.pl p).phase = .idle → (h.pl p).plan = none) :
    let h' := allPorts.foldl (fun k p => k.pipeTrunkLost m p) h
    h'.besideFrames = h.besideFrames ∧ ∀ p,
      h'.fr p = { h.fr p with table := (h.fr p).table.filterMap (lostThrough (h.pl p).work) } ∧
      h'.pl p = { h.pl p with phase := .idle, work := [], plan := none } := by
  let Inv (k : Hub) : Prop := k.besideFrames = h.besideFrames ∧ ∀ p, (k.pl p).phase = .idle → (k.pl p).plan = none
  have drains {k : Hub} {p : Port} (inv : Inv k) : k.pipeTrunkLost m p = k.drained p := by
    obtain ⟨same, still⟩ := inv
    have off : k.trunk.up = false := (congrArg (fun k : Hub => k.trunk.up) same).trans down
    exact Hub.pipeTrunkLost_eq m off (still p)
  have other {k : Hub} {p o : Port} (e : o ≠ p) : (k.drained p).pl o = k.pl o := by
    simp [Hub.drained, Hub.modPipe_pl_ne _ _ _ e]
  have keeps (k : Hub) (p : Port) (inv : Inv k) : Inv (k.pipeTrunkLost m p) := by
    rw [drains inv]
    obtain ⟨same, still⟩ := inv
    refine ⟨same, fun o => ?_⟩
    by_cases e : o = p
    · subst e
      simp [Hub.drained]
    · rw [other e]
      exact still o
  refine ⟨(foldl_inv keeps allPorts h ⟨rfl, idle⟩).1, fun p => ?_⟩
  have each := foldl_allPorts (view := fun k p => (k.fr p, k.pl p)) (act := fun k p => k.pipeTrunkLost m p) (Inv := Inv)
    (effect := fun _ (f, q) => ({ f with table := f.table.filterMap (lostThrough q.work) },
      { q with phase := .idle, work := [], plan := none })) keeps
    (fun k p inv => by rw [drains inv]; simp [Hub.drained])
    (fun k p o inv e => by
      rw [drains inv, other e]
      simp [Hub.drained, Hub.modFrames_fr_ne _ _ _ e]) (k := h) ⟨rfl, idle⟩ p
  exact Prod.mk.inj each

/-! ## The replies that answered slots keep (R171) -/

/-- The slots of a list freed. -/
def freeSlots (l : List SlotNo) (slots : Vector Slot 4) : Vector Slot 4 := l.foldl (fun v i => vset v i .free) slots

theorem vget_freeSlots (i : SlotNo) : ∀ (l : List SlotNo) (slots : Vector Slot 4),
    vget (freeSlots l slots) i = if i ∈ l then .free else vget slots i
  | [], slots => by simp [freeSlots]
  | j :: l, slots => by
    rw [show freeSlots (j :: l) slots = freeSlots l (vset slots j .free) from rfl, vget_freeSlots i l, vget_vset]
    by_cases own : i = j <;> simp [own]

/-- The hub when the replies that some answered slots keep have been discarded, others being kept. -/
def Hub.keptDiscarded (h : Hub) (gone kept : List SlotNo) : Hub :=
  (h.modTrunk fun t => { t with discarded := t.discarded + BitVec.ofNat 32 gone.length }).modMgmt fun u =>
    { u with answered := kept, slots := freeSlots gone u.slots }

theorem Hub.offerAnswered_down {i : SlotNo} {rest : List SlotNo} {reply : Packet} (down : h.trunk.up = false)
    (first : h.mgmt.answered = i :: rest) (keeps : vget h.mgmt.slots i = .answered reply) :
    h.offerAnswered = h.keptDiscarded [i] rest := by
  have offered : h.offerReply reply = (h.modTrunk fun t => { t with discarded := t.discarded + 1 }, .gone) := by
    rw [Hub.offerReply, down]
    rfl
  rw [Hub.offerAnswered, first]
  dsimp only
  rw [keeps]
  dsimp only
  rw [offered, if_neg (by simp)]
  rfl

theorem Hub.keptDiscarded_nil (empty : h.mgmt.answered = []) : h.keptDiscarded [] [] = h := by
  change { h with
    trunk := { h.trunk with discarded := h.trunk.discarded + 0#32 }, mgmt := { h.mgmt with answered := [] } } = h
  rw [BitVec.add_zero, ← empty]

theorem Hub.keptDiscarded_cons (i : SlotNo) (l rest kept : List SlotNo) :
    (h.keptDiscarded [i] rest).keptDiscarded l kept = h.keptDiscarded (i :: l) kept := by
  have count : BitVec.ofNat 32 (l.length + 1) = BitVec.ofNat 32 1 + BitVec.ofNat 32 l.length := by
    rw [Nat.add_comm, BitVec.ofNat_add]
  simp only [Hub.keptDiscarded, Hub.modTrunk, Hub.modMgmt, List.length_cons, List.length_nil, Nat.zero_add, count,
    BitVec.add_assoc]
  rfl

theorem Hub.offersAnswered_down : ∀ (l : List SlotNo) (h : Hub), h.trunk.up = false → h.mgmt.answered = l → l.Nodup →
    (∀ i ∈ l, ∃ reply, vget h.mgmt.slots i = .answered reply) →
      l.foldl (fun k _ => k.offerAnswered) h = h.keptDiscarded l []
  | [], h, _, empty, _, _ => (Hub.keptDiscarded_nil empty).symm
  | i :: l, h, down, all, distinct, keep => by
    obtain ⟨fresh, distinct⟩ := List.nodup_cons.mp distinct
    obtain ⟨reply, keeps⟩ := keep i List.mem_cons_self
    have later (j : SlotNo) (m : j ∈ l) : ∃ reply, vget (h.keptDiscarded [i] l).mgmt.slots j = .answered reply := by
      obtain ⟨reply, keeps⟩ := keep j (List.mem_cons_of_mem i m)
      have other : j ∉ [i] := fun e => fresh (List.mem_singleton.mp e ▸ m)
      exact ⟨reply, by rw [← keeps]; exact (vget_freeSlots j [i] _).trans (if_neg other)⟩
    rw [List.foldl_cons, Hub.offerAnswered_down down all keeps,
      Hub.offersAnswered_down l (h.keptDiscarded [i] l) down rfl distinct later, Hub.keptDiscarded_cons]

/-- While the trunk is DOWN the kept replies are discarded, and their slots are FREE (R171). -/
theorem Hub.offerDue_down (down : h.trunk.up = false) (kept : h.KeptReplies) :
    h.offerDue = h.keptDiscarded h.mgmt.answered [] :=
  Hub.offersAnswered_down _ h down rfl kept.1 fun i m => (kept.2 i).mp m

end

/-! ## The loss as a whole -/

/-- The records that a loss leaves: those its items and its late FRAME_CLOSEs name are marked, and one that nothing else keeps
is released (R133, R154, R164). -/
theorem lost_table (late : List Nat) (work : List WorkItem) (table : List FrameRecord) :
    (table.map (FrameRecord.markLate late)).filterMap (lostThrough work) =
      (table.map fun x => if itemsOf work x = [] then x.markLate late else x.lost (resendCount (itemsOf work x))).filter
        fun x => itemsOf work x = [] || x.held || x.retained || !x.resends.isEmpty := by
  rw [List.filterMap_map, ← List.filterMap_eq_filter, List.filterMap_map]
  refine List.filterMap_congr fun x _ => ?_
  have named : itemsOf work (x.markLate late) = itemsOf work x := by
    unfold FrameRecord.markLate
    split <;> rfl
  have marked (n : Nat) : (x.markLate late).lost n = x.lost n := by
    unfold FrameRecord.markLate
    split <;> simp [FrameRecord.lost, BitVec.or_assoc]
  rw [Function.comp_apply, Function.comp_apply, lostThrough_eq, named, marked]
  by_cases none : itemsOf work x = []
  · simp [none, named, Option.guard]
  · have same (n : Nat) : itemsOf work (x.lost n) = itemsOf work x := rfl
    simp only [none, same, if_false, Option.guard, decide_false, Bool.false_or, FrameRecord.stays]
    rfl

section
variable {h : Hub} (m : Memory) (awake : h.mgmt.taking ≠ .resetting) (kept : h.KeptReplies)
  (idle : ∀ p, (h.pl p).phase = .idle → (h.pl p).plan = none)
include awake kept idle

/-- What the loss leaves of the hub beside frame records and pipelines, and at each port (R154, R164, R171). -/
theorem Hub.trunkLost_eq : (h.trunkLost m).besideFrames = ((h.modTrunk Trunk.lose).keptDiscarded h.mgmt.answered []).besideFrames ∧
    ∀ p, (h.trunkLost m).fr p = { h.fr p with
        table := ((h.fr p).table.map (FrameRecord.markLate (h.closesAtLoss p))).filterMap (lostThrough (h.pl p).work) } ∧
      (h.trunkLost m).pl p = { phase := .idle, work := [], plan := none, closed := [] } := by
  obtain ⟨closed, marked⟩ := h.allClosesLost
  have whole : h.trunkLost m = allPorts.foldl (fun k p => k.pipeTrunkLost m p)
      ((allPorts.foldl Hub.closesLost h).modTrunk Trunk.lose).offerDue := by
    simp [Hub.trunkLost, awake]
  generalize allPorts.foldl Hub.closesLost h = k at closed marked whole
  have mgmt : k.mgmt = h.mgmt := (congrArg Hub.mgmt closed :)
  rw [Hub.offerDue_down (h := k.modTrunk Trunk.lose) rfl (by unfold Hub.KeptReplies; exact mgmt ▸ kept)] at whole
  obtain ⟨same, lost⟩ := Hub.allPipesLost (h := (k.modTrunk Trunk.lose).keptDiscarded k.mgmt.answered []) m rfl
    fun p still => by
      have pl : k.pl p = _ := (marked p).2
      change (k.pl p).plan = none
      rw [pl]
      exact idle p (by rw [← still]; exact (congrArg Pipeline.phase pl).symm)
  rw [whole]
  refine ⟨same.trans ?_, fun p => ⟨(lost p).1.trans ?_, (lost p).2.trans ?_⟩⟩
  · rw [mgmt]
    exact (congrArg (fun b : Hub => ((b.modTrunk Trunk.lose).keptDiscarded h.mgmt.answered []).besideFrames) closed :)
  · change { k.fr p with table := (k.fr p).table.filterMap (lostThrough (k.pl p).work) } = _
    rw [(marked p).1, (marked p).2]
  · change { k.pl p with phase := .idle, work := [], plan := none } = _
    rw [(marked p).2]

end

/-! ## The return of the trunk -/

theorem Hub.pipeWake_of_settled {h : Hub} {p : Port} (m : Memory) (settled : (h.pl p).phase ≠ .idle ∨ (h.pl p).work = []) :
    h.pipeWake m p = h := by
  rw [Hub.pipeWake]
  rcases settled with busy | none
  · rw [if_neg busy]
  · rw [Hub.pipeAct, Hub.pipeFuel, Hub.pipeRun, none, ite_self]

/-- Where no pipeline waits for the trunk, its return sets TRUNK alone (R156, R165). -/
theorem Hub.trunkReturns_of_settled {h : Hub} (m : Memory) (settled : ∀ p, (h.pl p).phase ≠ .idle ∨ (h.pl p).work = []) :
    h.trunkReturns m = (h.modTrunk fun t => { t with up := true }).flagPart fTrunk := by
  have same : ((h.modTrunk fun t => { t with up := true }).flagPart fTrunk).pipe = h.pipe := by simp
  rw [Hub.trunkReturns]
  generalize (h.modTrunk fun t => { t with up := true }).flagPart fTrunk = k at same
  have settled (p : Port) : (k.pl p).phase ≠ .idle ∨ (k.pl p).work = [] := by
    unfold Hub.pl
    exact same ▸ settled p
  exact List.foldl_fixed' (fun p => Hub.pipeWake_of_settled m (settled p)) allPorts

end Sys2Proof.Machine

/-! # The end of a send (R157, R159, R162) -/

namespace Sys2Proof.Machine

/-! ## Queues -/

theorem queue_cases (q : QueueNo) : q = 8 ∨ ∃ p : Port, p.val = q.val := by
  by_cases reply : q.val = 8
  · exact .inl (Fin.ext reply)
  · exact .inr ⟨⟨q.val, by have := q.isLt; omega⟩, rfl⟩

theorem asFin_of_val {n k : Nat} {p : Fin n} (e : p.val = k) : asFin n k = some p := by
  subst e
  simp [asFin]

theorem Hub.queuePackets_reply (h : Hub) : h.queuePackets 8 = h.trunk.replies := rfl

theorem Hub.queuePackets_port {q : QueueNo} {p : Port} (e : p.val = q.val) (h : Hub) :
    h.queuePackets q = vget h.trunk.images p := by
  rw [Hub.queuePackets, asFin_of_val e]

theorem Trunk.dropHead_reply (t : Trunk) : t.dropHead 8 = { t with replies := t.replies.tail } := rfl

theorem Trunk.dropHead_port {q : QueueNo} {p : Port} (e : p.val = q.val) (t : Trunk) :
    t.dropHead q = { t with images := vmod t.images p List.tail } := by
  rw [Trunk.dropHead, asFin_of_val e]

/-! ## A pipeline's packets join its own image queue -/

/-- From h to h', packets have joined the image queue of one port alone, behind those it held. -/
structure Hub.ImagesGrow (p : Port) (h h' : Hub) : Prop where
  others : ∀ o, o ≠ p → vget h'.trunk.images o = vget h.trunk.images o
  own : ∃ more, vget h'.trunk.images p = vget h.trunk.images p ++ more

section
variable {h k : Hub} {p : Port}

theorem Hub.ImagesGrow.of_same (same : k.trunk.images = h.trunk.images) : h.ImagesGrow p k :=
  ⟨fun _ _ => by rw [same], [], by rw [same, List.append_nil]⟩

theorem Hub.ImagesGrow.trans {j : Hub} (a : h.ImagesGrow p k) (b : k.ImagesGrow p j) : h.ImagesGrow p j := by
  obtain ⟨more, own⟩ := a.own
  obtain ⟨more', own'⟩ := b.own
  exact ⟨fun o e => (b.others o e).trans (a.others o e), more ++ more', by rw [own', own, List.append_assoc]⟩

theorem Hub.placeImage_own (pkt : Packet) : vget (h.placeImage p pkt).trunk.images p = vget h.trunk.images p ++ [pkt] :=
  vget_vmod_same _ _ _

theorem Hub.placeImage_grows (pkt : Packet) : h.ImagesGrow p (h.placeImage p pkt) :=
  ⟨fun _ e => vget_vmod_ne _ _ e, [pkt], Hub.placeImage_own pkt⟩

theorem Hub.endItem_images (h : Hub) (p : Port) (flag : BitVec 32) : (h.endItem p flag).trunk.images = h.trunk.images := by
  unfold Hub.endItem
  split <;> rfl

theorem Hub.beginItem_images (h : Hub) (p : Port) (item : WorkItem) (x : FrameRecord) :
    (h.beginItem p item x).trunk.images = h.trunk.images := by
  rw [Hub.beginItem_eq]
  rfl

theorem Hub.pipeRun_grows (m : Memory) (p : Port) : ∀ (n : Nat) (h : Hub), h.ImagesGrow p (Hub.pipeRun m p n h)
  | 0, h => .of_same rfl
  | n + 1, h => by
    have later {k : Hub} (grown : h.ImagesGrow p k) : h.ImagesGrow p (Hub.pipeRun m p n k) :=
      grown.trans (Hub.pipeRun_grows m p n k)
    unfold Hub.pipeRun
    split
    · exact .of_same rfl
    · split
      · exact later (.of_same (h.endItem_images p 0))
      · split
        · split
          · exact later (.of_same (h.beginItem_images p _ _))
          · exact later (.of_same (h.endItem_images p flagTrunkLost))
        · split
          · exact .of_same rfl
          · dsimp only
            split
            · have taken := Hub.placeImage_grows (h := h) (p := p)
              split
              · split
                · exact later ((taken _).trans (.of_same rfl))
                · exact (taken _).trans (.of_same rfl)
              · exact (taken _).trans (.of_same rfl)
              · exact later ((taken _).trans (.of_same (Hub.endItem_images _ p 0)))
            · exact .of_same rfl

/-! ## A waiting pipeline offers its packet again (R157) -/

section
variable {m : Memory} {item : WorkItem} {work : List WorkItem} {x : FrameRecord} {plan : OutputPlan}
  (waits : (h.pl p).phase = .waiting) (items : (h.pl p).work = item :: work)
  (record : (h.fr p).record item.serial = some x) (plans : (h.pl p).plan = some plan)
include waits items record plans

/-- What the packet of a waiting pipeline comes to. -/
theorem Hub.pipeAct_of_waiting : ∃ n, h.pipeAct m p =
    if h.imageFits p (h.emission m p plan item x) then
      let taken := h.placeImage p (h.emission m p plan item x)
      match plan.next with
      | .frameOpen =>
        let opened := taken.planTaken p fun q => { q with opened := true }
        if plan.empty then Hub.pipeRun m p n opened else opened
      | .imageLine k => taken.planTaken p fun q => { q with nextLine := k + 1 }
      | .frameClose => Hub.pipeRun m p n ((taken.closeTaken p item.serial).endItem p 0)
    else h.modPipe p fun q => { q with phase := .waiting } := by
  refine ⟨3 * (h.pl p).work.length, ?_⟩
  rw [Hub.pipeAct, Hub.pipeFuel, Hub.pipeRun, items]
  dsimp only
  rw [record]
  dsimp only
  rw [if_neg (by rw [waits]; decide), plans] <;> rfl

theorem Hub.pipeAct_of_full (full : h.imageFits p (h.emission m p plan item x) = false) : h.pipeAct m p = h := by
  obtain ⟨n, act⟩ := Hub.pipeAct_of_waiting (m := m) waits items record plans
  rw [act, full, if_neg Bool.false_ne_true, Hub.modPipe, vmod_of_fixed]
  change { h.pl p with phase := .waiting } = h.pl p
  rw [← waits]

theorem Hub.pipeAct_of_open (fits : h.imageFits p (h.emission m p plan item x) = true) (new : plan.opened = false)
    (inside : plan.empty = false) : h.pipeAct m p =
      (h.placeImage p (h.emission m p plan item x)).planTaken p fun q => { q with opened := true } := by
  obtain ⟨n, act⟩ := Hub.pipeAct_of_waiting (m := m) waits items record plans
  have next : plan.next = .frameOpen := by simp [OutputPlan.next, new]
  simp only [act, fits, if_true, next, inside, Bool.false_eq_true, if_false]

theorem Hub.pipeAct_of_line (fits : h.imageFits p (h.emission m p plan item x) = true) (opened : plan.opened = true)
    (more : plan.nextLine < plan.lines) : h.pipeAct m p =
      (h.placeImage p (h.emission m p plan item x)).planTaken p fun q => { q with nextLine := plan.nextLine + 1 } := by
  obtain ⟨n, act⟩ := Hub.pipeAct_of_waiting (m := m) waits items record plans
  have next : plan.next = .imageLine plan.nextLine := by simp [OutputPlan.next, opened, more]
  simp only [act, fits, if_true, next]

/-- A packet that fits is taken behind those of its queue; what the taking lets follow stands behind it. -/
theorem Hub.pipeAct_of_fits (fits : h.imageFits p (h.emission m p plan item x) = true) :
    (h.placeImage p (h.emission m p plan item x)).ImagesGrow p (h.pipeAct m p) := by
  obtain ⟨n, act⟩ := Hub.pipeAct_of_waiting (m := m) waits items record plans
  rw [act, if_pos fits]
  dsimp only
  have later {k : Hub} (same : k.trunk.images = (h.placeImage p (h.emission m p plan item x)).trunk.images) :
      (h.placeImage p (h.emission m p plan item x)).ImagesGrow p (Hub.pipeRun m p n k) :=
    Hub.ImagesGrow.trans (.of_same same) (Hub.pipeRun_grows m p n k)
  split
  · split
    · exact later rfl
    · exact .of_same rfl
  · exact .of_same rfl
  · exact later (Hub.endItem_images _ p 0)

end

theorem Hub.planTaken_pl {plan : OutputPlan} (f : OutputPlan → OutputPlan) (plans : (h.pl p).plan = some plan) :
    (h.planTaken p f).pl p = { h.pl p with phase := .running, plan := some (f plan) } := by
  simp [Hub.planTaken, plans]

end

/-! ## The head of the granted queue leaves (R159) -/

/-- The granted queue's head packet on the lane. -/
def Hub.headLeft (h : Hub) (g : Grant) (pkt : Packet) : Hub :=
  h.modTrunk fun t =>
    { t.dropHead g.queue with
      lane := some (g.queue, pkt)
      grant := some { g with sent := g.sent + 1 }
      sent := vmod t.sent g.queue (· + 1) }

section
variable {h : Hub} {g : Grant} {pkt : Packet} {rest : List Packet} {p : Port}

theorem Hub.headLeft_images (own : p.val = g.queue.val) :
    (h.headLeft g pkt).trunk.images = vmod h.trunk.images p List.tail := by
  simp only [Hub.headLeft, Hub.modTrunk, Trunk.dropHead_port own]

theorem Hub.headLeft_replies (own : p.val = g.queue.val) : (h.headLeft g pkt).trunk.replies = h.trunk.replies := by
  simp only [Hub.headLeft, Hub.modTrunk, Trunk.dropHead_port own]

theorem Hub.headLeft_own (packets : h.queuePackets g.queue = pkt :: rest) : (h.headLeft g pkt).queuePackets g.queue = rest := by
  obtain reply | ⟨p, own⟩ := queue_cases g.queue
  · rw [reply, Hub.queuePackets_reply] at packets ⊢
    simp only [Hub.headLeft, Hub.modTrunk, reply, Trunk.dropHead_reply, packets, List.tail_cons]
  · rw [Hub.queuePackets_port own] at packets ⊢
    rw [Hub.headLeft_images own, vget_vmod_same, packets, List.tail_cons]

theorem Hub.headLeft_other {o : QueueNo} (other : o ≠ g.queue) : (h.headLeft g pkt).queuePackets o = h.queuePackets o := by
  obtain reply | ⟨p, own⟩ := queue_cases g.queue
  · obtain also | ⟨p', own'⟩ := queue_cases o
    · exact absurd (also.trans reply.symm) other
    · rw [Hub.queuePackets_port own', Hub.queuePackets_port own']
      simp only [Hub.headLeft, Hub.modTrunk, reply, Trunk.dropHead_reply]
  · obtain also | ⟨p', own'⟩ := queue_cases o
    · rw [also, Hub.queuePackets_reply, Hub.queuePackets_reply, Hub.headLeft_replies own]
    · have apart : p' ≠ p := fun e => other (Fin.ext (by rw [← own', ← own, e]))
      rw [Hub.queuePackets_port own', Hub.queuePackets_port own', Hub.headLeft_images own, vget_vmod_ne _ _ apart]

/-- The send of a queue's head begins; a pipeline that waits for the room offers its packet again (R157, R159). -/
theorem Hub.beginSend_eq (m : Memory) (grant : h.trunk.grant = some g) (packets : h.queuePackets g.queue = pkt :: rest) :
    (g.queue = 8 → h.beginSend m = h.headLeft g pkt) ∧
    ∀ p : Port, p.val = g.queue.val → h.beginSend m =
      if (h.pl p).phase = .waiting then (h.headLeft g pkt).pipeAct m p else h.headLeft g pkt := by
  have begun : h.beginSend m = match asFin 8 g.queue.val with
      | some p => if ((h.headLeft g pkt).pl p).phase = .waiting then (h.headLeft g pkt).pipeAct m p else h.headLeft g pkt
      | none => h.headLeft g pkt := by
    rw [Hub.beginSend, grant]
    dsimp only
    rw [packets]
    rfl
  refine ⟨fun reply => ?_, fun p own => ?_⟩
  · rw [begun, reply]
    rfl
  · rw [begun, asFin_of_val own]
    rfl

/-- The send begun: no other queue changes. -/
theorem Hub.beginSend_others (m : Memory) (grant : h.trunk.grant = some g) (packets : h.queuePackets g.queue = pkt :: rest)
    {o : QueueNo} (other : o ≠ g.queue) : (h.beginSend m).queuePackets o = h.queuePackets o := by
  obtain ⟨ofReply, ofImage⟩ := Hub.beginSend_eq m grant packets
  refine Eq.trans ?_ (Hub.headLeft_other (h := h) (pkt := pkt) other)
  obtain reply | ⟨p, own⟩ := queue_cases g.queue
  · rw [ofReply reply]
  · rw [ofImage p own]
    split
    case isFalse => rfl
    case isTrue =>
      obtain also | ⟨p', own'⟩ := queue_cases o
      · rw [also, Hub.queuePackets_reply, Hub.queuePackets_reply]
        simp
      · have apart : p' ≠ p := fun e => other (Fin.ext (by rw [← own', ← own, e]))
        rw [Hub.queuePackets_port own', Hub.queuePackets_port own']
        exact (Hub.pipeRun_grows m p _ (h.headLeft g pkt)).others p' apart

/-- What a begun send leaves on the lane, and of the management unit. -/
theorem Hub.beginSend_lane (m : Memory) (grant : h.trunk.grant = some g) (packets : h.queuePackets g.queue = pkt :: rest) :
    (h.beginSend m).trunk.lane = some (g.queue, pkt) ∧ (h.beginSend m).trunk.grant = some { g with sent := g.sent + 1 } ∧
      (h.beginSend m).trunk.sent = vmod h.trunk.sent g.queue (· + 1) ∧ (h.beginSend m).mgmt = h.mgmt := by
  obtain ⟨ofReply, ofImage⟩ := Hub.beginSend_eq m grant packets
  have left : (h.headLeft g pkt).trunk.lane = some (g.queue, pkt) ∧
      (h.headLeft g pkt).trunk.grant = some { g with sent := g.sent + 1 } ∧
      (h.headLeft g pkt).trunk.sent = vmod h.trunk.sent g.queue (· + 1) ∧ (h.headLeft g pkt).mgmt = h.mgmt :=
    ⟨rfl, rfl, rfl, rfl⟩
  obtain reply | ⟨p, own⟩ := queue_cases g.queue
  · rw [ofReply reply]
    exact left
  · rw [ofImage p own]
    split
    · simpa using left
    · exact left

/-- The granted queue after the send has begun, and the pipeline that waited for it (R157, R159). -/
theorem Hub.beginSend_begun (m : Memory) (grant : h.trunk.grant = some g) (packets : h.queuePackets g.queue = pkt :: rest) :
    h.SendBegun (h.beginSend m) m g.queue rest := by
  obtain ⟨ofReply, ofImage⟩ := Hub.beginSend_eq m grant packets
  have left := Hub.headLeft_own packets
  refine ⟨fun quiet => ?_, fun p item work x plan own waits items record plans => ?_⟩
  · have begun : h.beginSend m = h.headLeft g pkt := by
      obtain reply | ⟨p, own⟩ := queue_cases g.queue
      · exact ofReply reply
      · have still : (h.pl p).phase ≠ .waiting := by
          rcases quiet with reply | quiet
          · have := congrArg Fin.val reply
            omega
          · exact quiet p own
        rw [ofImage p own, if_neg still]
    rw [begun]
    exact ⟨left, rfl, rfl⟩
  · rw [ofImage p own, if_pos waits]
    rw [Hub.queuePackets_port own] at left
    have room : (h.headLeft g pkt).imageFits p (h.emission m p plan item x) =
        decide (occupancy rest + packetSize (h.emission m p plan item x) ≤ 65536) := by
      rw [Hub.imageFits, left, imageQueueBytes]
    refine ⟨fun full => ?_, fun fits => ?_⟩
    · have stuck := Hub.pipeAct_of_full (h := h.headLeft g pkt) (m := m) waits items record plans
        (room.trans (decide_eq_false (by omega)))
      rw [stuck, Hub.queuePackets_port own]
      exact ⟨left, rfl, rfl⟩
    · have fits : (h.headLeft g pkt).imageFits p ((h.headLeft g pkt).emission m p plan item x) = true :=
        room.trans (decide_eq_true fits)
      have placed := Hub.placeImage_own (h := h.headLeft g pkt) (p := p) (h.emission m p plan item x)
      rw [left] at placed
      refine ⟨?_, fun new inside => ?_, fun opened more => ?_⟩
      · obtain ⟨more, grown⟩ := (Hub.pipeAct_of_fits (h := h.headLeft g pkt) waits items record plans fits).own
        refine ⟨more, ?_⟩
        rw [Hub.queuePackets_port own, grown]
        exact (congrArg (· ++ more) placed).trans (by rw [List.append_assoc]; rfl)
      · rw [Hub.pipeAct_of_open (h := h.headLeft g pkt) waits items record plans fits new inside, Hub.queuePackets_port own]
        exact ⟨placed, Hub.planTaken_pl _ plans⟩
      · rw [Hub.pipeAct_of_line (h := h.headLeft g pkt) waits items record plans fits opened more, Hub.queuePackets_port own]
        exact ⟨placed, Hub.planTaken_pl _ plans⟩

/-! ## The end of the send under way (R159, R162) -/

section
variable {q : QueueNo} (lane : h.trunk.lane = some (q, pkt)) (awake : h.mgmt.taking ≠ .resetting)
  (grant : h.trunk.grant = some g)
include lane awake grant

theorem Hub.sendEnd_eq (m : Memory) : h.sendEnd m =
    if g.burst ≤ g.sent || !h.waits g.queue then h.modTrunk fun t => { t with lane := none, grant := none }
    else (h.modTrunk fun t => { t with lane := none }).beginSend m := by
  rw [Hub.sendEnd, lane]
  simp only [Hub.modTrunk_mgmt, awake, decide_false, Bool.false_and, Bool.false_eq_true, if_false]
  change (match h.trunk.grant with | none => _ | some g => _) = _
  rw [grant]
  rfl

/-- The grant ends with its burst, or with the packets of its queue. -/
theorem Hub.sendEnd_of_over (m : Memory) (spent : g.burst ≤ g.sent ∨ h.queuePackets g.queue = []) :
    h.sendEnd m = h.modTrunk fun t => { t with lane := none, grant := none } := by
  rw [Hub.sendEnd_eq lane awake grant, if_pos]
  simpa [Hub.waits] using spent

theorem Hub.sendEnd_of_more {next : Packet} (m : Memory) (more : g.sent < g.burst)
    (packets : h.queuePackets g.queue = next :: rest) :
    h.sendEnd m = (h.modTrunk fun t => { t with lane := none }).beginSend m := by
  rw [Hub.sendEnd_eq lane awake grant, if_neg]
  simpa [Hub.waits, packets] using more

end

end

/-! ## The obligation -/

/-- The trunk's part of a loss, and the kept replies' (R164, R171). -/
theorem Trunk.lose_discarded (t : Trunk) (n : Nat) :
    t.lose.discarded + BitVec.ofNat 32 n = t.discarded +
      BitVec.ofNat 32 (([0, 1, 2, 3, 4, 5, 6, 7].map fun p : Port => (vget t.images p).length).sum + t.replies.length + n) := by
  rw [BitVec.ofNat_add _ n, ← BitVec.add_assoc]
  rfl

/-- Settles O60: the loss is the drained pipelines over the emptied queues, and the send that goes on is the granted queue's
head on the lane. -/
theorem trunkEventsAct : Obligations.TrunkEventsAct := by
  intro s q pkt next rest g
  refine ⟨fun up => ?again, fun down settled => ?returns, fun down => ?gone, fun up awake kept idle => ?loss,
    fun free => ?none, fun lane awake grant => ⟨fun spent => ?spent, fun more packets => ?sends⟩⟩
  case again => exact State.next_of_not_when (f := fun h => h.trunkReturns s.dram) rfl (by simp [up])
  case returns =>
    have does := State.does_of_when (s := s) (i := .trunkUp) (f := fun h => h.trunkReturns s.dram) rfl (by simp [down])
    rwa [Hub.trunkReturns_of_settled s.dram settled] at does
  case gone => exact State.next_of_not_when (f := fun h => h.trunkLost s.dram) rfl down
  case loss =>
    have does : s.Does .trunkLoss (s.hub.trunkLost s.dram) := State.does_of_when (f := fun h => h.trunkLost s.dram) rfl up
    obtain ⟨outside, ports⟩ := Hub.trunkLost_eq s.dram awake kept idle
    generalize s.hub.trunkLost s.dram = h' at does outside ports
    obtain ⟨trunk, mgmt, power, link, lens, trig, view, cable, cables⟩ := Hub.units_of_beside outside
    refine ⟨h', does, trunk.trans ?_, ?_, fun i => ?_, power, link, lens, trig, view, cable, cables,
      fun p => ⟨(ports p).2, (ports p).1.trans ?_⟩⟩
    · rw [← Trunk.lose_discarded]
      rfl
    · rw [mgmt]
      rfl
    · rw [mgmt]
      exact vget_freeSlots i s.hub.mgmt.answered s.hub.mgmt.slots
    · rw [lost_table]
      rfl
  case none => exact State.next_of_not_when (f := fun h => h.sendEnd s.dram) rfl (by simp [free])
  case spent =>
    have does := State.does_of_when (s := s) (i := .packetSendEnd) (f := fun h => h.sendEnd s.dram) rfl (by simp [lane])
    rwa [Hub.sendEnd_of_over lane awake grant s.dram spent] at does
  case sends =>
    have does := State.does_of_when (s := s) (i := .packetSendEnd) (f := fun h => h.sendEnd s.dram) rfl (by simp [lane])
    rw [Hub.sendEnd_of_more lane awake grant s.dram more packets] at does
    let free := s.hub.modTrunk fun t => { t with lane := none }
    obtain ⟨onLane, granted, sent, mgmt⟩ := Hub.beginSend_lane (h := free) s.dram grant packets
    refine ⟨free.beginSend s.dram, does, onLane, granted, ?_, fun o other => ⟨?_, ?_⟩, mgmt, ?_⟩
    · rw [sent]
      exact vget_vmod_same _ _ _
    · rw [sent]
      exact vget_vmod_ne _ _ other
    · exact Hub.beginSend_others (h := free) s.dram grant packets other
    · exact Hub.beginSend_begun (h := free) s.dram grant packets

end Sys2Proof.Machine
